-- ==== Sys2Proof/Word.lean ====
section
/-! DEFINITION. The word types of the Slovor's registers and memories (00_scope R16), and the
plain-data shape of a sparse table. -/
namespace Sys2Proof

/-- One byte of a memory, a frame or an image. -/
abbrev Byte := BitVec 8

/-- One register: 32 bits, little-endian (R16). -/
abbrev Word := BitVec 32

/-- A 64-bit value: a Breik identity (R93), a time stamp (R20), a host address. -/
abbrev Quad := BitVec 64

/-- A sparse table from a number (a port, a point, a record) to a value: keys strictly rising, and
no entry equal to the value an unlisted key stands for, so equal tables are equal lists. -/
abbrev Tbl (α : Type) := List (Nat × α)

end Sys2Proof
end

