-- ==== Sys2Proof/Syntax.lean ====
section
/-! DEFINITION. The commands of the Slovor SM-8192: one constructor per row of the opcode table, in the table's
order. The first operand `t` of each is its instant, in ticks of the 256 MHz sampling clock (R21). What other operands
a command carries is what reaches the machine from outside with it (a received frame, a register value, a reading). -/
namespace Sys2Proof

inductive Instr where
  /-- BEAM_DIE_RESET_EXIT (R525). The Beam die leaves reset: it samples the straps and sets the role, increments BOOT_ID, sets the cycle count to 0, empties the pole, starts acquisition and starts the boot ROM. -/
  | beamDieResetExit (t : Nat) (roleSel : Nat) (slot : Nat)
  /-- ZX_EDGE_QUALIFIED (R28). A ZXA or ZXB transition has held for the glitch time; the edge is accepted or rejected, acquisition is evaluated and the phase is corrected. -/
  | zxEdgeQualified (t : Nat) (inputB : Bool) (stamp : Nat)
  /-- PHASE_HOLD_END (R31). A hold has lasted |e| au of time and the angle runs on. -/
  | phaseHoldEnd (t : Nat)
  /-- PHASE_SLEW_END (R31). A slew has run for one PW_PERIOD and the wheel returns to the rate of PW_PERIOD. -/
  | phaseSlewEnd (t : Nat)
  /-- MISSED_EDGE (R30). One glitch time after an expected window closes with no accepted edge, a missed edge is declared, MISS_RUN counts and the wheel may switch source or enter HOLDOVER. -/
  | missedEdge (t : Nat) (input : Nat)
  /-- ACQUISITION_CHOICE (R38). Once the greater glitch time has passed after the earlier fourth edge, the wheel chooses the input with the earlier time stamp and locks to it. -/
  | acquisitionChoice (t : Nat)
  /-- CYCLE_BOUNDARY (R18). The angle wraps to 0: the cycle count increments and pending configuration, poles, cut lists, maps and register writes take effect. -/
  | cycleBoundary (t : Nat)
  /-- NOP (R48). A NOP pole entry reaches its angle and does nothing. -/
  | nop (t : Nat) (idx : Nat)
  /-- STRIKE (R49). A STRIKE pole entry fires: the course's ports strike, the collator publishes any open snapshot and initialises the build bank, or the entry is shed or does nothing. -/
  | strike (t : Nat) (idx : Nat)
  /-- PUBLISH (R53). A PUBLISH pole entry publishes the course's snapshot under construction if a strike has occurred since its last publication. -/
  | publish (t : Nat) (idx : Nat)
  /-- OPEN (R54). An OPEN pole entry opens the poll window of a port group. -/
  | openWindow (t : Nat) (idx : Nat)
  /-- CLOSE (R54). A CLOSE pole entry closes the poll window of a port group. -/
  | closeWindow (t : Nat) (idx : Nat)
  /-- DOORBELL_FETCH (R56). A DOORBELL_FETCH pole entry makes the Slovor fetch the doorbell page at once. -/
  | doorbellFetch (t : Nat) (idx : Nat)
  /-- TALLY_TICK (R474). A TALLY_TICK pole entry runs Tally's evaluation of every string: rest timers, rest points, learning and drought. -/
  | tallyTick (t : Nat) (idx : Nat)
  /-- AELOON_BEACON (R58). An AELOON_BEACON pole entry makes the manager's next beacon a cycle beacon. -/
  | aeloonBeacon (t : Nat) (idx : Nat)
  /-- TRACE_MARK (R59). A TRACE_MARK pole entry writes a mark record into the trace ring. -/
  | traceMark (t : Nat) (idx : Nat)
  /-- PW_CTRL_WRITE (R37). A write of PW_CTRL that changes SEL puts the wheel in FREE, starts a compile and schedules acquisition on the new source. -/
  | pwCtrlWrite (t : Nat) (v : Word)
  /-- PW_NOMINAL_WRITE (R64). A write of PW_NOMINAL takes effect at the next boundary, or starts a compile while SEL is 0b100. -/
  | pwNominalWrite (t : Nat) (v : Word)
  /-- PW_CYCLE_LO_READ (R67). A read of PW_CYCLE_LO latches the count's bits [47:32] into PW_CYCLE_HI. -/
  | pwCycleLoRead (t : Nat)
  /-- CUT_LIST_ENTRY_START (R286). A port engine reaches a cut-list entry's planned time and starts its transaction, or skips it with DEADLINE_SKIP if it no longer fits. -/
  | cutListEntryStart (t : Nat) (port : Nat) (idx : Nat)
  /-- GAP_TRANSACTION_START (R287). In a gap, a waiting transaction starts in the order retries, capping writes, alert service, job transactions, VOUT_MODE reads and identity sweeps. -/
  | gapTransactionStart (t : Nat) (port : Nat)
  /-- BREIK_RETRY (R164). A failed Breik frame is retried with REPEAT, or with PICK or WRITE after NO_RESPONSE, before the port's next cut-list entry. -/
  | breikRetry (t : Nat) (port : Nat)
  /-- CAPPING_WRITE_START (R290). A PRIO 3 WRITE_TARGET starts at the end of the executing attempt, ahead of every queued transaction of its port. -/
  | cappingWriteStart (t : Nat) (port : Nat)
  /-- BREIK_FRAME_RECEIVED (R117). A device frame is received whole and classified; OK frames are normalized into points, other frames are retried, and change observations may trigger a re-scribe. -/
  | breikFrameReceived (t : Nat) (port : Nat) (cal : Nat) (periods : List Nat) (lenBad : Bool)
  /-- BREIK_RESPONSE_TIMEOUT (R88). No calibration edge arrives within 16T + RT; NO_RESPONSE is counted, and a ROLL ends and continues with PICKs. -/
  | breikResponseTimeout (t : Nat) (port : Nat)
  /-- WRITE_COMMIT_WINDOW_END (R71). The SPU_NV conversion window after a committing WRITE ends and the strong pull-up turns off. -/
  | writeCommitWindowEnd (t : Nat) (port : Nat)
  /-- SPU_WINDOW_END (R71). The strike conversion window ends; the strong pull-up turns off and SPU_LIMIT is judged. -/
  | spuWindowEnd (t : Nat) (port : Nat) (limitUnbroken : Bool)
  /-- ECHO_RECEIVED (R112). The echo falls within its window; RT_LAST is stored, captures are stamped, RT may update and the strong pull-up turns on. -/
  | echoReceived (t : Nat) (port : Nat) (edge : Nat)
  /-- ECHO_TIMEOUT (R112). No echo arrives in the window; NO_ECHO is counted and the port misses the strike. -/
  | echoTimeout (t : Nat) (port : Nat)
  /-- PRESENCE_PULSE (R105). A presence pulse is received at BKDnn and checked against its timing limits. -/
  | presencePulse (t : Nat) (port : Nat) (start : Nat) (width : Nat)
  /-- PRESENCE_COUNT_END (R106). 48 µs pass without a falling edge; the count ends, is judged, and the delay probe is sent if N ≥ 1. -/
  | presenceCountEnd (t : Nat) (port : Nat)
  /-- DELAY_PROBE_REFLECTION (R107). The probe reflection arrives; RT is measured and stored. -/
  | delayProbeReflection (t : Nat) (port : Nat) (dt : Nat)
  /-- DELAY_PROBE_TIMEOUT (R107). No reflection comes within 4 µs; the probe fails with PRESENCE_BAD. -/
  | delayProbeTimeout (t : Nat) (port : Nat)
  /-- SEARCH_RESTART (R136). 20 ms after a failed search step, the search restarts from RESET. -/
  | searchRestart (t : Nat) (port : Nat)
  /-- UNSTABLE_RETRY (R155). The UNSTABLE retry interval elapses and the port makes one search attempt. -/
  | unstableRetry (t : Nat) (port : Nat)
  /-- FENCE_STUCK (R157). The line stays low longer than STUCK without the engine driving it; the port is fenced. -/
  | fenceStuck (t : Nat) (port : Nat) (lowUs : Nat)
  /-- FENCE_CHATTER (R157). A 1 ms window closes with too many edges or glitches; the port is fenced. -/
  | fenceChatter (t : Nat) (port : Nat) (edges : Nat) (glitches : Nat)
  /-- UNFENCE_TIMER (R160). The fence interval elapses and an automatic unfence attempt starts with its line watch. -/
  | unfenceTimer (t : Nat) (port : Nat)
  /-- UNFENCE_LINE_CHECK_END (R161). The 1 ms line watch ends; the port enters SEARCH, returns to service or fences again. -/
  | unfenceLineCheckEnd (t : Nat) (port : Nat) (clkHigh : Bool) (dataHigh : Bool)
  /-- FENCE_INTERVAL_RESET (R160). The port has stayed out of FENCED for 64 s and its fence interval returns to the first value. -/
  | fenceIntervalReset (t : Nat) (port : Nat)
  /-- SENT_FRAME_RECEIVED (R125). A SENT fast-channel frame is received, calibrated, CRC-checked and stamped, and slow-channel bits are assembled. -/
  | sentFrameReceived (t : Nat) (port : Nat) (id : Nat) (cal : Nat) (periods : List Nat) (pause : Option Nat) (edge : Nat) (stop : Nat)
  /-- TW_ATTEMPT_END (R188). A two-wire attempt ends and is classified; OK reads feed points, including bracketed interpolation, and failed attempts are retried. -/
  | twAttemptEnd (t : Nat) (m : Nat) (start : Nat) (stop : Nat) (nack : Option Nat) (rx : List Byte) (other : Bool)
  /-- TW_CLOCK_TIMEOUT (R181). One clock low reaches TIMEOUT; the attempt ends with class TIMEOUT and both lines are released. -/
  | twClockTimeout (t : Nat) (m : Nat)
  /-- ARB_LOST (R193). The engine releases a one and sees a zero; it stops driving, records the loss and receives the rest of the byte. -/
  | arbLost (t : Nat) (m : Nat) (byte : Nat) (bit : Nat) (won : Nat)
  /-- TW_FOREIGN_START_STOP (R626). A START or STOP that the Slovor did not send appears during its transaction; the attempt is classed BUS_ERROR. -/
  | twForeignStartStop (t : Nat) (m : Nat)
  /-- TW_SEGMENT_FREE (R182). One bit period after a STOP, or 50 µs of both lines high, the segment becomes free and waiting work may start. -/
  | twSegmentFree (t : Nat) (m : Nat)
  /-- TW_TARGET_TRANSACTION_END (R197). A transaction to one of the Slovor's target addresses ends; TARGET_NOTIFY is posted or NOTIFY_BAD counted. -/
  | twTargetTransactionEnd (t : Nat) (m : Nat) (addr : Nat) (read : Bool) (data : List Byte)
  /-- ALERT_ASSERT (R202). An enabled ALERTa_N input asserts and Foreman G starts ARA service on its bound ports. -/
  | alertAssert (t : Nat) (a : Nat)
  /-- ALERT_RELEASE (R202). An alert input releases and its service ends. -/
  | alertRelease (t : Nat) (a : Nat)
  /-- ALERT_HOLDOFF (R203). The ALERT_HOLDOFF after an unclaimed alert expires and service starts again. -/
  | alertHoldoff (t : Nat) (a : Nat)
  /-- LPI_ENTER (R204). A port with a long enough gap and no queued work stops its clock domain. -/
  | lpiEnter (t : Nat) (m : Nat)
  /-- LPI_WAKE (R204). The Scriber wakes a port in low-power idle 50 µs before its next planned transaction, or when job work arrives. -/
  | lpiWake (t : Nat) (m : Nat)
  /-- LPI_ADDRESS_MATCH (R205). In low-power idle the Cinch receiver matches a target address, NACKs it and wakes the engine. -/
  | lpiAddressMatch (t : Nat) (m : Nat)
  /-- LPI_WAKE_DONE (R205). The Buckle engine is awake and ready to serve. -/
  | lpiWakeDone (t : Nat) (m : Nat)
  /-- BUS_CLEAR (R208). The engine pulses the clock up to nine times until the data line is high, sends STOP, or fences for DATA_STUCK. -/
  | busClear (t : Nat) (m : Nat) (pulses : Nat) (released : Bool)
  /-- CLOCK_STUCK (R209). The clock stays low past TIMEOUT + 10 ms; the two-wire port is fenced. -/
  | clockStuck (t : Nat) (m : Nat) (lowUs : Nat)
  /-- CINCH_CONVERSION (R252). A Cinch ADC conversion reaches the Beam die, is stamped, and resolves waiting telemetry points. -/
  | cinchConversion (t : Nat) (ch : Nat) (code : Nat) (sampled : Nat)
  /-- COMPILE_COMPLETE (R281). A background compile ends; its accepted changes await the next boundary, and gathered changes start the next compile. -/
  | compileComplete (t : Nat)
  /-- SNAPSHOT_PUBLISH (R314). The last due point is resolved; the collator swaps halves, writes the header, evaluates KERF_MISS, Tally integration and point rules. -/
  | snapshotPublish (t : Nat) (c : Nat)
  /-- BLOCK_CHECK_READY (R316). Unit 2 completes a snapshot's block check; the trace entry is written and the host and uplink copies start. -/
  | blockCheckReady (t : Nat)
  /-- SNAPSHOT_COPY_DONE (R384). A host-ring snapshot copy completes; the producer index advances and SNAPSHOT_PUBLISHED is posted. -/
  | snapshotCopyDone (t : Nat) (c : Nat)
  /-- MERGE_WAIT_EXPIRY (R324). MERGE_WAIT passes after node 0's publication; the rack snapshot completes with missing slices marked. -/
  | mergeWaitExpiry (t : Nat) (c : Nat)
  /-- CS_TR_REARM (R334). A write of CS_TR_CTRL.REARM re-arms a frozen trace ring, or once a running TRACE_COPY completes. -/
  | csTrRearm (t : Nat)
  /-- HL_GO_SET (R346). A write of GO = 1 checks the set-up and starts the link, or waits for a drain. -/
  | hlGoSet (t : Nat) (bme : Bool)
  /-- HL_GO_CLEAR (R349). A write of GO = 0 stops fetching and lets started DMA complete. -/
  | hlGoClear (t : Nat)
  /-- HL_QUIESCED (R349). Every begun DMA completes and QUIESCED is set. -/
  | hlQuiesced (t : Nat)
  /-- BUS_MASTER_DISABLE (R350). Bus Master Enable is cleared while GO is 1; GO clears and BME_LOST is set. -/
  | busMasterDisable (t : Nat)
  /-- DOORBELL_INTERVAL (R352). The doorbell interval timer expires and the Slovor reads the host half of the doorbell page. -/
  | doorbellInterval (t : Nat)
  /-- DOORBELL_FETCH_DONE (R357). Doorbell data returns; indices are checked and descriptor reads are issued in rounds. -/
  | doorbellFetchDone (t : Nat) (words : List Nat)
  /-- DOORBELL_FETCH_FAILED (R354). A doorbell fetch fails; it is counted, and after 16 consecutive failures GO clears. -/
  | doorbellFetchFailed (t : Nat)
  /-- DESCRIPTOR_READ_DONE (R360). Descriptor data returns and each descriptor is accepted or rejected by the tests of R360. -/
  | descriptorReadDone (t : Nat) (ring : Nat) (ok : Bool) (descs : List (List Nat))
  /-- DOORBELL_WRITE_BACK (R353). The Slovor writes the upper doorbell half with changed indices after a fetch's reads return. -/
  | doorbellWriteBack (t : Nat)
  /-- JOB_IMAGE_READ_DONE (R363). A job's image or WBUF read from host memory completes and is validated, or the job fails with DMA_ERROR. -/
  | jobImageReadDone (t : Nat) (slot : Nat) (ok : Bool) (data : List Byte)
  /-- EVENT_RECORD_WRITE (R624). A posted or held event record is written to its queue when a slot is free. -/
  | eventRecordWrite (t : Nat) (q : Nat)
  /-- MSI_X_COALESCE_TIMEOUT (R374). COAL_TIME passes since the first unsignalled record and the queue's MSI-X vector is sent. -/
  | msiXCoalesceTimeout (t : Nat) (q : Nat)
  /-- DRAIN_COMPLETE (R388). Every slot of an earlier link session is free; DRAINING clears and a waiting start proceeds. -/
  | drainComplete (t : Nat)
  /-- HOST_LINK_RESET (R387). PERST_N, hot reset, link disable or link down resets the HL_ registers, drains jobs and bumps the host epochs. -/
  | hostLinkReset (t : Nat) (kind : Nat)
  /-- FUNCTION_LEVEL_RESET (R387). An FLR resets the HL_ registers, drains jobs, closes a secure session and bumps the host epochs. -/
  | functionLevelReset (t : Nat)
  /-- LINK_UP (R528). The link reaches L0 with the data link layer active; RDY_HOSTLINK sets. -/
  | linkUp (t : Nat)
  /-- D3HOT_ENTRY (R341). The function enters D3hot and stops all host memory access. -/
  | d3hotEntry (t : Nat) (pmeEn : Bool)
  /-- JOB_NOP (R362). JOB_NOP completes with JOB_DONE when it starts. -/
  | jobNop (t : Nat) (slot : Nat)
  /-- POINT_LOAD (R270). POINT_LOAD reads and validates runs of point-table, identity and slack entries and starts a compile. -/
  | pointLoad (t : Nat) (slot : Nat)
  /-- COEF_LOAD (R256). COEF_LOAD writes checked coefficient sets. -/
  | coefLoad (t : Nat) (slot : Nat)
  /-- COURSE_SET (R296). COURSE_SET checks course records and applies them at the next boundary. -/
  | courseSet (t : Nat) (slot : Nat)
  /-- POLE_LOAD (R60). POLE_LOAD checks a story-pole image and starts a compile for it. -/
  | poleLoad (t : Nat) (slot : Nat)
  /-- READ_NOW (R266). READ_NOW reads one point's transaction and returns its normalized value. -/
  | readNow (t : Nat) (slot : Nat)
  /-- WRITE_TARGET (R290). WRITE_TARGET writes through a point's transaction, as a capping write at PRIO 3. -/
  | writeTarget (t : Nat) (slot : Nat)
  /-- RAW_XFER (R365). RAW_XFER runs one described transaction and returns its raw bytes. -/
  | rawXfer (t : Nat) (slot : Nat)
  /-- CHAIN_SEARCH (R151). CHAIN_SEARCH starts or attaches to a search of a Breik port. -/
  | chainSearch (t : Nat) (slot : Nat)
  /-- PORT_REINIT (R150). PORT_REINIT abandons any search, resets the engine and starts a new search. -/
  | portReinit (t : Nat) (slot : Nat)
  /-- PORT_FENCE (R158). PORT_FENCE fences a port with cause HOST. -/
  | portFence (t : Nat) (slot : Nat)
  /-- PORT_UNFENCE (R160). PORT_UNFENCE tries to unfence a port at once and resets its interval. -/
  | portUnfence (t : Nat) (slot : Nat)
  /-- TRACE_FREEZE (R332). TRACE_FREEZE triggers a trace-ring freeze after POST further entries. -/
  | traceFreeze (t : Nat) (slot : Nat)
  /-- TRACE_COPY (R335). TRACE_COPY starts copying the frozen ring to host memory in ring order. -/
  | traceCopy (t : Nat) (slot : Nat)
  /-- TRACE_COPY_DONE (R335). A trace copy finishes writing host memory and its job completes. -/
  | traceCopyDone (t : Nat)
  /-- STITCH_RUN (R241). STITCH_RUN takes a free pooled unit, or waits for one. -/
  | stitchRun (t : Nat) (slot : Nat)
  /-- STITCH_RUN_COMPLETE (R243). A STITCH_RUN finishes reading and computing; it completes with its value, check result or appended field. -/
  | stitchRunComplete (t : Nat) (unit : Nat) (ok : Bool) (data : List Byte)
  /-- ABORT (R370). ABORT finds the victim job by tag and stops it according to its kind. -/
  | abort (t : Nat) (slot : Nat)
  /-- WORKER_PUSH (R457). WORKER_PUSH sends an INNER job to workers, staged and committed, or run on receipt. -/
  | workerPush (t : Nat) (slot : Nat)
  /-- STRING_SET (R487). TALLY_CMD STRING_SET defines a string and restores it from the ledger. -/
  | stringSet (t : Nat) (slot : Nat)
  /-- STRING_CLEAR (R488). TALLY_CMD STRING_CLEAR removes a string and disarms ship mode. -/
  | stringClear (t : Nat) (slot : Nat)
  /-- OCV_LOAD (R489). TALLY_CMD OCV_LOAD writes open-circuit-voltage entries. -/
  | ocvLoad (t : Nat) (slot : Nat)
  /-- TALLY_READ (R488). TALLY_CMD READ returns SOC, U, C_LRN, state and counts. -/
  | tallyRead (t : Nat) (slot : Nat)
  /-- SOC_SET (R488). TALLY_CMD SOC_SET sets a new anchor and uncertainty. -/
  | socSet (t : Nat) (slot : Nat)
  /-- LEARN_RESET (R488). TALLY_CMD LEARN_RESET returns C_LRN to C_NOM and clears the learning counts. -/
  | learnReset (t : Nat) (slot : Nat)
  /-- LEDGER_SYNC (R488). TALLY_CMD LEDGER_SYNC commits a string to the ledger now or when allowed. -/
  | ledgerSync (t : Nat) (slot : Nat)
  /-- FW_STAGE (R585). FW_STAGE writes image bytes into the non-running firmware slot. -/
  | fwStage (t : Nat) (slot : Nat)
  /-- FW_COMMIT (R586). FW_COMMIT verifies the staged slot, writes its commit record and optionally reboots. -/
  | fwCommit (t : Nat) (slot : Nat)
  /-- TALLY_EVAL_TIMER (R474). With no TALLY_TICK for 2 s, Foreman G's one-second timer runs Tally's evaluation. -/
  | tallyEvalTimer (t : Nat)
  /-- LEDGER_HOURLY (R484). One hour passes since a string's last commit and a ledger commit falls due. -/
  | ledgerHourly (t : Nat) (str : Nat)
  /-- LEDGER_COMMIT_DONE (R483). A ledger record's final SEQ write lands, and LEDGER_COMMIT is posted. -/
  | ledgerCommitDone (t : Nat) (str : Nat)
  /-- LEDGER_SCAN (R486). The boot scan of all ledger slots completes and RDY_TALLY sets. -/
  | ledgerScan (t : Nat)
  /-- SHIP_ARM (R480). A channel-8 SHIP_ARM word arms ship mode for an idle string. -/
  | shipArm (t : Nat)
  /-- SHIP_GO (R481). A channel-8 SHIP_GO word sends the string's ship writes as capping writes. -/
  | shipGo (t : Nat)
  /-- HR_IN_WRITE (R397). A host write of HR_IN posts an inbound word, or is discarded while IN_FULL is set. -/
  | hrInWrite (t : Nat) (ch : Nat) (v : Word)
  /-- HR_OUT_READ (R398). A host read of HR_OUT returns the word and releases it in PLAIN mode or for an orphan. -/
  | hrOutRead (t : Nat) (ch : Nat)
  /-- HR_ACK_OUT_WRITE (R399). A host write of HR_ACK_OUT releases a FORMAL outbound word, or is ignored. -/
  | hrAckOutWrite (t : Nat) (ch : Nat) (code : BitVec 16)
  /-- HR_MODE_WRITE (R401). A write of HR_CH_CFG.MODE changes the channel mode while both directions are empty. -/
  | hrModeWrite (t : Nat) (ch : Nat) (v : Word)
  /-- HOST_BUMP (R404). A write of HR_CTRL.HOST_BUMP resets the host party of channels 0 to 7. -/
  | hostBump (t : Nat)
  /-- FIRMWARE_IN_READ (R398). The serving firmware reads an inbound word, releasing it in PLAIN mode or for an orphan. -/
  | firmwareInRead (t : Nat) (ch : Nat)
  /-- FIRMWARE_ACK_IN (R398). The firmware writes an acknowledge code and releases a FORMAL inbound word. -/
  | firmwareAckIn (t : Nat) (ch : Nat) (code : BitVec 16)
  /-- FIRMWARE_POST_OUT (R397). The firmware posts an outbound word to HR_OUT. -/
  | firmwarePostOut (t : Nat) (ch : Nat) (v : Word)
  /-- CROSS_TIMEOUT (R412). Both FORMAL words stay unacknowledged for CROSS_TIMEOUT; the channel is crossed and MAILBOX_CROSSED is posted. -/
  | crossTimeout (t : Nat) (ch : Nat)
  /-- SUPERFRAME_START (R425). The manager's 125 µs superframe begins and it sends the beacon with slot map and acknowledgements. -/
  | superframeStart (t : Nat)
  /-- MANAGER_DOWNLINK_TRANSMIT (R440). The manager sends its downlink slot frame of chunks, with kept chunks resent. -/
  | managerDownlinkTransmit (t : Nat)
  /-- BEACON_RECEIVED (R436). A worker receives a beacon, aligns its angle and rate, and departs on zero units. -/
  | beaconReceived (t : Nat) (bytes : List Byte) (codeErr : Bool) (arrival : Nat)
  /-- ALP_MARK (R434). A worker detects a cycle mark on ALP and takes it as its wheel edge. -/
  | alpMark (t : Nat) (endLow : Nat) (pulses : Nat)
  /-- WORKER_SLOT_TRANSMIT (R428). A joined worker's slot offset passes and it sends its slot frame of chunks. -/
  | workerSlotTransmit (t : Nat)
  /-- SLOT_FRAME_RECEIVED (R430). The manager receives a worker slot frame and takes its SLICE, MBOX, STATUS and PUSH_ACK chunks. -/
  | slotFrameReceived (t : Nat) (node : Nat) (bytes : List Byte) (codeErr : Bool) (twoD : Nat)
  /-- DOWNLINK_FRAME_RECEIVED (R430). A worker receives the downlink frame and takes its PUSH, GRANT, RANGE and MBOX chunks. -/
  | downlinkFrameReceived (t : Nat) (bytes : List Byte) (codeErr : Bool)
  /-- SLOT_MISSED (R447). A joined worker's slot passes without a valid frame; after three misses the worker is removed. -/
  | slotMissed (t : Nat) (node : Nat)
  /-- JOIN_CLAIM (R443). A worker sends a join frame in an open join window after its back-off, watching for collision. -/
  | joinClaim (t : Nat) (collide : Bool)
  /-- JOIN_FRAME_RECEIVED (R444). The manager receives a valid join frame and answers with a grant or duplicate. -/
  | joinFrameReceived (t : Nat) (bytes : List Byte) (codeErr : Bool)
  /-- BEACON_LOSS (R448). Eight superframes pass without a valid beacon and the worker departs. -/
  | beaconLoss (t : Nat)
  /-- PUSH_STAGE_EXPIRY (R458). A staged change sees no commit within 8,000 superframes and is discarded. -/
  | pushStageExpiry (t : Nat) (num : Nat)
  /-- CINCH_RESET (R524). The higher of VIN and HOLD falls below 12 V and the Cinch die enters reset. -/
  | cinchReset (t : Nat)
  /-- CINCH_RESET_EXIT (R524). The higher of VIN and HOLD rises through 16 V; the Sill and TMEM are read, protection arms and Halter mode begins. -/
  | cinchResetExit (t : Nat) (tmemUv : Nat)
  /-- CINCH_READY (R525). HK1 and HK2 reach regulation; RDY_CINCH sets and the Beam die is released from reset. -/
  | cinchReady (t : Nat)
  /-- HK_REGULATION_LOSS (R529). HK1 or HK2 leaves regulation and RDY_CINCH clears. -/
  | hkRegulationLoss (t : Nat)
  /-- SEAT_ASSERT (R500). SEAT_N goes low in UNSEATED and the debounce starts. -/
  | seatAssert (t : Nat)
  /-- SEAT_DEBOUNCE_EXPIRY (R500). SEAT_N stays low for SEAT_DB and the power entry goes to WAIT. -/
  | seatDebounceExpiry (t : Nat)
  /-- SEAT_REMOVAL (R502). SEAT_N is high for 10 µs; GATE and PCH_G are pulled down and the state becomes UNSEATED. -/
  | seatRemoval (t : Nat)
  /-- VIN_OUT_OF_RANGE (R497). VIN crosses the under-voltage or over-voltage limit; the load stops and the entry goes to WAIT. -/
  | vinOutOfRange (t : Nat) (vin : Nat)
  /-- PRECHARGE_START (R501). Every start condition holds in WAIT and pre-charge starts. -/
  | prechargeStart (t : Nat) (vin : Nat) (vout : Nat)
  /-- PRECHARGE_DONE (R503). The VOUT gap and slope conditions hold for 1 ms; the gate ramp starts. -/
  | prechargeDone (t : Nat) (vin : Nat) (vout : Nat) (slope : Nat)
  /-- PCH_ENERGY (R504). Pre-charge energy exceeds PCH_EMAX and the pre-charge ends with a fault. -/
  | pchEnergy (t : Nat)
  /-- PCH_TIME (R504). Pre-charge lasts PCH_TMAX without success and ends with a fault. -/
  | pchTime (t : Nat)
  /-- RAMP_COMPLETE (R506). VGS reaches 10 V and the state becomes ON. -/
  | rampComplete (t : Nat)
  /-- GATE_FAIL (R507). VGS has not reached 8 V after T_GRISE; the entry goes to LOCKOUT. -/
  | gateFail (t : Nat)
  /-- PG_ASSERT (R506). The PG conditions hold for 1 ms; PG asserts and PCH_G turns off. -/
  | pgAssert (t : Nat) (vds : Nat)
  /-- PG_LATE (R506). PG has not asserted 100 ms after entry to ON and PG_LATE is set. -/
  | pgLate (t : Nat)
  /-- LIMIT_ENTER (R500). The sense voltage reaches V_L and the limit amplifier regulates. -/
  | limitEnter (t : Nat) (sense : Nat)
  /-- LIMIT_EXIT (R500). The sense voltage stays below 0.95 × V_L for 50 µs and LIMIT exits. -/
  | limitExit (t : Nat) (sense : Nat)
  /-- FAST_TRIP (R509). The sense voltage reaches FT_RATIO × VLIM and the 2 A sink ends conduction. -/
  | fastTrip (t : Nat) (sense : Nat)
  /-- OVERLOAD (R509). The model temperature reaches TJ_TRIP and conduction ends. -/
  | overload (t : Nat)
  /-- TFET_HOT (R509). The measured TFET temperature reaches TF_TRIP and conduction ends. -/
  | tfetHot (t : Nat)
  /-- FET_SHORT (R508). VOUT ≥ 0.9 × VIN holds for FS_TIME with the gates off; the entry goes to LOCKOUT. -/
  | fetShort (t : Nat) (vin : Nat) (vout : Nat)
  /-- FET_MODEL_STEP (R510). Each 1 µs the two-pole FET thermal model advances. -/
  | fetModelStep (t : Nat) (vds : Nat) (sense : Int) (vin : Nat) (vout : Nat)
  /-- TMEM_REFRESH (R514). Each 1 ms the Cinch die refreshes TMEM from the model. -/
  | tmemRefresh (t : Nat)
  /-- MODEL_LOW (R511). TFET exceeds the model by more than 15 °C for 1 s; MODEL_LOW is set. -/
  | modelLow (t : Nat)
  /-- RESTART_CONDITION_MET (R513). The thermal and RETRY_MIN conditions hold in FAULT_WAIT and the entry goes to WAIT. -/
  | restartConditionMet (t : Nat)
  /-- FAULT_COUNT_RESET (R512). After 60 s of continuous ON or LIMIT the consecutive-fault count returns to 0. -/
  | faultCountReset (t : Nat)
  /-- CN_SOFT_WRITE (R516). A write of CN_SOFT sets the soft current limit within 10 µs. -/
  | cnSoftWrite (t : Nat) (v : Word)
  /-- LOAD_ON_WRITE (R517). A write of CN_CTRL.LOAD_ON turns the load off to WAIT or permits a start. -/
  | loadOnWrite (t : Nat) (v : Word)
  /-- CN_CLEAR (R518). A write of CN_CLEAR in a session moves LATCHED to FAULT_WAIT. -/
  | cnClear (t : Nat) (v : Word)
  /-- FIRMWARE_VERIFIED (R583). The boot ROM finishes verifying and boots an image; RDY_FOREMAN_S sets, or R549 applies. -/
  | firmwareVerified (t : Nat)
  /-- FOREMAN_G_READY (R529). Foreman G runs; RDY_FOREMAN_G sets, the report starts and any brown-out copy is restored. -/
  | foremanGReady (t : Nat)
  /-- ENGINE_SELFTEST_DONE (R128). An Awl or Buckle engine passes or fails self-test and its readiness bit is set or its port held off. -/
  | engineSelftestDone (t : Nat) (port : Nat) (pass : Bool)
  /-- STORE_SELFTEST_DONE (R529). The bank, trace-ring and unit-2 tests finish and RDY_STORE sets, or the Slovor stays in Halter mode. -/
  | storeSelftestDone (t : Nat) (banks : Bool) (trace : Bool) (unit2 : Bool)
  /-- STITCH_SELFTEST_DONE (R236). A pooled Stitch unit finishes self-test and is marked failed or available. -/
  | stitchSelftestDone (t : Nat) (unit : Nat) (pass : Bool)
  /-- HEARTBEAT_PULSE (R535). Each 1 ms Foreman S sends a heartbeat pulse while Foreman G answers. -/
  | heartbeatPulse (t : Nat) (gAnswered : Bool)
  /-- HEARTBEAT_WINDOW (R535). A 1 ms Cinch window closes; three empty windows enter Halter mode with cause HEARTBEAT. -/
  | heartbeatWindow (t : Nat)
  /-- FOREMAN_G_RESTART (R532). Foreman G misses its check for 2 ms or reports a lockstep mismatch; Foreman S restarts it and jobs fail ABORTED. -/
  | foremanGRestart (t : Nat)
  /-- FOREMAN_S_RESTART (R532). A Foreman S lockstep mismatch restarts Foreman S from its boot ROM. -/
  | foremanSRestart (t : Nat)
  /-- HALTER_ENTER (R537). The Cinch die enters Halter mode: field lines are released, the pole stops and HALTER_ENTER is posted. -/
  | halterEnter (t : Nat) (cause : Nat)
  /-- HALTER_ROUND (R540). A Halter sequencer round starts with optional RESET and ASSIGN, a STRIKE and PICKs of polled positions. -/
  | halterRound (t : Nat) (n : Nat) (rt : Nat)
  /-- HALTER_POLL (R541). A sequencer poll yields an OK frame or a miss; violations may turn the load off with HALTER_TRIP. -/
  | halterPoll (t : Nat) (pos : Nat) (cal : Nat) (periods : List Nat) (lenBad : Bool)
  /-- HALTER_EXIT_REQUEST (R544). Exit conditions hold; the Cinch die hands the ports back, applies AUTO_CLEAR and HALTER_EXIT is posted. -/
  | halterExitRequest (t : Nat)
  /-- WATCHDOG_RUNG3 (R548). Halter by heartbeat lasts 100 ms, or 500 ms after a rung-3 reset; the Cinch die climbs rung 3 or rung 4. -/
  | watchdogRung3 (t : Nat)
  /-- RUNG_COUNT_RESET (R548). The heartbeat has been present for 60 s and the attempt count returns to 0. -/
  | rungCountReset (t : Nat)
  /-- BEAM_WARM_RESET (R546). Rung 3: the Beam die is held in warm reset for 1 ms after Halter entry with cause BEAM_RESET. -/
  | beamWarmReset (t : Nat)
  /-- BEAM_POWER_CYCLE (R546). Rung 4: HK2 and the Beam die rails turn off for 100 ms. -/
  | beamPowerCycle (t : Nat)
  /-- ID_RESET_WRITE (R561). A write of ID_RESET with KEY 0x1DA5 and WARM 1 climbs rung 3 after 10 µs; other writes count KEY_BAD. -/
  | idResetWrite (t : Nat) (v : Word)
  /-- BROWNOUT_WARNING (R552). VIN falls below 33 V; strikes and pull-ups are shed, the ring freezes and the brown-out copy starts. -/
  | brownoutWarning (t : Nat) (vinCode : Nat) (holdOk : Bool)
  /-- BROWNOUT_WARNING_CLEAR (R554). VIN holds at 35 V for 10 ms; strikes, cut lists, waiting jobs and deferred commits resume. -/
  | brownoutWarningClear (t : Nat)
  /-- BROWN_OUT (R554). The higher of VIN and HOLD falls below 16 V; Halter mode is entered and the Beam die rails turn off. -/
  | brownOut (t : Nat)
  /-- BROWNOUT_COPY_DONE (R553). The brown-out copy to MRAM completes with its SEQ written. -/
  | brownoutCopyDone (t : Nat)
  /-- SG_CHALLENGE (R574). A write of SG_CTRL.CHALLENGE draws a nonce and enters CHALLENGED, unless held off. -/
  | sgChallenge (t : Nat)
  /-- SG_VERIFY (R574). A write of SG_CTRL.VERIFY checks the HMAC response and opens the session or holds it off. -/
  | sgVerify (t : Nat)
  /-- SG_CLOSE (R577). A write of SG_CTRL.CLOSE ends the session and increments HOST_S. -/
  | sgClose (t : Nat)
  /-- CHALLENGE_EXPIRY (R574). A challenge not verified within 10 s expires and the state returns to CLOSED. -/
  | challengeExpiry (t : Nat)
  /-- SESSION_IDLE_TIMEOUT (R577). Ten minutes without activity end an open session. -/
  | sessionIdleTimeout (t : Nat)
  /-- SILL_PROGRAM (R570). A write of SL_PGM_CTRL with KEY 0x5111 checks and starts blowing the requested row bits. -/
  | sillProgram (t : Nat) (v : Word) (pin : Bool) (vqps : Bool)
  /-- SILL_PROGRAM_DONE (R571). Row programming ends with margin read-back, or is aborted by brown-out. -/
  | sillProgramDone (t : Nat) (marginOk : Bool) (half : Word)
  /-- SECURE_HALTER_ENTER (R580). Channel-8 word 0x1000_0000 enters Halter mode with cause SECURE. -/
  | secureHalterEnter (t : Nat)
  /-- SECURE_HALTER_RELEASE (R580). Channel-8 word 0x1100_0000 requests the exit from Halter mode. -/
  | secureHalterRelease (t : Nat)
  /-- SECURE_RUNG3 (R580). Channel-8 word 0x2000_1DA5 climbs rung 3 with cause SECURE_WARM. -/
  | secureRung3 (t : Nat)
  /-- SECURE_RUNG4 (R580). Channel-8 word 0x2100_1DA5 climbs rung 4 with cause SECURE_CYCLE. -/
  | secureRung4 (t : Nat)
  /-- RECOVERY_BEGIN (R588). In the boot ROM, a begin word announces n image words for slot 0. -/
  | recoveryBegin (t : Nat)
  /-- RECOVERY_WORD (R588). In the boot ROM, one recovery image word is written into slot 0. -/
  | recoveryWord (t : Nat)
  /-- RECOVERY_END (R588). The end word verifies and commits slot 0 and climbs rung 3. -/
  | recoveryEnd (t : Nat)
  /-- PT_MAP_SEL_WRITE (R171). A write of PT_MAP_SEL latches one map entry into PT_MAP_LO, PT_MAP_HI and PT_MAP_INFO. -/
  | ptMapSelWrite (t : Nat) (v : Word)
  /-- PT_PGRP_WRITE (R292). A write of PT_PGRPi takes effect at the next boundary and starts a compile. -/
  | ptPgrpWrite (t : Nat) (i : Nat) (v : Word)
  /-- PT_AWL_CFG_WRITE (R130). A write of PT_AWL_CFG takes effect at the next boundary and, on a MODE or TICK change, starts a compile. -/
  | ptAwlCfgWrite (t : Nat) (n : Nat) (v : Word)
  /-- PT_AWL_SENT_WRITE (R130). A write of PT_AWL_SENT takes effect at the next boundary and may start a compile. -/
  | ptAwlSentWrite (t : Nat) (n : Nat) (v : Word)
  /-- PT_TW_CFG_WRITE (R174). A write of PT_TW_CFG takes effect at the next boundary and, on a MODE or RATE change, starts a compile. -/
  | ptTwCfgWrite (t : Nat) (m : Nat) (v : Word)
  /-- COUNTER_READ_CLEAR (R126). A 32-bit read of a register with RC fields returns them and clears them. -/
  | counterReadClear (t : Nat) (off : Nat) (size : Nat)
  /-- REGISTER_WRITE (R591). An aligned 32-bit write to a BAR0 register without a row of its own updates its fields under their access codes. -/
  | registerWrite (t : Nat) (off : Nat) (size : Nat) (v : Word)
  /-- HOLDOFF_EXPIRY (R576). The hold-off after a failed verification ends and the gate leaves HELD so that a new CHALLENGE is accepted. -/
  | holdoffExpiry (t : Nat)
  /-- PG_DEASSERT (R506). In ON, VGS or VDS leaves its PG condition and PG deasserts within 10 µs without a change of state. -/
  | pgDeassert (t : Nat)
  /-- D3HOT_EXIT (R341). The function returns from D3hot to D0 and resumes its host-memory requests and the held events and copies. -/
  | d3hotExit (t : Nat)
  /-- PERST_N_RELEASE (R528). PERST_N is released: WAKE_N is released and link training leaves Detect within its bound. -/
  | perstNRelease (t : Nat)
  /-- POWER_CYCLE_END (R526). The 100 ms off-time of a rung-4 power cycle ends and HK2 and the Beam die rails are turned on again. -/
  | powerCycleEnd (t : Nat)
  /-- SPC_RESPONSE_TIMEOUT (R123). After an SPC master trigger no sensor answer arrives within the J2716 response timing and the SENT read fails for retry. -/
  | spcResponseTimeout (t : Nat) (port : Nat)
deriving DecidableEq, Repr

end Sys2Proof
end

