-- ==== Sys2Proof/Machine/Bits.lean ====
section
/-! DEFINITION. The helpers every meaning uses: sparse tables in one canonical form, bit fields,
byte order, signed values, and the two ways a counter counts (R126, R220: saturating). -/
namespace Sys2Proof.Machine

/-- The entry of key `k`, or `d` where the table lists none. -/
def tget {α : Type} (d : α) : Tbl α → Nat → α
  | [], _ => d
  | (k', v) :: m, k => if k' = k then v else tget d m k

/-- Insert in key order, replacing an entry of the same key. -/
def tinsert {α : Type} : Tbl α → Nat → α → Tbl α
  | [], k, v => [(k, v)]
  | (k', v') :: m, k, v =>
    if k < k' then (k, v) :: (k', v') :: m
    else if k = k' then (k, v) :: m
    else (k', v') :: tinsert m k v

/-- Remove the entry of a key. -/
def terase {α : Type} : Tbl α → Nat → Tbl α
  | [], _ => []
  | (k', v') :: m, k => if k' = k then terase m k else (k', v') :: terase m k

/-- Write key `k`; writing the default removes the entry, so the form stays canonical. -/
def tset {α : Type} [DecidableEq α] (d : α) (m : Tbl α) (k : Nat) (v : α) : Tbl α :=
  if v = d then terase m k else tinsert m k v

/-- Change the entry of key `k` by a function. -/
def tmod {α : Type} [DecidableEq α] (d : α) (m : Tbl α) (k : Nat) (f : α → α) : Tbl α :=
  tset d m k (f (tget d m k))

/-- Change every listed entry by a function, dropping those that become the default. -/
def tmap {α : Type} [DecidableEq α] (d : α) (f : α → α) (m : Tbl α) : Tbl α :=
  (m.map fun x => (x.1, f x.2)).filter fun x => decide (x.2 ≠ d)

/-- The canonical form: keys strictly rising and no entry equal to the default. -/
def twf {α : Type} [DecidableEq α] (d : α) : Tbl α → Bool
  | [] => true
  | [(_, v)] => !decide (v = d)
  | (k, v) :: (k', v') :: m => !decide (v = d) && decide (k < k') && twf d ((k', v') :: m)

/-- Canonical form of a memory in which any byte may be listed: addresses strictly rising. [DESIGN CHOICE, log 10] -/
def Memory.wf : List Host.Cell → Bool
  | [] => true
  | [_] => true
  | (k, _) :: (k', v') :: m => decide (k < k') && Memory.wf ((k', v') :: m)

/-- Bits `[lo + n - 1 : lo]` of a number. -/
def bitsAt (w lo n : Nat) : Nat := (w >>> lo) % 2 ^ n

/-- One bit of a number. -/
def bitAt (w i : Nat) : Bool := (w >>> i) % 2 = 1

def b2n (b : Bool) : Nat := if b then 1 else 0

/-- A word from its fields: pairs of lowest bit and value. -/
def packNat : List (Nat × Nat) → Nat
  | [] => 0
  | (lo, v) :: fs => (v <<< lo) ||| packNat fs

def pack (fs : List (Nat × Nat)) : Word := BitVec.ofNat 32 (packNat fs)

/-- The `n` bytes of a number, lowest first (R16, R20: little-endian). -/
def leBytes : Nat → Nat → List Byte
  | 0, _ => []
  | n + 1, v => BitVec.ofNat 8 v :: leBytes n (v / 256)

/-- The `n` bytes of a number, highest first. -/
def beBytes (n v : Nat) : List Byte := (leBytes n v).reverse

/-- The number that bytes spell, lowest first. -/
def leNat : List Byte → Nat
  | [] => 0
  | b :: bs => b.toNat + 256 * leNat bs

def beNat (bs : List Byte) : Nat := leNat bs.reverse

/-- Bytes `off … off + n - 1` as a little-endian number. -/
def leAt (bs : List Byte) (off n : Nat) : Nat := leNat ((bs.drop off).take n)

/-- Split bytes into little-endian 32-bit words. -/
def wordsOf : List Byte → List Nat
  | b0 :: b1 :: b2 :: b3 :: bs => leNat [b0, b1, b2, b3] :: wordsOf bs
  | _ => []

/-- The signed value of the low `n` bits. -/
def sext (n v : Nat) : Int :=
  let w := v % 2 ^ n
  if n = 0 then 0 else if w < 2 ^ (n - 1) then (w : Int) else (w : Int) - (2 ^ n : Nat)

/-- The low `n` bits of an integer, two's complement. -/
def toBits (n : Nat) (i : Int) : Nat := (i % ((2 ^ n : Nat) : Int)).toNat

/-- Count up one, holding at the top (R126, R220 and the saturating fields of the PW_ page). -/
def satInc {n : Nat} (c : BitVec n) : BitVec n := if c = BitVec.allOnes n then c else c + 1

/-- Add, holding at the top. -/
def satAdd {n : Nat} (c : BitVec n) (k : Nat) : BitVec n :=
  if c.toNat + k < 2 ^ n then BitVec.ofNat n (c.toNat + k) else BitVec.allOnes n

/-- Bit `i` of a number set to `b`. -/
def setBit (w i : Nat) (b : Bool) : Nat :=
  let rest := w - (if bitAt w i then 2 ^ i else 0)
  if b then rest + 2 ^ i else rest

/-- Quotient rounded to nearest, halves up (R22, R38). -/
def divRound (a b : Nat) : Nat := if b = 0 then 0 else (2 * a + b) / (2 * b)

/-- Replace element `i` of a list by `f` of it; nothing where there is none. -/
def lmod {α : Type} : List α → Nat → (α → α) → List α
  | [], _, _ => []
  | a :: as, 0, f => f a :: as
  | a :: as, n + 1, f => a :: lmod as n f

/-- Pad with zero bytes to length `n`, cutting what is longer. -/
def padTo (n : Nat) (bs : List Byte) : List Byte := (bs ++ List.replicate n 0).take n

/-- Insert into a list kept in rising order of a key, after equals. -/
def insertBy {α : Type} (key : α → Nat) (a : α) : List α → List α
  | [] => [a]
  | b :: bs => if key a < key b then a :: b :: bs else b :: insertBy key a bs

/-- Stable sort by a key: equal keys keep their order (R46). -/
def sortBy {α : Type} (key : α → Nat) (l : List α) : List α := l.foldl (fun acc a => insertBy key a acc) []

end Sys2Proof.Machine
end

