-- ==== Sys2Proof/Machine/Crypto.lean ====
section
/-! DEFINITION. SHA-256 (FIPS 180-4), HMAC-SHA-256 (FIPS 198-1) and ECDSA verification on P-256
(FIPS 186-5), the standards R14 names and R575, R582 use. Everything recurses on lists or on fuel. -/
namespace Sys2Proof.Machine

/-- The largest `r` below `2 ^ bits` with `r ^ k` at most `n`, one bit at a time from the top. -/
def intRoot (k n bits : Nat) : Nat :=
  (List.range bits).reverse.foldl (fun r i => if (r + 2 ^ i) ^ k ≤ n then r + 2 ^ i else r) 0

/-- The first 32 bits of the fractional part of the `k`-th root of `p`: FIPS 180-4 draws its initial
value from square roots and its round constants from cube roots of primes. -/
def rootFraction (k p : Nat) : Word := BitVec.ofNat 32 (intRoot k (p * 2 ^ (32 * k)) 40)

/-- The primes below `n`, in order. -/
def primesBelow (n : Nat) : List Nat :=
  (List.range n).filter (fun p => decide (2 ≤ p) && (List.range p).all (fun d => decide (d < 2) || p % d != 0))

/-- The round constants: cube roots of the first 64 primes, 2 to 311. -/
def digestKeys : List Word := (primesBelow 312).map (rootFraction 3)

/-- XOR of three words. -/
def xor3 (x y z : Word) : Word := x ^^^ y ^^^ z

/-- The digest's two chains, newest value first: `up` takes the values called a to d, `down` those
called e to h. -/
structure Chains where
  up : List Word := []
  down : List Word := []
deriving DecidableEq, Repr

/-- The initial chains: square roots of the primes 2 to 7 and 11 to 19. -/
def Chains.first : Chains where
  up := (primesBelow 8).map (rootFraction 2)
  down := ((primesBelow 20).drop 4).map (rootFraction 2)

/-- One round: `kw` is its constant plus its schedule word. -/
def Chains.round (c : Chains) (kw : Word) : Chains :=
  let u (i : Nat) := c.up.getD i 0
  let d (i : Nat) := c.down.getD i 0
  let pick := (d 0 &&& d 1) ||| (~~~ d 0 &&& d 2)
  let most := (u 0 &&& (u 1 ||| u 2)) ||| (u 1 &&& u 2)
  let t := d 3 + kw + pick + xor3 ((d 0).rotateRight 6) ((d 0).rotateRight 11) ((d 0).rotateRight 25)
  { up := (t + most + xor3 ((u 0).rotateRight 2) ((u 0).rotateRight 13) ((u 0).rotateRight 22)) :: c.up.take 3
    down := (u 3 + t) :: c.down.take 3 }

/-- The schedule of a block, newest word first, grown by `n` words from those already there. -/
def schedule : Nat → List Word → List Word
  | 0, w => w
  | n + 1, w =>
    let old (back : Nat) := w.getD (back - 1) 0
    let p := old 15
    let q := old 2
    schedule n ((old 16 + old 7 + xor3 (p.rotateRight 7) (p.rotateRight 18) (p >>> 3)
      + xor3 (q.rotateRight 17) (q.rotateRight 19) (q >>> 10)) :: w)

/-- The chains after one block of sixteen words. -/
def Chains.absorb (c : Chains) (block : List Word) : Chains :=
  let kws := List.zipWith (fun k w => k + w) digestKeys (schedule 48 block.reverse).reverse
  let r := kws.foldl Chains.round c
  { up := List.zipWith (fun x y => x + y) c.up r.up, down := List.zipWith (fun x y => x + y) c.down r.down }

/-- The big-endian words of a text of `n` blocks, block by block. -/
def textBlocks (p : List Byte) (n : Nat) : List (List Word) :=
  (List.range n).map fun b => (List.range 16).map fun i =>
    BitVec.ofNat 32 (beNat ((p.drop (64 * b + 4 * i)).take 4))

def sha256 (m : List Byte) : List Byte :=
  let z := (64 - (m.length + 9) % 64) % 64
  let p := m ++ [0x80] ++ List.replicate z 0 ++ beBytes 8 (8 * m.length)
  let r := (textBlocks p (p.length / 64)).foldl Chains.absorb Chains.first
  (r.up ++ r.down).flatMap (fun w => beBytes 4 w.toNat)

def xorPad (k : Nat) (key : List Byte) : List Byte := (padTo 64 key).map (fun b => b ^^^ BitVec.ofNat 8 k)

def hmacSha256 (key m : List Byte) : List Byte :=
  let key := if 64 < key.length then sha256 key else key
  sha256 (xorPad 0x5C key ++ sha256 (xorPad 0x36 key ++ m))

/-- The field prime and group order of P-256. -/
def p256p : Nat := 0xffffffff00000001000000000000000000000000ffffffffffffffffffffffff
def p256n : Nat := 0xffffffff00000000ffffffffffffffffbce6faada7179e84f3b9cac2fc632551
def p256b : Nat := 0x5ac635d8aa3a93e7b3ebbd55769886bc651d06b0cc53b0f63bce3c3e27d2604b
def p256g : Nat × Nat :=
  (0x6b17d1f2e12c4247f8bce6e563a440f277037d812deb33a0f4a13945d898c296,
   0x4fe342e2fe1a7f9b8ee7eb4a7c0f9e162bce33576b315ececbb6406837bf51f5)

/-- Modular power, on the bits of the exponent. -/
def modPow (m : Nat) : Nat → Nat → Nat → Nat
  | 0, _, _ => 1 % m
  | fuel + 1, b, e =>
    if e = 0 then 1 % m
    else
      let r := modPow m fuel (b * b % m) (e / 2)
      if e % 2 = 1 then r * b % m else r

def modInv (m a : Nat) : Nat := modPow m 256 (a % m) (m - 2)

def modSub (m a b : Nat) : Nat := (a + (m - b % m)) % m

/-- Sum of two curve points; `none` is the point at infinity. -/
def p256Add : Option (Nat × Nat) → Option (Nat × Nat) → Option (Nat × Nat)
  | none, q => q
  | q, none => q
  | some (x1, y1), some (x2, y2) =>
    if x1 = x2 ∧ (y1 + y2) % p256p = 0 then none
    else
      let l := if x1 = x2 then (3 * x1 * x1 + (p256p - 3)) * modInv p256p (2 * y1) % p256p
        else modSub p256p y2 y1 * modInv p256p (modSub p256p x2 x1) % p256p
      let x3 := modSub p256p (l * l % p256p) (x1 + x2)
      some (x3, modSub p256p (l * modSub p256p x1 x3 % p256p) y1)

def p256Mul : Nat → Nat → Option (Nat × Nat) → Option (Nat × Nat)
  | 0, _, _ => none
  | fuel + 1, k, q =>
    if k = 0 then none
    else
      let r := p256Mul fuel (k / 2) (p256Add q q)
      if k % 2 = 1 then p256Add r q else r

/-- ECDSA verification: digest as a number, signature (r, s), public key (x, y) (R582). -/
def ecdsaVerify (z r s x y : Nat) : Bool :=
  if r = 0 ∨ p256n ≤ r ∨ s = 0 ∨ p256n ≤ s ∨ p256p ≤ x ∨ p256p ≤ y
      ∨ y * y % p256p ≠ (x * x * x + (p256p - 3) * x + p256b) % p256p then false
  else
    let w := modInv p256n s
    match p256Add (p256Mul 256 (z * w % p256n) (some p256g)) (p256Mul 256 (r * w % p256n) (some (x, y))) with
    | none => false
    | some (vx, _) => decide (vx % p256n = r)

end Sys2Proof.Machine
end

