-- ==== Sys2Proof/Config.lean ====
section
/-! DEFINITION. What an implementation fixes and what the manual leaves open. A constant without a
body is a free value: nothing in Lean can evaluate it, so a claim holds whatever it is. Each is
named in the assumption log. -/
namespace Sys2Proof

/-- A free natural number for the n-th use, at a point the manual leaves open (DESIGN CHOICE, log 3). -/
opaque Config.freeNat : Nat → Nat

/-- ID_DIE: the die's own 64-bit number, fixed at manufacture (R560; log 9). -/
opaque Config.dieId : Quad

/-- HOLD stands at 34 V or more at an instant (R551): no command tells but BROWNOUT_WARNING (DESIGN CHOICE, log 124). -/
opaque Config.holdAbove : Nat → Bool

/-- Retries of an ARA read that fails its PEC, and of a STATUS_WORD read: R202 gives them R189's retries, which are
counted for points and jobs alone (DESIGN CHOICE, log 37). -/
opaque Config.alertRetries : Nat

/-- The silicon revision of ID_IDENT (R560; log 9). -/
opaque Config.revision : BitVec 8

/-- SHA-256 of Uarath's firmware-signing public key, held in the boot ROM (R582; log 9). -/
opaque Config.firmwareKeyDigest : BitVec 256

/-- The firmware region of MRAM as delivered, by offset: slot 0 holds one committed image signed with Uarath's key,
whose bytes the manual does not give (R623; DESIGN CHOICE, log 8). -/
opaque Config.factoryByte : Nat → Byte

end Sys2Proof
end

