-- ==== Sys2Proof/Machine/Check.lean ====
section
/-! DEFINITION. The arithmetic of a Stitch unit (R223 to R227), the fixed profiles (R238), and the
checks of Breik (R115, R116), SMBus PEC (R186), SENT (R233), Aeloon (R429), snapshots and records. -/
namespace Sys2Proof.Machine

/-- The five parameters of a CRC and the augmentation of profile SENT4 (R223, R224). -/
structure Crc where
  width : Nat
  poly : Nat
  init : Nat
  refin : Bool := false
  refout : Bool := false
  xorout : Nat := 0
  aug : Bool := false
deriving DecidableEq, Repr

/-- Reverse the low `n` bits. -/
def reflectBits : Nat → Nat → Nat
  | 0, _ => 0
  | n + 1, u => (u % 2) * 2 ^ n + reflectBits n (u / 2)

/-- Shift the top `n` bits of `u` in, most significant first (R224). -/
def crcShift (c : Crc) : Nat → Nat → Nat → Nat
  | 0, _, crc => crc
  | n + 1, u, crc =>
    let fb := bitAt u n != bitAt crc (c.width - 1)
    let sh := (crc * 2) % 2 ^ c.width
    crcShift c n u (if fb then sh ^^^ (c.poly % 2 ^ c.width) else sh)

/-- Feed one unit of `n` bits. -/
def crcUnit (c : Crc) (n crc u : Nat) : Nat :=
  crcShift c n (if c.refin then reflectBits n u else u) crc

def crcFinish (c : Crc) (crc : Nat) : Nat :=
  let crc := if c.aug then crcShift c 4 0 crc else crc
  let crc := if c.refout then reflectBits c.width crc else crc
  crc ^^^ (c.xorout % 2 ^ c.width)

/-- The check over units of `n` bits, the fold first (R224). -/
def crcOver (c : Crc) (n : Nat) (units : List Nat) : Nat :=
  crcFinish c (units.foldl (crcUnit c n) (c.init % 2 ^ c.width))

def crcBytes (c : Crc) (bs : List Byte) : Nat := crcOver c 8 (bs.map BitVec.toNat)

/-- The eight fixed profiles of R238. -/
def breik8 : Crc := { width := 8, poly := 0x2F, init := 0xFF, xorout := 0xFF }
def breik16 : Crc := { width := 16, poly := 0x1021, init := 0xFFFF }
def sent4 : Crc := { width := 4, poly := 0xD, init := 0x5, aug := true }
def sent4Legacy : Crc := { width := 4, poly := 0xD, init := 0x5 }
def sent6 : Crc := { width := 6, poly := 0x19, init := 0x15 }
def pec8 : Crc := { width := 8, poly := 0x07, init := 0 }
def crc32 : Crc := { width := 32, poly := 0x04C11DB7, init := 0xFFFFFFFF, refin := true, refout := true, xorout := 0xFFFFFFFF }
def crc32c : Crc := { width := 32, poly := 0x1EDC6F41, init := 0xFFFFFFFF, refin := true, refout := true, xorout := 0xFFFFFFFF }

/-- Pack nibbles into bytes, most significant first, with a zero pad nibble (R115). -/
def packNibbles : List Nat → List Nat
  | [] => []
  | [a] => [16 * a]
  | a :: b :: r => (16 * a + b) :: packNibbles r

/-- A Breik check over the prefix of R115 and the check input nibbles. -/
def breikCheck (wide : Bool) (pos code seq : Nat) (nibbles : List Nat) : Nat :=
  crcOver (if wide then breik16 else breik8) 8 (pos % 256 :: (16 * code + seq % 16) % 256 :: packNibbles nibbles)

/-- The fold bytes of a constant K, most significant first (R226 code 5). -/
def foldK (k : Nat) : List Byte := beBytes 4 k

/-- CRC-32C with a constant fold: snapshot block, ledger record, fault record (R227). -/
def check32c (k : Nat) (bs : List Byte) : Nat := crcBytes crc32c (foldK k ++ bs)

/-- The Aeloon frame check with its fold (R227). -/
def checkAeloon (node seq : Nat) (bs : List Byte) : Nat :=
  crcBytes crc32 (foldK (node % 256 * 2 ^ 24 + seq % 65536) ++ bs)

/-- The value a nibble list spells, most significant first. -/
def nibblesVal : List Nat → Nat := fun l => l.foldl (fun a n => a * 16 + n % 16) 0

end Sys2Proof.Machine
end

