-- ==== Sys2Proof/Machine/FieldState.lean ====
section
/-! DEFINITION. The plain data of the field side: phase wheel and story pole (01), Breik ports and
their chains (02, 03), two-wire ports (04), Stitch units (05), point table and Scriber (06),
courses, snapshots and trace ring (07). Field defaults are the reset values the manual gives.
Instants and durations are counted in ticks of the 256 MHz sampling clock (R21). -/
namespace Sys2Proof.Machine

/-- A binary floating-point value of either width, with its exact magnitude (R257, R258). -/
inductive Fl where
  | nan
  | inf (neg : Bool)
  | fin (neg : Bool) (mag : Rat)
deriving DecidableEq, Repr

/-- The wheel's three states; `WheelState.code` is the 2-bit code of R36. -/
inductive WheelState where
  | locked | holdover | free
deriving DecidableEq, Repr

/-- How the angle moves (R31): at the rate of PW_PERIOD, through a slew, or not at all. -/
inductive Motion where
  | run
  | slew (e : Rat) (period : Rat)
  | hold
deriving DecidableEq, Repr

/-- One timing input: ZXA, ZXB or the ALP mark receiver (R25 to R30). -/
structure ZxInput where
  /-- PW_ZXx_OFFSET (R25) -/
  offset : BitVec 16 := 0
  /-- PW_CNT_x.REJECT (R28) -/
  reject : BitVec 16 := 0
  /-- PW_CNT_x.MISS (R30) -/
  miss : BitVec 16 := 0
  /-- stamp of the first qualified edge of the window last opened (R28, R29) -/
  winFirst : Option Nat := none
  /-- that window holds a second qualified edge: it counts as missed (R29) -/
  winDirty : Bool := false
  /-- that window's first edge was accepted, and when the window is over (R26, R30) -/
  winOk : Bool := false
  winEnd : Nat := 0
  /-- windows in a row that ended with one accepted edge and nothing else, before the last opened (R26) -/
  cleanRun : Nat := 0
  /-- stamps of the consecutive qualified edges of an acquisition, oldest first (R38) -/
  acqEdges : List Nat := []
  /-- stamp of the last accepted edge (R22) -/
  lastEdge : Option Nat := none
  /-- the last four accepted intervals, each per cycle, newest first (R22) -/
  intervals : List Rat := []
deriving DecidableEq, Repr

/-- The phase wheel (01). -/
structure Wheel where
  /-- PW_CTRL: SEL, EDGE_A, EDGE_B (R23 to R25) -/
  ctrl : Word := 0
  /-- PW_NOMINAL as last written (R64) -/
  nominalReg : BitVec 20 := 50000
  /-- the free-run frequency in force, mHz (R64) -/
  nominal : BitVec 20 := 50000
  /-- the PW_NOMINAL written that waits for the next boundary (R64) -/
  nominalWait : Option (BitVec 20) := none
  /-- PW_GLITCH (R27) -/
  glitch : Word := 0x1414
  a : ZxInput := {}
  b : ZxInput := {}
  alp : ZxInput := {}
  state : WheelState := .free
  /-- PW_STAT.ACQ (R36) -/
  acq : Bool := true
  /-- an acquisition on a new source waits for the next boundary (R37) -/
  acqWait : Bool := false
  /-- PW_STAT.ACTIVE -/
  active : BitVec 3 := 0
  /-- PW_STAT.MISS_RUN -/
  missRun : BitVec 4 := 0
  /-- MISS_RUN before the last accepted edge: a second edge in its window makes it a missed one (R29) -/
  missBefore : BitVec 4 := 0
  /-- PW_STAT.HOLD_LEFT -/
  holdLeft : BitVec 4 := 0
  /-- consecutive accepted edges in HOLDOVER (R37) -/
  holdoverGood : Nat := 0
  /-- the 48-bit cycle count (R19) -/
  count : BitVec 48 := 0
  /-- the count of the cycle before (R42) -/
  prevCount : BitVec 48 := 0
  /-- the model's own: cycles since the Beam die left reset, whatever count a worker adopts (R42) -/
  cycle : Nat := 0
  /-- PW_CYCLE_HI as latched (R67) -/
  cycleHi : BitVec 16 := 0
  /-- PW_PERIOD (R22) -/
  period : BitVec 32 := 5120000
  /-- PW_PHASE_ERR (signed) -/
  phaseErr : BitVec 16 := 0
  /-- the angle at the anchor instant, and the motion since (R21, R31) -/
  anchorT : Nat := 0
  anchorA : Rat := 0
  motion : Motion := .run
  /-- manager: a correction that waits for the next beacon, and whether it posts no event (R35, R435) -/
  owed : Option (Int × Bool) := none
  /-- PW_STEP_CNT -/
  steps : BitVec 16 := 0
  holds : BitVec 16 := 0
  /-- PW_STRIKE_CNT -/
  skipped : BitVec 10 := 0
  missed : BitVec 11 := 0
  shed : BitVec 11 := 0
  /-- PW_EVT_THR -/
  evtThr : BitVec 12 := 65
  /-- worker: the manager's wheel state from its cycle beacon (R41) -/
  mgrState : WheelState := .locked
  /-- worker: the manager's cycle count still to adopt (R42) -/
  mgrCount : Option (BitVec 48) := none
deriving DecidableEq, Repr

/-- One story-pole entry (R44); DIV 0 stands for 256. -/
structure PoleEntry where
  angle : BitVec 16 := 0
  action : BitVec 8 := 0
  arg : BitVec 8 := 0
  div : BitVec 8 := 1
  offs : BitVec 8 := 0
deriving DecidableEq, Repr

/-- The strike last fired: its pole angle, cycle and instant (R50). -/
structure StrikeMark where
  angle : Nat := 0
  cycle : Nat := 0
  at' : Nat := 0
deriving DecidableEq, Repr

/-- The story pole in force and its gates (R44 to R65). -/
structure Pole where
  /-- the image in force, by entry index; entries beyond it are NOP -/
  entries : List PoleEntry := []
  /-- entries that have fired, been skipped or been shed in this cycle (R32) -/
  fired : List Nat := []
  /-- bit g: the poll window of port group g is closed (R54, R55) -/
  closed : BitVec 16 := 0
  lastStrike : Option StrikeMark := none
  /-- the pole has run since the Beam die left reset (R557) -/
  ran : Bool := false
  /-- Halter mode has ended: the pole runs again from the next cycle boundary (R544) -/
  waits : Bool := false
deriving DecidableEq, Repr

/-- One point-table entry (R247). -/
structure Point where
  src : Nat := 0
  addr : Nat := 0
  cmd : Nat := 0
  xfer : Nat := 0
  pec : Bool := false
  valid : Bool := false
  foffs : Nat := 0
  fwidth : Nat := 0
  fbase : Nat := 0
  fmt : Nat := 0
  courses : BitVec 16 := 0
  coef : Nat := 0
  prio : Nat := 0
  mand : Bool := false
  capture : Nat := 0
  retry : Nat := 0
  rdiv : Nat := 0
  slack : Nat := 0
  ident : Nat := 0
deriving DecidableEq, Repr

/-- One coefficient set (R255): four words. -/
structure Coef where
  w0 : Word := 0x3F800000
  w1 : Word := 0
  lo : Word := 0xFF800000
  hi : Word := 0x7F800000
deriving DecidableEq, Repr

/-- One slack rule (R268) and its run (R269). -/
structure SlackRule where
  gov : Nat := 0
  enable : Bool := false
  dwell : Nat := 0
  thresh : Word := 0
  /-- consecutive published readings below THRESH -/
  run : Nat := 0
  holding : Bool := false
deriving DecidableEq, Repr

/-- What a point knows beside its entry: the marks of R145, R147 and R191. -/
structure PointMark where
  verified : Bool := false
  absent : Bool := false
deriving DecidableEq, Repr

/-- The VOUT_MODE cache of one target (R260, R261). -/
structure VoutMode where
  valid : Bool := false
  exp : Int := 0
  /-- a read is owed in the next gap -/
  due : Bool := false
deriving DecidableEq, Repr

/-- Points, coefficients and marks as they stood for the strikes of the cycles before `before` (R9). -/
structure TableVersion where
  before : Nat := 0
  points : Tbl Point := []
  coefs : Tbl Coef := []
  marks : Tbl PointMark := []
deriving DecidableEq, Repr

/-- The tables of 06: points, identities, coefficients, slack rules, marks, exponent caches. -/
structure Tables where
  points : Tbl Point := []
  idents : Tbl Quad := []
  coefs : Tbl Coef := []
  slack : Tbl SlackRule := []
  marks : Tbl PointMark := []
  /-- key 128 * port + target -/
  vmode : Tbl VoutMode := []
  /-- what earlier strikes end under, oldest first (R9) -/
  old : List TableVersion := []
deriving DecidableEq, Repr

/-- One transaction or span of a cut list (R272 to R278). -/
inductive EntryKind where
  | strikeSpan
  | zoneWrite
  | roll (ext : Bool)
  | pick (pos : Nat) (ext : Bool)
  | twRead (addr cmd xfer : Nat) (pec : Bool)
  | sentRead (id : Nat)
  | reserve
deriving DecidableEq, Repr

/-- An entry of a port's cut list: its anchor strike's angle, its planned length in ticks, its span and its
deadline in au of the compile frequency, counted from the start of the strike's cycle, and its rate phase
(R267). A strike-placed entry starts at its planned time, `off` ticks from S; any other within a range
(R274, R286). -/
structure CutEntry where
  kind : EntryKind := .reserve
  /-- ANGLE of the strike -/
  angle : Nat := 0
  /-- 0 Nearest, 1 Bracketed read B, 2 Bracketed read A, 3 Zone-latched (R274) -/
  policy : Nat := 0
  placed : Bool := false
  off : Int := 0
  len : Nat := 0
  start : Int := 0
  stop : Int := 0
  deadline : Option Int := none
  phase : Nat := 0
  points : List Nat := []
deriving DecidableEq, Repr

/-- A port's list, with the dropped entries of R283. -/
structure CutList where
  entries : List CutEntry := []
  dropped : Nat := 0
deriving DecidableEq, Repr

/-- A course record in force (R294). -/
structure CourseCfg where
  w0 : Word := 0
  kerf : Nat := 0
  base : Nat := 0
  size : Nat := 0
  mergeWait : Nat := 0
deriving DecidableEq, Repr

/-- A configuration change that waits for a compile (R281, R282), decoded and checked, with the slot
of the job that carried it and the entries it writes. -/
inductive Change where
  | points (slot : Option Nat) (pts : List (Nat × Point)) (ids : List (Nat × Quad)) (slack : List (Nat × SlackRule))
  | coefs (slot : Option Nat) (sets : List (Nat × Coef))
  | pole (slot : Option Nat) (entries : List PoleEntry)
  | courses (slot : Option Nat) (recs : List (Nat × CourseCfg))
  /-- PW_NOMINAL written while SEL is 0b100 (R64) -/
  | nominal (mhz : BitVec 20)
  | plain
deriving DecidableEq, Repr

/-- What a finished compile hands to the next boundary (R285): the accepted changes and the lists. -/
structure Compiled where
  changes : List Change := []
  lists : Tbl CutList := []
  krisk : Nat := 0
  /-- ports whose waiting map the compile includes (R139) -/
  maps : List Nat := []
  /-- 1 swapped, 2 a job change refused, 3 entries dropped (PT_SCR_STAT.LAST) -/
  last : BitVec 2 := 1
deriving DecidableEq, Repr

/-- Chain-life states (R138); `Life.code` is PT_CHAIN_STAT.LIFE. -/
inductive Life where
  | off | unsearched | search | swapWait | service | unstable | fenced
deriving DecidableEq, Repr

/-- What a Breik or SENT transaction is for. -/
inductive AwlUse where
  | read (entry : CutEntry) (count : Nat)
  | job (slot : Nat)
  | sweep
  | searchId (q : Nat)
  | searchCfg (p : Nat)
  | searchRoll
  | prefixId (p : Nat)
deriving DecidableEq, Repr

/-- The command whose answer the engine awaits (R85, R115). -/
structure AwlCmd where
  use : AwlUse := .sweep
  /-- command code of the fold prefix -/
  code : Nat := 0
  seq : Nat := 0
  /-- position expected next, and the frame kind expected -/
  pos : Nat := 0
  kind : Nat := 0
  /-- a ROLL: frames received so far, and the class counters' view of it (R97 to R99) -/
  isRoll : Bool := false
  frames : Nat := 0
  misplaced : Bool := false
  /-- it re-sends the head of the port's retries (R164) -/
  isRetry : Bool := false
  /-- parameters of a WRITE: register, value, mode -/
  wreg : Nat := 0
  wval : Nat := 0
  wmode : Nat := 0
deriving DecidableEq, Repr

/-- A failed frame on its way through R164. -/
structure AwlRetry where
  use : AwlUse := .sweep
  code : Nat := 0
  pos : Nat := 0
  kind : Nat := 0
  wreg : Nat := 0
  wval : Nat := 0
  wmode : Nat := 0
  left : Nat := 0
  firstCheck : Bool := false
  lastClass : Nat := 0
  /-- check inputs of the attempts classed CHECK_FAIL at full length (R165) -/
  failed : List (List Nat) := []
  /-- the frame is the answer to a WRITE (R164) -/
  write : Bool := false
  /-- a WRITE held back for NV busy has been counted (R102) -/
  deferred : Bool := false
deriving DecidableEq, Repr

/-- The step a search has reached (R134); `pre*` are the steps of the prefix read (R153). -/
inductive SearchStep where
  | waitWire | reset | presence | probe | identity | assign | config | roll
  | preReset | prePresence | preProbe | preRead | preDone | waitRestart
deriving DecidableEq, Repr

/-- A search in progress (R134 to R140, R153). -/
structure Search where
  step : SearchStep := .waitWire
  /-- CHAIN_CHANGED cause (R168) -/
  cause : Nat := 0
  /-- presence count N, and the start of the last pulse (R105) -/
  n : Nat := 0
  lastPulse : Option Nat := none
  resetEnd : Nat := 0
  single : Bool := false
  restarts : Nat := 0
  /-- presence counts of the failed attempts (R168) -/
  counts : List Nat := []
  lastStep : Nat := 0
  idx : Nat := 1
  repeats : Nat := 0
  /-- identities by position as read, and the positions with EXT -/
  found : Tbl Quad := []
  ext : List Nat := []
  /-- the attempt runs at 250 ns (R79) -/
  down : Bool := false
deriving DecidableEq, Repr

/-- A map that waits for its boundary (R139, R154); a prefix map brings the failed attempts' counts, the last
failure's step and the jobs that its search answers (R151, R168). -/
structure WaitMap where
  map : List Quad := []
  ext : List Nat := []
  counts : List Nat := []
  lastStep : Nat := 0
  cause : Nat := 0
  jobs : List Nat := []
deriving DecidableEq, Repr

/-- A received fast-channel frame: its status and data nibbles and its interval (R124). -/
structure SentFrame where
  nibbles : List Nat := []
  /-- the check nibble as received -/
  check : Nat := 0
  start : Nat := 0
  stop : Nat := 0
deriving DecidableEq, Repr

/-- SENT reception of one sensor ID (R122 to R125). -/
structure SentId where
  calPrev : Option Nat := none
  /-- the latest valid frame and the one before it -/
  last : Option SentFrame := none
  prev : Option SentFrame := none
  /-- slow-channel bits assembled, oldest first: (bit 3, bit 2) of each frame's status nibble -/
  slow : List (Bool × Bool) := []
  /-- latest message of each message ID: value and number of bits -/
  messages : Tbl (Option (Nat × Nat)) := []
deriving DecidableEq, Repr

/-- A Breik or SENT port (02, 03). -/
structure AwlPort where
  /-- PT_AWL_CFG, PT_AWL_SENT as written and in force (R130) -/
  cfgReg : Word := 0x51E4
  cfg : Word := 0x51E4
  sentReg : Word := 0x603006
  sent : Word := 0x603006
  life : Life := .off
  chainLen : BitVec 7 := 0
  seq : BitVec 4 := 0
  tickDown : Bool := false
  alertSeen : Bool := false
  nvBusySeen : Bool := false
  echoOk : Bool := false
  rt : BitVec 12 := 0
  /-- the mean of four echoes, RT from the next strike on (R113) -/
  rtDue : Option (BitVec 12) := none
  rtLast : BitVec 12 := 0
  gen : BitVec 16 := 0
  everSearched : Bool := false
  pfx : BitVec 7 := 0
  fenceCause : BitVec 3 := 0
  tries : BitVec 8 := 0
  /-- failed unfence attempts since the fence began, which a read of TRIES leaves (R168) -/
  failedTries : Nat := 0
  /-- exponents of the fence and UNSTABLE intervals, the latter `none` since SERVICE (R155, R160), and the
  instant of the next attempt -/
  fenceExp : Nat := 0
  unstableExp : Option Nat := none
  nextAt : Option Nat := none
  /-- an unfence attempt watches the line; with the slots attached (R160, R161) -/
  watch : Bool := false
  /-- an attempt passed and the search after it is under way: whether a job had asked (R160, R161) -/
  unfenced : Option Bool := none
  unfenceJobs : List Nat := []
  /-- the engine: the command whose answer is awaited, the strong pull-up (1 strike, 2 commit) -/
  cmd : Option AwlCmd := none
  spu : Nat := 0
  spuUntil : Nat := 0
  /-- positions left to PICK after a ROLL ended early (R98) -/
  pickUp : List Nat := []
  retries : List AwlRetry := []
  heldWrites : List Nat := []
  calPrev : Tbl Nat := []
  echoes : List Nat := []
  ext : List Nat := []
  nvBusy : List Nat := []
  /-- the trigger of a strike has been sent: its angle, closing edge E (R109) -/
  armed : Option (Nat × Nat) := none
  /-- the last strike the port took part in: its instant S (R112) -/
  strikeS : Nat := 0
  /-- strikes of this cycle and the last: angle, cycle, and whether the port took part (R51) -/
  judged : List (Nat × Nat × Bool) := []
  /-- latch instant of the last strike whose echo arrived (R266), in half ticks from reset -/
  latch : Option Nat := none
  map : List Quad := []
  /-- the map of a finished search (R139), and the prefix map of a failed one (R154), each before its boundary -/
  waiting : Option WaitMap := none
  prefixWait : Option WaitMap := none
  search : Option Search := none
  searchJobs : List Nat := []
  held : List Nat := []
  /-- runs of R141: NO_RESPONSE per position, MISPLACED ROLLs, strikes without echo -/
  noResp : Tbl Nat := []
  misRun : Nat := 0
  echoRun : Nat := 0
  changeCause : Nat := 0
  sweepPos : Nat := 1
  sweepLeft : Nat := 0
  sentIds : Tbl SentId := []
  /-- instant of the last SPC trigger, and how long it held the line low (R123) -/
  spcStart : Nat := 0
  spcLow : Nat := 0
  /-- the check sent with the last WRITE or CONFIG (R115) -/
  sentCheck : Nat := 0
  selfTest : Bool := false
deriving DecidableEq, Repr

/-- What a two-wire transaction is for. -/
inductive TwUse where
  | read (entry : CutEntry) (count : Nat)
  | job (slot : Nat) (capping : Bool)
  | zone (entry : CutEntry) (count : Nat)
  | ara (input : Nat)
  | araStatus (input : Nat) (target : Nat) (pec : Bool)
  | vmode (target : Nat)
  | ship (str : Nat) (idx : Nat)
deriving DecidableEq, Repr

/-- A two-wire transaction: what it sends, what it reads, and its attempts so far (R188 to R190). -/
structure TwXfer where
  use : TwUse := .vmode 0
  addr : Nat := 0
  /-- bytes after the address byte of the write part; no write part when `none` -/
  tx : Option (List Byte) := none
  /-- data bytes to read; `block`: a count byte comes first -/
  rlen : Nat := 0
  block : Bool := false
  pec : Bool := false
  /-- quick command and group command carry their own bytes (R365) -/
  group : Bool := false
  readBit : Bool := false
  left : Nat := 0
  arbLeft : Nat := 0
  attempts : Nat := 0
  firstPec : Bool := false
  failedCount : Nat := 0
  failedData : List (List Byte) := []
  lastClass : Nat := 0
  partsSent : Nat := 0
  /-- every attempt so far ended in ADDR_NACK, the last at this address (R191) -/
  allNacked : Bool := true
  refused : Nat := 0
  aborted : Bool := false
deriving DecidableEq, Repr

/-- One read of a bracket (R214). -/
structure Reading where
  value : Fl := .nan
  /-- 2 * midpoint -/
  mid2 : Int := 0
  retried : Bool := false
  recovered : Bool := false
deriving DecidableEq, Repr

/-- A two-wire port (04). -/
structure TwPort where
  cfgReg : Word := 0x2003240
  cfg : Word := 0x2003240
  zoneReg : Word := 0
  zone : Word := 0
  scl : Bool := true
  sda : Bool := true
  fenced : Bool := false
  fenceCause : BitVec 3 := 0
  tries : BitVec 8 := 0
  /-- failed unfence attempts since the fence began, which a read of TRIES leaves (R168) -/
  failedTries : Nat := 0
  fenceExp : Nat := 0
  nextAt : Option Nat := none
  watch : Bool := false
  unfenceJobs : List Nat := []
  /-- an attempt passed: service resumes at the next boundary; true when a job asked (R210) -/
  returning : Option Bool := none
  arb : Word := 0
  lpi : Bool := false
  waking : Bool := false
  target : Bool := false
  segFree : Bool := true
  /-- the port has entered service and has neither run a transaction nor seen its segment free since (R207) -/
  entered : Bool := false
  xfer : Option TwXfer := none
  /-- the transactions that wait to be retried, first first (R189, R290) -/
  retries : List TwXfer := []
  timeoutAt : Option Nat := none
  /-- ADDR_NACK transactions in a row per target (R191) -/
  nackRun : Tbl Nat := []
  absent : List Nat := []
  /-- the last Zone Write that completed in time: angle and cycle of its strike, and its STOP (R217, R218) -/
  zoneStop : Option (Nat × Nat × Nat) := none
  selfTest : Bool := false
deriving DecidableEq, Repr

/-- What a compile reads beside the tables: the port-group and Scriber registers, PW_CTRL and the ports. -/
structure CompileBasis where
  pgrp : Tbl Word := []
  cfg : Word := 0
  ctrl : Word := 0
  awl : Tbl AwlPort := []
  tw : Tbl TwPort := []
deriving DecidableEq, Repr

/-- The Scriber (06) and its registers. -/
structure Scriber where
  /-- PT_PGRPi as written and in force -/
  pgrpReg : Tbl Word := []
  pgrp : Tbl Word := []
  cfgReg : Word := 0x03210002
  cfg : Word := 0x03210002
  /-- PT_SCR_CNT_SEL, PT_SCR_PSEL -/
  cntSel : Word := 0
  psel : BitVec 7 := 0
  /-- R293 counters, key 32 * port + counter -/
  ctr : Tbl (BitVec 32) := []
  lists : Tbl CutList := []
  krisk : BitVec 16 := 0
  compiling : Bool := false
  compileStart : Nat := 0
  /-- the changes of the running compile, and those gathered for the next one (R281) -/
  running : List Change := []
  gathered : List Change := []
  /-- what the running compile reads, as it stood when the compile started (R281) -/
  basis : Option CompileBasis := none
  /-- finished compiles, each for a boundary of its own, the next one first (R61, R62) -/
  ready : List Compiled := []
  last : BitVec 2 := 0
  lastTime : BitVec 12 := 0
  done : BitVec 16 := 0
  refused : BitVec 16 := 0
  /-- the cycle the lists in force began with: entries anchored to earlier strikes do not run (R285) -/
  swapCount : Nat := 0
  /-- cut lists resume at the next cycle boundary, after Halter mode or the brown-out warning (R211, R554) -/
  paused : Bool := false
deriving DecidableEq, Repr

/-- Alert service of one input (R201 to R203). -/
structure AlertSvc where
  level : Bool := false
  pending : Bool := false
  unclaimed : Bool := false
  /-- bound ports still to ask, reads made on the first of them, and whether every port before it ended in an ARA
  read that nobody acknowledged (R202, R203) -/
  ports : List Nat := []
  reads : Nat := 0
  silent : Bool := true
deriving DecidableEq, Repr

/-- A reading that waits for its strike, or for the other read of its bracket (R213, R214), `count` being
the cycle of its strike; `reading` is `none` when the read failed. -/
structure Early where
  angle : Nat := 0
  count : Nat := 0
  point : Nat := 0
  bracket : Bool := false
  reading : Option Reading := none
deriving DecidableEq, Repr

/-- Port work that Foreman G holds for the engines (R287 to R290). -/
structure PortQueue where
  /-- slots of waiting job transactions, in fetch order -/
  jobs : List Nat := []
  /-- slots of waiting capping writes, and Tally's ship write (R481) -/
  capping : List Nat := []
  ship : List TwXfer := []
  /-- entries started or skipped, with the cycle of their strike (R286) -/
  ran : List (Nat × Nat) := []
  /-- entries of the list before the last swap that may still run, with the cycle of their strike (R285) -/
  tail : List (CutEntry × Nat) := []
  /-- until when capping writes, and the entries they made late, delay the port's entries (R290) -/
  capUntil : Option Nat := none
deriving DecidableEq, Repr

/-- The Buckle engines' global registers (04) and the Awl engines' (02, 03). -/
structure Ports where
  awl : Tbl AwlPort := []
  tw : Tbl TwPort := []
  q : Tbl PortQueue := []
  awlCntSel : Word := 0
  /-- counters, key 32 * port + index (R126, R220) -/
  awlCtr : Tbl (BitVec 32) := []
  bklCtr : Tbl (BitVec 32) := []
  awlErr : BitVec 64 := 0
  bklErr : BitVec 64 := 0
  bklCntSel : Word := 0
  chainCfgReg : Word := 0x1080A
  chainCfg : Word := 0x1080A
  chainLimitReg : Word := 0x20800
  chainLimit : Word := 0x20800
  fenceCfgReg : Word := 0x70
  fenceCfg : Word := 0x70
  mapSel : Word := 0x100
  mapLo : Word := 0
  mapHi : Word := 0
  mapInfo : Word := 0
  bklCfgReg : Word := 0x522064
  bklCfg : Word := 0x522064
  zoneAddrReg : Word := 0x2837
  zoneAddr : Word := 0x2837
  /-- PT_ALERT_LO/HI(a): 64 bits per input -/
  alertBindReg : Tbl Quad := []
  alertBind : Tbl Quad := []
  alertCfgReg : Word := 0
  alertCfg : Word := 0
  alert : Tbl AlertSvc := []
  /-- readings that wait for their strike or for their bracket's other read -/
  early : List Early := []
  /-- last Cinch conversion of each channel: code and sample instant (R252) -/
  conv : Tbl (Nat × Nat) := []
  /-- a ship write of Tally's has ended, and whether it completed (R481) -/
  shipResult : Option Bool := none
deriving DecidableEq, Repr

/-- One snapshot record (R302). -/
structure Rec where
  value : Word := 0
  offset : BitVec 16 := 0
  quality : BitVec 8 := 0
  age : BitVec 8 := 0
deriving DecidableEq, Repr

/-- A snapshot under construction (R9, R312, R313). -/
structure Snap where
  cfg : CourseCfg := {}
  kerf : Nat := 0
  angle : Nat := 0
  /-- the cycle of the strike, and its cycle count -/
  cycle : Nat := 0
  count : Nat := 0
  /-- PW_PERIOD at the strike (R469) -/
  period : Nat := 0
  at' : Nat := 0
  pole : Nat := 0
  wheel : Nat := 0
  points : List Nat := []
  due : List Nat := []
  unresolved : List Nat := []
  captured : List Nat := []
  late : Nat := 0
  /-- workers joined at the strike (R324) -/
  joined : List Nat := []
  /-- points of the course whose last due record before this strike met R309 -/
  okBefore : List Nat := []
deriving DecidableEq, Repr

/-- A rack snapshot that is open (R322 to R326): its strike and sequence, the host buffer taken for it,
the workers joined at the strike, every worker slice's place and record count, the slices in, whether
all of them are CONSISTENT, and node 0's header once its check is ready. -/
structure Merge where
  count : Nat := 0
  angle : Nat := 0
  seq : Nat := 0
  half : Bool := false
  /-- address and ring index of the buffer -/
  addr : Nat := 0
  index : Nat := 0
  expected : List Nat := []
  /-- node, offset in the buffer, records -/
  parts : List (Nat × Nat × Nat) := []
  arrived : List Nat := []
  consistent : Bool := true
  header : Option (List Byte) := none
deriving DecidableEq, Repr

/-- A course and its banks (07). -/
structure Course where
  cfg : CourseCfg := {}
  half : Bool := false
  consistent : Bool := false
  seq : BitVec 32 := 0
  ach : BitVec 32 := 0
  inconsistentCnt : BitVec 16 := 0
  overrun : BitVec 16 := 0
  lateSlices : BitVec 8 := 0
  missing : BitVec 8 := 0
  snap : Option Snap := none
  /-- the published record of each point still in the course (R308) -/
  kept : Tbl Rec := []
  /-- points that left the course since the strike of the open snapshot (R305, R308) -/
  left : List Nat := []
  /-- the set-up each half was struck under (R9, R298) -/
  cfgA : CourseCfg := {}
  cfgB : CourseCfg := {}
  /-- due points unresolved at publication, with angle and cycle of their strike (R315) -/
  lateWait : List (Nat × Nat × List Nat) := []
  /-- the workers joined at the strike of the snapshot in each half (R324) -/
  joinedA : List Nat := []
  joinedB : List Nat := []
  /-- this worker was joined when each half was published (R449) -/
  upA : Bool := false
  upB : Bool := false
  /-- points whose record at the last strike where they were due met R309 -/
  dueOk : List Nat := []
  /-- the last snapshot was inconsistent; snapshots so since then and since the last KERF_MISS (R329) -/
  lastBad : Bool := false
  repeatRun : Nat := 0
  sinceMiss : Nat := 0
  /-- SNAPSHOT_PUBLISHED and KERF_MISS that wait for every output of their half: code and payload (R314) -/
  postDue : List (Bool × Nat × List Byte) := []
  /-- angle, cycle and instant S of the last strikes, newest first (R315) -/
  strikes : List (Nat × Nat × Nat) := []
  header0 : List Byte := []
  header1 : List Byte := []
  /-- copies under way: the half, and whether it is the uplink's (R319, R320) -/
  copies : List (Bool × Bool) := []
  /-- open rack snapshots, oldest first -/
  merges : List Merge := []
deriving DecidableEq, Repr

/-- The trace ring (R330 to R336). -/
structure Trace where
  mem : Tbl Byte := []
  /-- complete entries in ring order, oldest first: offset and length -/
  entries : List (Nat × Nat) := []
  ctrl : Word := 0x10040
  rearm : Bool := false
  state : BitVec 2 := 0
  cause : BitVec 3 := 0
  /-- the cause of the last freeze, while a trigger counts (R339, R370) -/
  lastCause : BitVec 3 := 0
  postLeft : BitVec 16 := 0
  /-- TRACE_COPY jobs that run, in the order they started (R335) -/
  copySlots : List Nat := []
  wptr : BitVec 22 := 0
  trig : BitVec 22 := 0
  trigSet : Bool := false
  trigRule : Nat := 255
  trigCourse : Nat := 0
  ignored : BitVec 16 := 0
  wraps : BitVec 16 := 0
  freezeJobs : List Nat := []
  rules : List (Word × Word) := [(0x10000, 0x7F800000), (0x10000, 0x7F800000), (0x10000, 0x7F800000), (0x10000, 0x7F800000)]
deriving DecidableEq, Repr

/-- Courses, banks and trace ring. -/
structure Tack where
  courses : Tbl Course := []
  /-- both bank halves: records 0 to 131,071 (R311) -/
  banks : Tbl Rec := []
  /-- published snapshots waiting for unit 2: course and half (R316) -/
  checkQ : List (Nat × Bool) := []
  trace : Trace := {}
deriving DecidableEq, Repr

/-- A settable profile (R246). -/
structure Profile where
  cfg : Word := 0
  poly : Word := 0
  init : Word := 0
  xor : Word := 0
deriving DecidableEq, Repr

/-- The pooled Stitch units (05). -/
structure Stitch where
  failed : BitVec 8 := 0
  tested : BitVec 8 := 0
  /-- STITCH_RUN jobs on units 4 to 7, with the profile as it stood at the start -/
  units : Tbl (Option (Nat × Profile)) := []
  waiting : List Nat := []
  profiles : Tbl Profile := []
  rxFail : BitVec 32 := 0
  ledgerFail : BitVec 16 := 0
  faultFail : BitVec 16 := 0
  runs : BitVec 16 := 0
  mismatch : BitVec 16 := 0
deriving DecidableEq, Repr

end Sys2Proof.Machine
end

