-- ==== Sys2Proof/Machine/Float.lean ====
section
/-! DEFINITION. IEEE 754 binary16, binary32 and binary64 as the normalizer uses them (R257 to R259):
a value is exact, and a rounding function names the format, nearest with ties to even. -/
namespace Sys2Proof.Machine

/-- 2 to an integer power. -/
def pow2 (i : Int) : Rat := if 0 ≤ i then ((2 ^ i.toNat : Nat) : Rat) else 1 / ((2 ^ (-i).toNat : Nat) : Rat)

/-- 10 to an integer power (R257, DIRECT). -/
def pow10 (i : Int) : Rat := if 0 ≤ i then ((10 ^ i.toNat : Nat) : Rat) else 1 / ((10 ^ (-i).toNat : Nat) : Rat)

/-- floor of log2 of a positive rational. -/
def ratLog2 (q : Rat) : Int :=
  let g : Int := (q.num.natAbs.log2 : Int) - (q.den.log2 : Int)
  if q < pow2 g then g - 1 else g

/-- A nonnegative rational to the nearest whole number, ties to even. -/
def roundEven (q : Rat) : Nat :=
  let n := q.floor.toNat
  let d := q - (n : Rat)
  if d < 1 / 2 then n else if (1 : Rat) / 2 < d then n + 1 else if n % 2 = 0 then n else n + 1

/-- A rational to the nearest whole number, halves away from zero (R300, R469). [DESIGN CHOICE, log 51] -/
def roundAway (q : Rat) : Int := if q < 0 then -((-q + 1 / 2).floor) else (q + 1 / 2).floor

/-- Round a magnitude to `p` significant bits, least exponent `emin`, largest exponent `emax`;
`none` stands for overflow to infinity. -/
def roundMag (p : Nat) (emin emax : Int) (m : Rat) : Option Rat :=
  if m = 0 then some 0 else
    let lsb := max (ratLog2 m - ((p : Int) - 1)) emin
    let r := (roundEven (m / pow2 lsb) : Rat) * pow2 lsb
    if r < pow2 (emax + 1) then some r else none

def Fl.roundTo (p : Nat) (emin emax : Int) : Fl → Fl
  | .nan => .nan
  | .inf n => .inf n
  | .fin n m => match roundMag p emin emax m with
    | some r => .fin n r
    | none => .inf n

def Fl.round64 : Fl → Fl := Fl.roundTo 53 (-1074) 1023
def Fl.round32 : Fl → Fl := Fl.roundTo 24 (-149) 127

def Fl.ofRat (q : Rat) : Fl := if q < 0 then .fin true (-q) else .fin false q

/-- The exact value of a finite number. -/
def Fl.toRat : Fl → Rat
  | .fin true m => -m
  | .fin false m => m
  | _ => 0

def Fl.isNan : Fl → Bool
  | .nan => true
  | _ => false

def Fl.finite : Fl → Bool
  | .fin _ _ => true
  | _ => false

/-- Decode a format with `eb` exponent and `mb` fraction bits. -/
def Fl.decode (eb mb w : Nat) : Fl :=
  let neg := bitAt w (eb + mb)
  let e := bitsAt w mb eb
  let f := bitsAt w 0 mb
  let bias : Int := (2 ^ (eb - 1) : Nat) - 1
  if e = 2 ^ eb - 1 then (if f = 0 then .inf neg else .nan)
  else if e = 0 then .fin neg ((f : Rat) * pow2 (1 - bias - mb))
  else .fin neg (((2 ^ mb + f : Nat) : Rat) * pow2 ((e : Int) - bias - mb))

def Fl.of16 (w : Nat) : Fl := Fl.decode 5 10 w
def Fl.of32 (w : Nat) : Fl := Fl.decode 8 23 w

/-- Encode a value already rounded to the format. -/
def Fl.encode (eb mb : Nat) : Fl → Nat
  | .nan => (2 ^ eb - 1) * 2 ^ mb + 2 ^ (mb - 1)
  | .inf n => b2n n * 2 ^ (eb + mb) + (2 ^ eb - 1) * 2 ^ mb
  | .fin n m =>
    let bias : Int := (2 ^ (eb - 1) : Nat) - 1
    let s := b2n n * 2 ^ (eb + mb)
    if m = 0 then s else
      let e := ratLog2 m
      if e < 1 - bias then s + (m / pow2 (1 - bias - mb)).floor.toNat
      else s + (e + bias).toNat * 2 ^ mb + ((m / pow2 (e - mb)).floor.toNat - 2 ^ mb)

/-- The binary32 pattern of a value, rounded once (R258). -/
def Fl.bits32 (x : Fl) : Word := BitVec.ofNat 32 (Fl.encode 8 23 x.round32)

/-- IEEE 754 sum before rounding. The sign of a zero sum is positive unless both are negative. -/
def Fl.add : Fl → Fl → Fl
  | .nan, _ => .nan
  | _, .nan => .nan
  | .inf a, .inf b => if a = b then .inf a else .nan
  | .inf a, .fin _ _ => .inf a
  | .fin _ _, .inf b => .inf b
  | .fin a m, .fin b n =>
    let q := Fl.toRat (.fin a m) + Fl.toRat (.fin b n)
    if q = 0 then .fin (a && b) 0 else Fl.ofRat q

def Fl.neg : Fl → Fl
  | .nan => .nan
  | .inf a => .inf (!a)
  | .fin a m => .fin (!a) m

def Fl.sub (x y : Fl) : Fl := Fl.add x y.neg

def Fl.mul : Fl → Fl → Fl
  | .nan, _ => .nan
  | _, .nan => .nan
  | .inf a, .inf b => .inf (a != b)
  | .inf a, .fin b n => if n = 0 then .nan else .inf (a != b)
  | .fin a m, .inf b => if m = 0 then .nan else .inf (a != b)
  | .fin a m, .fin b n => .fin (a != b) (m * n)

def Fl.div : Fl → Fl → Fl
  | .nan, _ => .nan
  | _, .nan => .nan
  | .inf _, .inf _ => .nan
  | .inf a, .fin b _ => .inf (a != b)
  | .fin a _, .inf b => .fin (a != b) 0
  | .fin a m, .fin b n =>
    if n = 0 then (if m = 0 then .nan else .inf (a != b)) else .fin (a != b) (m / n)

/-- `x < y`; false when either is a NaN. -/
def Fl.lt : Fl → Fl → Bool
  | .nan, _ => false
  | _, .nan => false
  | .inf a, .inf b => a && !b
  | .inf a, .fin _ _ => a
  | .fin _ _, .inf b => !b
  | .fin a m, .fin b n => decide (Fl.toRat (.fin a m) < Fl.toRat (.fin b n))

def Fl.abs : Fl → Fl
  | .nan => .nan
  | .inf _ => .inf false
  | .fin _ m => .fin false m

/-- The y of R258: x × GAIN + OFFSET with binary64 intermediates. -/
def Fl.scale (x gain offset : Fl) : Fl := Fl.round64 (Fl.add (Fl.round64 (Fl.mul x.round64 gain)) offset)

end Sys2Proof.Machine
end

