-- ==== Sys2Proof/Machine/HostState.lean ====
section
/-! DEFINITION. The plain data of the host side: link, doorbell page, job rings, event queues,
snapshot rings, jobs in flight, the host memory the Slovor has written (08), and the Hitch rail's
mailbox channels (09). Field defaults are the reset values the manual gives. -/
namespace Sys2Proof.Machine

/-- An event that waits for its record (R373): its code, SOURCE, STATUS, DETAIL, TIME and PAYLOAD.
`slot` is the job slot that its record releases (R369). -/
structure Ev where
  code : Nat := 0
  src : Nat := 0
  status : Nat := 0
  detail : Nat := 0
  time : Nat := 0
  payload : List Byte := []
  slot : Option Nat := none
deriving DecidableEq, Repr

/-- A job in flight (R355 to R371). Slots 0 to 511 are the host's; a worker's pushed jobs stand at
512 + push number (R457). -/
structure Job where
  slot : Nat := 0
  /-- descriptor word 0 and words 1 to 15 (R358, R362) -/
  w0 : Word := 0
  words : List Nat := []
  ring : Nat := 0
  /-- fetch order (R357) -/
  order : Nat := 0
  started : Bool := false
  /-- its image or WBUF has been read (R363) -/
  read : Bool := false
  image : List Byte := []
  /-- the image of a load has been taken up in fetch order (R385) -/
  taken : Bool := false
  /-- a field transaction of it is executing (R370) -/
  onWire : Bool := false
  aborted : Bool := false
  /-- ABORT jobs that wait for its completion (R371) -/
  aborters : List Nat := []
  /-- it belongs to an earlier link session (R388) -/
  draining : Bool := false
  /-- its completion has been posted; the slot waits for the record (R369) -/
  posted : Bool := false
  status : Nat := 0
  attempts : Nat := 0
  /-- of its last attempt: bytes written to RBUF, the Breik status nibble, RESULT of a WRITE where answered (R379) -/
  got : Nat := 0
  nibble : Nat := 0
  result : Option Nat := none
  /-- its DMA had begun when requests to host memory stopped (R349) -/
  begun : Bool := false
deriving DecidableEq, Repr

/-- A job ring (R355): its registers, and the producer index last fetched. -/
structure JobRing where
  lo : Word := 0
  hi : Word := 0
  cfg : Word := 0x20C
  ci : BitVec 16 := 0
  err : BitVec 2 := 0
  prod : BitVec 16 := 0
deriving DecidableEq, Repr

/-- An event queue (R372 to R376). -/
structure EvQueue where
  lo : Word := 0
  hi : Word := 0
  cfg : Word := 0x40C
  pi : BitVec 16 := 0
  ci : BitVec 16 := 0
  err : Bool := false
  lost : BitVec 8 := 0
  /-- events whose records nothing keeps back, in order of posting (R385, R624) -/
  line : List Ev := []
  /-- held completions, and the hold of 64 other events, in order of posting (R375) -/
  holdC : List Ev := []
  hold : List Ev := []
  loss : Bool := false
  /-- records written since the last MSI-X message (R374) -/
  unsig : Nat := 0
deriving DecidableEq, Repr

/-- A snapshot ring (R383, R384). -/
structure SnapRing where
  lo : Word := 0
  hi : Word := 0
  cfg : Word := 0x22
  pi : BitVec 16 := 0
  ci : BitVec 16 := 0
  full : BitVec 8 := 0
  small : BitVec 8 := 0
deriving DecidableEq, Repr

/-- One MSI-X table entry (R392), in the form of the PCI Express specification. -/
structure Msix where
  lo : Word := 0
  hi : Word := 0
  data : Word := 0
  ctrl : Word := 1
deriving DecidableEq, Repr

/-- A descriptor read (R353, R356, R357): its ring, how many descriptors, and what came back. -/
structure DescRead where
  ring : Nat := 0
  n : Nat := 0
  /-- the doorbell fetch that started it (R353), and whether the ring's consumer index has passed it -/
  fetch : Nat := 0
  counted : Bool := false
  back : Bool := false
  ok : Bool := true
  descs : List (List Nat) := []
deriving DecidableEq, Repr

/-- The host link (08). -/
structure Link where
  go : Bool := false
  running : Bool := false
  quiesced : Bool := true
  goErr : BitVec 3 := 0
  bmeLost : Bool := false
  linkLost : Bool := false
  dbFail : Bool := false
  /-- GO was set and its start waits for a drain (R346) -/
  startWait : Bool := false
  dbLo : Word := 0
  dbHi : Word := 0
  dbInterval : BitVec 8 := 16
  dbFails : BitVec 8 := 0
  consecFails : Nat := 0
  evtRoute : Word := 0
  rings : Tbl JobRing := []
  queues : Tbl EvQueue := []
  snaps : Tbl SnapRing := []
  msix : Tbl Msix := []
  pba : BitVec 32 := 0
  /-- MSI-X Enable, Function Mask and Max_Read_Request_Size of the configuration space (R340) -/
  msixOn : Bool := true
  msixMask : Bool := false
  maxRead : Nat := 512
  /-- messages sent: vectors, newest last, as the host sees them arrive -/
  sent : List Nat := []
  /-- doorbell fetches under way, and descriptor reads in the order they were begun -/
  fetching : Nat := 0
  reads : List DescRead := []
  /-- doorbell fetches so far, and write-backs due, one for each fetch (R353); the count of write-backs, and the
  upper-half values last written -/
  fetchNo : Nat := 0
  wbDue : Nat := 0
  wbCount : BitVec 32 := 0
  wbLast : Option (List Nat) := none
  jobs : List Job := []
  nextOrder : Nat := 0
  bme : Bool := false
  d3hot : Bool := false
  pmeEn : Bool := false
  pmeStatus : Bool := false
  linkUp : Bool := false
  perst : Bool := false
  wakeN : Bool := true
  /-- host memory as the Slovor has written it (Host.Cell form) -/
  mem : Tbl Byte := []
  /-- writes of jobs that wait while the link may make no request (R345, R349) -/
  held : List (Nat × List Byte) := []
deriving DecidableEq, Repr

/-- One direction of a mailbox channel (R396 to R400). -/
structure Box where
  word : Word := 0
  full : Bool := false
  epoch : BitVec 8 := 0
  orphan : Bool := false
  taken : Bool := false
  postedAt : Nat := 0
deriving DecidableEq, Repr

/-- A mailbox channel (09): the inbound and outbound boxes and the acknowledges. -/
structure Channel where
  inb : Box := {}
  outb : Box := {}
  ackCode : BitVec 16 := 0
  ackEpoch : BitVec 8 := 0
  ackValid : Bool := false
  formal : Bool := true
  modeRefused : Bool := false
  crossed : Bool := false
  aborted : Bool := false
  inReject : Bool := false
  ackReject : Bool := false
  /-- what the serving firmware has seen: the last outbound acknowledge code, an abort notice -/
  fwAck : Option (BitVec 16) := none
  fwAborted : Bool := false
deriving DecidableEq, Repr

/-- The Hitch rail (09). -/
structure Rail where
  ch : Tbl Channel := []
  hostEpoch : BitVec 8 := 0
  hostSEpoch : BitVec 8 := 0
  fgEpoch : BitVec 8 := 0
  fsEpoch : BitVec 8 := 0
  crossTimeout : BitVec 14 := 100
  bell : Word := 0
  bellMask : Word := 0
  /-- HR_CNT: four saturating 8-bit counters -/
  cnt0 : BitVec 8 := 0
  cnt1 : BitVec 8 := 0
  cnt2 : BitVec 8 := 0
  cnt3 : BitVec 8 := 0
deriving DecidableEq, Repr

end Sys2Proof.Machine
end

