-- ==== Sys2Proof/Machine/PlantState.lean ====
section
/-! DEFINITION. The plain data of the plant side: Tally (11), the Sill, the gate and firmware (14), the
Aeloon cascade (10), Cinch (12), Halter mode, ladder, brown-out and the Beam die as a whole (13). -/
namespace Sys2Proof.Machine

inductive Role where
  | standalone | worker | manager
deriving DecidableEq, Repr

/-! ### Tally (11) -/

/-- A string as STRING_SET defines it (R467), defaults taken; currents and capacities as binary32
values are exact rationals. -/
structure StringDef where
  course : Nat := 0
  invert : Bool := false
  /-- voltage point and temperature point of each cell -/
  cells : List (Nat × Option Nat) := []
  current : Nat := 0
  key : Nat := 0
  cNom : Rat := 0
  iRest : Rat := 0
  iMax : Rat := 0
  /-- minutes, days, per cent, µV/s, and tenths of a per cent -/
  tRest : Nat := 30
  droughtDays : Nat := 14
  span : Nat := 30
  ocvBase : Nat := 0
  ocvCount : Nat := 0
  dvdt : Nat := 10
  drift : Nat := 5
  driftD : Nat := 20
  socInit : Option Rat := none
  /-- ship entries: point and data bytes (R467) -/
  ship : List (Nat × List Byte) := []
  ocvUnc : Nat := 20
  restoreUnc : Nat := 50
deriving DecidableEq, Repr

/-- A configured string: its definition and its count (R469 to R481). -/
structure BatString where
  cfg : StringDef := {}
  /-- the two 64-bit integrators, nC: the signed net charge and the throughput (R469) -/
  q : BitVec 64 := 0
  thr : BitVec 64 := 0
  /-- instant at which the string took effect (R470) -/
  since : Nat := 0
  /-- anchor, learned capacity and uncertainty (R471, R472) -/
  socA : Rat := 0
  cLrn : Rat := 0
  unc : Rat := 100
  anchored : Bool := false
  /-- count, angle and current of the previous strike; the current is `none` when ABSENT -/
  prev : Option (Nat × Nat × Option Rat) := none
  gaps : Nat := 0
  gapSince : Bool := false
  /-- the last FRESH current reading, and the last reading of any kind -/
  lastFresh : Option Rat := none
  lastI : Option Rat := none
  /-- start of the rest timer, and whether this rest period had its rest point (R475) -/
  restStart : Option Nat := none
  restDone : Bool := false
  /-- mean cell voltage at each evaluation, newest first (R475) -/
  means : List (Nat × Rat) := []
  /-- cell voltages and temperatures of the last snapshot, `none` when ABSENT -/
  volts : List (Option Rat) := []
  temps : List (Option Rat) := []
  tempFresh : Bool := false
  drought : Bool := false
  /-- instant of the last rest point, in ticks, and its SOC from the OCV table -/
  restAt : Int := 0
  lastOcv : Option Rat := none
  /-- the last rest point may open a learning pair (R478) -/
  pairOk : Bool := false
  learned : Nat := 0
  rejected : Nat := 0
  everLearned : Bool := false
  lastCommit : Nat := 0
  shipped : Bool := false
deriving DecidableEq, Repr

/-- A ledger commit being written (R483). -/
structure LedgerWrite where
  str : Nat := 0
  cause : Nat := 0
  deferred : Bool := false
  slot : Nat := 0
  seq : Nat := 0
  bytes : List Byte := []
deriving DecidableEq, Repr

/-- A TALLY_CMD that waits for its cycle boundary (R488), with its job's slot. -/
inductive TallyCmd where
  | set (slot str : Nat) (d : StringDef)
  | clear (slot str : Nat)
  | ocv (slot first : Nat) (ws : List Nat)
  | soc (slot str : Nat) (soc unc : Rat)
  | learnReset (slot str : Nat)
deriving DecidableEq, Repr

/-- The string a command changes; an OCV_LOAD may change them all. -/
def TallyCmd.str : TallyCmd → Option Nat
  | .set _ i _ => some i
  | .clear _ i => some i
  | .ocv _ _ _ => none
  | .soc _ i _ _ => some i
  | .learnReset _ i => some i

def TallyCmd.slot : TallyCmd → Nat
  | .set k _ _ => k
  | .clear k _ => k
  | .ocv k _ _ => k
  | .soc k _ _ _ => k
  | .learnReset k _ => k

/-- Tally: the strings, the OCV table, the ledger in MRAM and what is under way. -/
structure Tally where
  strings : Tbl (Option BatString) := []
  /-- open-circuit-voltage entries (R477) -/
  ocv : Tbl Word := []
  /-- ledger slots in MRAM, key 2 * string + slot (R482); an unlisted slot holds nothing -/
  ledger : Tbl (List Byte) := []
  writes : List LedgerWrite := []
  /-- commits that wait, in the order they fell due: string, cause, deferred by the brown-out warning (R484, R485) -/
  due : List (Nat × Nat × Bool) := []
  cmds : List TallyCmd := []
  /-- an ARMED ship mode: string, confirm code and instant (R480) -/
  armed : Option (Nat × Nat × Nat) := none
  /-- a SHIP_GO under way: the string and the index of the entry being written (R481) -/
  going : Option (Nat × Nat) := none
  /-- when Foreman G's own timer may evaluate next: 2 s after the last TALLY_TICK, then every second (R474) -/
  timerAt : Nat := 512000000
deriving DecidableEq, Repr

/-! ### Sill and the gate (14) -/

/-- The Sill fuse array: rows with a blown bit (R563), what the blocks last read of it (R564), and the
programming registers and pins (R570 to R573). -/
structure Sill where
  rows : Tbl Word := []
  /-- bits with only one fuse of the pair blown; they read 1 all the same (R562) -/
  half : Tbl Word := []
  /-- half-blown bits found at the last read -/
  mismatch : BitVec 16 := 0
  /-- group P, rows 6 to 11, and group H, rows 16 to 21, as read at the last Cinch reset -/
  p : List Word := [0, 0, 0, 0, 0, 0]
  h : List Word := [0, 0, 0, 0, 0, 0]
  /-- group C, row 40, as read when the Beam die left reset -/
  c : Word := 0
  /-- group M, row 44, as read then -/
  m : Word := 0
  pgmRow : BitVec 7 := 0
  pgmData : Word := 0
  pgmState : BitVec 2 := 0
  pgmResult : BitVec 4 := 0
  pgmBlown : BitVec 6 := 0
  /-- an operation under way: its row and data -/
  busy : Option (Nat × Word) := none
  /-- bits of the running operation blown before the brown-out warning stopped it (R572) -/
  abortAt : Option Nat := none
  pin : Bool := false
  vqps : Bool := false
deriving DecidableEq, Repr

/-- The security gate (R574 to R580). -/
structure Gate where
  /-- SG_STAT.STATE: 0 CLOSED, 1 CHALLENGED, 2 OPEN, 3 HELD -/
  state : Nat := 0
  nonce : List Byte := []
  /-- the session key as read at the CHALLENGE (R564) -/
  key : List Byte := []
  response : Tbl Word := []
  challengedAt : Nat := 0
  /-- last activity of an open session (R577) -/
  activeAt : Nat := 0
  fails : BitVec 16 := 0
  /-- consecutive failures, held on the Cinch die (R576), and the instant of the last one -/
  run : BitVec 4 := 0
  failedAt : Nat := 0
  /-- a recovery under way: words announced, and words received so far (R588) -/
  recovery : Option (Nat × Nat) := none
deriving DecidableEq, Repr

/-- A secure session is open. -/
def Gate.session (g : Gate) : Bool := g.state = 2

/-- Firmware jobs (R584 to R586). -/
structure Firmware where
  version : BitVec 16 := 0
  image : Bool := false
  fallback : Bool := false
  /-- the boot ROM runs (R549, R588) -/
  rom : Bool := false
  /-- FW_STAGE with BEGIN has run since the Beam die reset and since the last commit (R585) -/
  begun : Bool := false
  /-- slot of the FW job that runs, and those that wait (R584) -/
  running : Option Nat := none
  waiting : List Nat := []
  /-- a write of the running job waits for the brown-out warning to clear -/
  paused : Bool := false
deriving DecidableEq, Repr

/-- The fault records as they stood (R236). -/
structure HistMark where
  faults : Tbl Byte := []
  seq : Nat := 0
  slot : Nat := 0
  any : Bool := false
  unreported : Nat := 0
deriving DecidableEq, Repr

/-- MRAM beside the ledger (R386, R556, R581). An unlisted byte of the fault region reads 0. -/
structure Mram where
  bootId : BitVec 32 := 0
  /-- firmware region: slot 1 from offset 0x4_0000; an unlisted byte stands as delivered (R623) -/
  fw : Tbl (Option Byte) := []
  /-- fault-record region (R556) -/
  faults : Tbl Byte := []
  /-- SEQ last given to a fault-history record, and the slot it stands in, with whether there is one -/
  histSeq : Nat := 0
  histSlot : Nat := 0
  histAny : Bool := false
  /-- history records written since the start-up report was last completed (R533) -/
  unreported : Nat := 0
  /-- the fault records as the Beam die found them when it left reset, until unit 3's self-test has passed (R236) -/
  atExit : Option HistMark := none
deriving DecidableEq, Repr

/-! ### The Aeloon cascade (10) -/

/-- A chunk of a slot frame (R438). -/
structure Chunk where
  kind : Nat := 0
  body : List Byte := []
deriving DecidableEq, Repr

/-- A slice as it arrives at the manager: SEQUENCE[15:0], the parts in, each at its byte offset, and
whether it has been taken or counted late (R451, R452). -/
structure SliceIn where
  seq : Nat := 0
  parts : List (Nat × List Byte) := []
  done : Bool := false
  /-- its bytes were discarded when its rack snapshot completed: the length of the slice (R325, R451) -/
  lost : Option Nat := none
deriving DecidableEq, Repr

/-- What the manager keeps of one node (R437 to R462). -/
structure ANode where
  joined : Bool := false
  /-- slots left in which a granted worker must show a valid frame (R445) -/
  granted : Option Nat := none
  gen : BitVec 4 := 0
  nonce : Word := 0
  units : Nat := 0
  d : BitVec 16 := 0
  /-- 2d of the last 16 frames, newest first, in sixteenths of a tick -/
  ds : List Nat := []
  /-- d as last sent in a RANGE chunk -/
  dSent : Option Nat := none
  missRun : Nat := 0
  boot : Word := 0
  ready : Word := 0
  bootSeen : Option Word := none
  denied : Nat := 0
  lastSfc : Word := 0
  /-- the worker's last frame passed its check (ACK of the next beacon) -/
  heard : Bool := false
  /-- configuration pushed to it, for its uplink demand (R454) -/
  courses : Tbl CourseCfg := []
  points : Tbl Point := []
  pole : List PoleEntry := []
  slices : Tbl SliceIn := []
deriving DecidableEq, Repr

/-- A mailbox channel on the link (R417, R463), as one node sees it: the word it received and has not
acknowledged, its own word on the way, and the message numbers. -/
structure LinkBox where
  inWord : Option Word := none
  /-- the sender's epoch, from its chunk -/
  inEpoch : BitVec 8 := 0
  inTaken : Bool := false
  inOrphan : Bool := false
  inAt : Nat := 0
  outWord : Option Word := none
  outOrphan : Bool := false
  outAt : Nat := 0
  /-- message number of the last post -/
  outNum : BitVec 8 := 0
  /-- message numbers of the last post and acknowledge taken (R441) -/
  lastPost : Option Nat := none
  lastAck : Option Nat := none
  ackCode : Option Word := none
  /-- the epoch of the last acknowledge taken (R417) -/
  ackEpoch : BitVec 8 := 0
  /-- the mode, and posts and acknowledges rejected (R397, R399, R401) -/
  formal : Bool := true
  inReject : Bool := false
  ackReject : Bool := false
  crossed : Bool := false
  aborted : Bool := false
deriving DecidableEq, Repr

/-- A push as the manager runs it (R457 to R460). -/
structure Push where
  slot : Nat := 0
  num : BitVec 8 := 0
  inner : Nat := 0
  all : Bool := false
  /-- node addressed, or the workers joined when an ALL push was fetched -/
  nodes : List Nat := []
  /-- words 1 to 15 and the image of the INNER job, once they are at hand -/
  data : List Byte := []
  /-- bytes of it put into downlink frames -/
  sent : Nat := 0
  /-- cycle named in the commit -/
  commit : Option Nat := none
  staged : List Nat := []
  /-- final answers: node, status, payload -/
  done : List (Nat × Nat × List Byte) := []
deriving DecidableEq, Repr

/-- A push as a worker receives it (R457, R458). -/
structure Staged where
  num : Nat := 0
  inner : Nat := 0
  /-- the data in, each part at its byte offset -/
  parts : List (Nat × List Byte) := []
  /-- all of it has come, and the push has been validated or fetched as a job -/
  taken : Bool := false
  /-- it was answered "staged" and awaits its commit -/
  waits : Bool := false
  /-- the change or the REG_SET pairs that await it; the instant of the "staged" answer -/
  change : Option Change := none
  regs : List (Nat × Nat) := []
  at' : Nat := 0
  /-- cycle count [31:0] of the commit -/
  commit : Option Nat := none
deriving DecidableEq, Repr

/-- An uplink copy under way (R450): course, half, sequence, the slice and the bytes already sent. -/
structure Uplink where
  course : Nat := 0
  half : Bool := false
  seq : Nat := 0
  bytes : List Byte := []
  sent : Nat := 0
deriving DecidableEq, Repr

structure Aeloon where
  /-- AL_CTRL and AL_MAP_CFG as written and in force (R465) -/
  ctrlReg : Word := 3
  ctrl : Word := 3
  mapCfgReg : Word := 0x410
  mapCfg : Word := 0x410
  nodeSel : BitVec 5 := 1
  cntSel : BitVec 5 := 0
  /-- AL_STAT.STATE -/
  state : Nat := 0
  slotBad : Bool := false
  dupSlot : Bool := false
  alpOk : Bool := false
  sfc : Word := 0
  /-- R466, key 32 * node + counter -/
  ctr : Tbl (BitVec 32) := []
  /-- node numbers joined, as AL_JOINED shows them -/
  nodes : Tbl ANode := []
  /-- manager: the next beacon is a cycle beacon (R58) -/
  cycleBeacon : Bool := false
  /-- RESID of the last cycle beacon, sent or received (R431) -/
  resid : Nat := 0
  /-- manager: where the rising edges of the 10 MHz lie, in tenths of a tick, and the ticks from the last cycle start to
  its mark (R433) -/
  alpPhase : Nat := 0
  markResid : Nat := 0
  /-- worker: JOIN_GEN in force, delay, beacons counted missed since the last valid one, duplicate
  results in a row, superframes to wait before the next claim -/
  gen : BitVec 4 := 0
  d : BitVec 16 := 0
  lost : Nat := 0
  /-- a valid beacon has been received, and beacons counted missed since the last one (R466) -/
  heardBeacon : Bool := false
  missedRun : Nat := 0
  dups : Nat := 0
  backoff : Nat := 0
  joinOpen : Bool := false
  /-- worker: slots left in which a grant must be completed (R445) -/
  joinSlots : Option Nat := none
  /-- units of this worker's slot in the superframe running; in the manager, of the downlink -/
  units : Nat := 0
  firstFrame : Bool := false
  /-- worker: its own ticks per tick of the manager (R434), and the end of the last mark's low -/
  ratio : Rat := 1
  lastMark : Option Nat := none
  /-- worker: the period of the manager's last beacon -/
  rate : Word := 0
  /-- chunks waiting to be sent, and those of the last frame until it is acknowledged (R440) -/
  queue : List Chunk := []
  /-- manager: answers to claims, for the next superframe's downlink (R444) -/
  nextQueue : List Chunk := []
  kept : List Chunk := []
  resend : Bool := false
  /-- worker: a slot frame has gone out since the last beacon -/
  outstanding : Bool := false
  /-- worker: the downlink frame of this superframe passed its check -/
  gotDown : Bool := false
  /-- manager: workers whose ACK_DOWN for the last downlink frame is still out -/
  ackDue : List Nat := []
  /-- the frame last put on the pair: header, payload and check -/
  frame : List Byte := []
  boxes : Tbl LinkBox := []
  pushes : List Push := []
  pushNum : BitVec 8 := 0
  staged : List Staged := []
  /-- worker: the newest push number seen on the downlink -/
  pushSeen : Option Nat := none
  uplinks : List Uplink := []
deriving DecidableEq, Repr

/-! ### Cinch (12) -/

/-- States of the power entry (R498). -/
inductive Entry where
  | unseated | seating | wait | precharge | ramp | on | limit | faultWait | latched | lockout
deriving DecidableEq, Repr

/-- The power entry and its protection (12). Voltages are in µV. -/
structure Cinch where
  /-- the Cinch die is out of reset -/
  up : Bool := true
  st : Entry := .unseated
  /-- the state LIMIT was entered from -/
  back : Entry := .on
  pg : Bool := false
  flt : Bool := false
  /-- PCH_G is driven -/
  pch : Bool := false
  limiting : Bool := false
  loadOn : Bool := true
  seatDb : BitVec 8 := 50
  soft : BitVec 8 := 0
  seatLow : Bool := false
  /-- VIN has exceeded OV and not yet fallen to OV - 1.0 V (R497, R501) -/
  ovHit : Bool := false
  vin : Nat := 0
  vout : Nat := 0
  vds : Nat := 0
  sense : Int := 0
  /-- sense of the last 100 µs, newest first -/
  senses : List (Nat × Int) := []
  dt1 : Rat := 0
  dt2 : Rat := 0
  /-- V(TMEM) in volts -/
  tmem : Rat := 0
  tfetBad : Bool := false
  modelLow : Bool := false
  pgLate : Bool := false
  tmemStart : Bool := false
  /-- the restart condition of R513 is asked before the next pre-charge, counted from this instant -/
  holdFrom : Option Nat := none
  /-- start of the latest pre-charge and its energy so far (J); energy and length (ticks) of the last that ended (R504) -/
  pchStart : Option Nat := none
  pchRun : Rat := 0
  pchEnergy : Rat := 0
  pchTicks : Nat := 0
  fault : BitVec 4 := 0
  faultState : BitVec 4 := 0
  faultPeak : BitVec 12 := 0
  consec : Nat := 0
  overload : BitVec 8 := 0
  fastTrip : BitVec 8 := 0
  tfetHot : BitVec 8 := 0
  pchCnt : BitVec 8 := 0
  halterTrip : BitVec 8 := 0
  limitEntries : BitVec 8 := 0
  modelLowCnt : BitVec 8 := 0
  gateFs : BitVec 8 := 0
  /-- a fault while the Beam die was down is still to be recorded (R557) -/
  unrecorded : Bool := false
  /-- last CINCH_STATE records about an entry to and an exit from LIMIT, and changes suppressed since (R520) -/
  limitIn : Option Nat := none
  limitOut : Option Nat := none
  suppressed : BitVec 8 := 0
  /-- the last stop without a fault: its instant and the state left, for a trip of the same 1 µs step (R520) -/
  quit : Option (Nat × Entry) := none
  /-- when the present state was entered (R500, R506) -/
  stAt : Nat := 0
  /-- since when the entry has been in ON or LIMIT without a break (R512) -/
  onAt : Option Nat := none
  /-- ticks counted in RAMP before LIMIT interrupted it (R507) -/
  rampTicks : Nat := 0
  /-- since when GATE and PCH_G have both been off (R508) -/
  offAt : Nat := 0
deriving DecidableEq, Repr

/-! ### Halter mode, ladder and brown-out (13) -/

/-- The Cinch die's side of Halter mode and the ladder (R536 to R548). -/
structure Halter where
  cause : Nat := 1
  tripped : Bool := false
  /-- a SECURE cause has arisen since entry; the secure release has been asked (R543, R555) -/
  secure : Bool := false
  release : Bool := false
  entries : BitVec 10 := 0
  rounds : BitVec 16 := 0
  badRounds : BitVec 16 := 0
  viol : BitVec 16 := 0
  miss : BitVec 16 := 0
  /-- consecutive violations and misses per position -/
  violRun : Tbl Nat := []
  missRun : Tbl Nat := []
  seq : BitVec 4 := 0
  n : Nat := 0
  rt : Nat := 0
  /-- a miss in the last round: the next one resets and assigns (R540); this round counts as bad -/
  reset : Bool := true
  roundBad : Bool := false
  /-- a round runs (R540, R555) -/
  inRound : Bool := false
  /-- the poll under way is the REPEAT of its position; last calibration per position -/
  repeated : Option Nat := none
  cals : Tbl Nat := []
  /-- a HALTER_TRIP in this Halter period -/
  periodTrip : Bool := false
  enteredAt : Nat := 0
  /-- heartbeat: a pulse in the running window, windows in a row with and without one -/
  pulse : Bool := false
  beats : Nat := 0
  empty : Nat := 0
  /-- automatic attempts in a row (R548), and whether the last reset was the watchdog's -/
  run : Nat := 0
  auto : Bool := false
  lastCycle : Option Nat := none
  /-- HALTER_EXIT was asked for while the brown-out warning was active (R555) -/
  exitWait : Bool := false
  /-- a rung asked for while the brown-out warning was active: power cycle or warm reset, and its cause (R555) -/
  waitingRung : Option (Bool × Nat) := none
  warmHost : BitVec 6 := 0
  warmSecure : BitVec 6 := 0
  warmWatchdog : BitVec 6 := 0
  cycles : BitVec 6 := 0
  keyBad : BitVec 8 := 0
  /-- a rung that has been climbed and whose reset is still to begin (R561, R580, R586) -/
  rung : Option (Bool × Nat) := none
deriving DecidableEq, Repr

/-- Brown-out (R550 to R554). -/
structure Power where
  warn : Bool := false
  holdOk : Bool := false
  /-- when the warning asserted (R551) -/
  warnAt : Nat := 0
  copying : Bool := false
  copyDone : Bool := false
  warnings : BitVec 8 := 0
  vinCode : Nat := 0
  /-- header and entries of the copy under way, as they stood at the freeze (R337, R558) -/
  copyHead : List Byte := []
  copyBody : List Byte := []
  /-- rails of the Beam die: off in a rung-4 power cycle and after a brown-out -/
  railsOff : Bool := false
deriving DecidableEq, Repr

/-- The Beam die as a whole (R2 to R4, R386, R529 to R535, R560). -/
structure CoreDie where
  /-- the Beam die is out of reset -/
  up : Bool := false
  role : Role := .standalone
  node : BitVec 5 := 0
  roleSel : BitVec 2 := 0
  slotSel : BitVec 5 := 0
  strapFault : Bool := false
  bootId : BitVec 32 := 0
  ready : BitVec 10 := 0x100
  readyAwl : Quad := 0
  readyBkl : Quad := 0
  selftest : BitVec 6 := 0
  resetCause : BitVec 4 := 1
  pushResults : List (Nat × Nat × Nat × List Byte) := []
  frecSel : BitVec 14 := 0
  restored : Bool := false
  /-- Foreman G answered its last check -/
  gAnswers : Bool := true
  gStart : Option Nat := none
  /-- the start-up report: index of the word being posted, and words sent (R533) -/
  report : Option Nat := none
  /-- the word in HR_OUT 0 is that word of the report (R533, R534) -/
  reportOut : Bool := false
  cinchResetAt : Nat := 0
  /-- when the Beam die last left reset (R548) -/
  outAt : Nat := 0
deriving DecidableEq, Repr

end Sys2Proof.Machine
end

