-- ==== Sys2Proof/Machine/State.lean ====
section
/-! DEFINITION. The whole state of one Slovor and its state after reset. The parts are structures of plain data in
FieldState, HostState and PlantState; the default of each field is its reset value. -/
namespace Sys2Proof.Machine

/-- One Slovor SM-8192: both dies, its MRAM, and the host memory it has written. -/
structure State where
  /-- instant of the last command, in ticks of the 256 MHz sampling clock (R21) -/
  now : Nat := 0
  /-- the model's own: commands that wait, first in, first out (log 1) -/
  pending : List Instr := []
  /-- the model's own: uses of a free value so far (`Config.freeNat` is applied to it; log 3) -/
  free : Nat := 0
  /-- the model's own: data of the last register read the host made (log 4) -/
  lastRead : Word := 0
  /-- phase wheel (01) -/
  wheel : Wheel := {}
  /-- story pole (01) -/
  pole : Pole := {}
  /-- point, identity, coefficient and slack tables (06) -/
  tab : Tables := {}
  /-- Scriber (06) -/
  scr : Scriber := {}
  /-- Breik, SENT and two-wire ports (02 to 04) -/
  ports : Ports := {}
  /-- courses, snapshot banks, racks and the trace ring (07) -/
  tack : Tack := {}
  /-- Stitch units (05) -/
  stitch : Stitch := {}
  /-- host link, rings, queues, jobs (08) -/
  link : Link := {}
  /-- Hitch rail (09) -/
  rail : Rail := {}
  /-- role, straps, readiness of the Beam die (00, 13) -/
  core : CoreDie := {}
  /-- Tally (11) -/
  tally : Tally := {}
  /-- Sill fuses (14) -/
  sill : Sill := {}
  /-- security gate (14) -/
  gate : Gate := {}
  /-- Aeloon cascade (10) -/
  aeloon : Aeloon := {}
  /-- firmware staging and commit (14) -/
  fw : Firmware := {}
  /-- MRAM beside the ledger (13, 14) -/
  mram : Mram := {}
  /-- Cinch power entry (12) -/
  cinch : Cinch := {}
  /-- Halter mode, heartbeat and ladder (13) -/
  halter : Halter := {}
  /-- brown-out (13) -/
  power : Power := {}
deriving DecidableEq, Repr

/-- Why the machine stops. -/
inductive Fault where
  /-- Raised by the power-entry commands that measure VIN (`onEntry`) when it exceeds 110 V: R596 specifies no
  behaviour there. Safe: the model stops where the part may go on or be destroyed. -/
  | beyondRatings
deriving DecidableEq, Repr

/-- Why a command is turned away by the model. -/
inductive Refusal where
  /-- A row of the opcode table without a meaning, by its mnemonic; no arm of the dispatch raises it. Safe. -/
  | notModelled (mnemonic : String)
deriving DecidableEq, Repr

/-- What a meaning answers. -/
abbrev Result := Host.Outcome State Fault Refusal

/-- The Slovor right after the Cinch die has left reset with the Beam die still in reset: Halter mode is in force
(R524), every field at the default of its declaration. [DESIGN CHOICE, log 5] -/
def State.reset : State := {}

end Sys2Proof.Machine
end

