-- ==== Sys2Proof/Machine/Ops.lean ====
section
/-! DEFINITION. The operations every chapter shares: the passing of time, the running angle and the
time stamp (R20, R21), updates of one part of the state, counters, events and completions (R373 to
R379), readiness (R381) and compile requests (R281). -/
namespace Sys2Proof.Machine

/-- The command arrives at instant `t`; time never runs backward. -/
def State.advance (s : State) (t : Nat) : State := { s with now := max s.now t }

/-- Ticks of the 256 MHz clock in one microsecond. -/
def us : Nat := 256
/-- Ticks of a millisecond. -/
def ms : Nat := 256000

/-! ### One part of the state at a time -/

def State.onWheel (s : State) (f : Wheel → Wheel) : State := { s with wheel := f s.wheel }
def State.onPole (s : State) (f : Pole → Pole) : State := { s with pole := f s.pole }
def State.onTab (s : State) (f : Tables → Tables) : State := { s with tab := f s.tab }
def State.onScr (s : State) (f : Scriber → Scriber) : State := { s with scr := f s.scr }
def State.onPorts (s : State) (f : Ports → Ports) : State := { s with ports := f s.ports }
def State.onTack (s : State) (f : Tack → Tack) : State := { s with tack := f s.tack }
def State.onTrace (s : State) (f : Trace → Trace) : State :=
  s.onTack fun k => { k with trace := f k.trace }
def State.onStitch (s : State) (f : Stitch → Stitch) : State := { s with stitch := f s.stitch }
def State.onLink (s : State) (f : Link → Link) : State := { s with link := f s.link }
def State.onRail (s : State) (f : Rail → Rail) : State := { s with rail := f s.rail }
def State.onCore (s : State) (f : CoreDie → CoreDie) : State := { s with core := f s.core }

/-- Awl port `n`, 0 to 63 (R129). -/
def State.awl (s : State) (n : Nat) : AwlPort := tget {} s.ports.awl n
def State.onAwl (s : State) (n : Nat) (f : AwlPort → AwlPort) : State :=
  if n < 64 then s.onPorts fun p => { p with awl := tmod {} p.awl n f } else s

/-- Two-wire port `m`, 0 to 63 (R172). -/
def State.tw (s : State) (m : Nat) : TwPort := tget {} s.ports.tw m
def State.onTw (s : State) (m : Nat) (f : TwPort → TwPort) : State :=
  if m < 64 then s.onPorts fun p => { p with tw := tmod {} p.tw m f } else s

/-- The job queue of port 0 to 127 (R288). -/
def State.portQ (s : State) (p : Nat) : PortQueue := tget {} s.ports.q p
def State.onPortQ (s : State) (p : Nat) (f : PortQueue → PortQueue) : State :=
  if p < 128 then s.onPorts fun x => { x with q := tmod {} x.q p f } else s

def State.course (s : State) (c : Nat) : Course := tget {} s.tack.courses c
def State.onCourse (s : State) (c : Nat) (f : Course → Course) : State :=
  if c < 16 then s.onTack fun k => { k with courses := tmod {} k.courses c f } else s

def State.point (s : State) (i : Nat) : Point := tget {} s.tab.points i
def State.mark (s : State) (i : Nat) : PointMark := tget {} s.tab.marks i
def State.onMark (s : State) (i : Nat) (f : PointMark → PointMark) : State :=
  s.onTab fun t => { t with marks := tmod {} t.marks i f }

def State.alertOf (s : State) (a : Nat) : AlertSvc := tget {} s.ports.alert a
def State.onAlert (s : State) (a : Nat) (f : AlertSvc → AlertSvc) : State :=
  if a < 8 then s.onPorts fun p => { p with alert := tmod {} p.alert a f } else s

/-! ### Flags of the whole part -/

/-- Halter mode is in force (READY_CORE bit 8). -/
def State.halterOn (s : State) : Bool := bitAt s.core.ready.toNat 8
/-- The brown-out warning is active (READY_CORE bit 9, R550). -/
def State.warning (s : State) : Bool := bitAt s.core.ready.toNat 9
def State.isWorker (s : State) : Bool := decide (s.core.role = .worker)
def State.isManager (s : State) : Bool := decide (s.core.role = .manager)

/-! ### Angle and time (R18 to R22) -/

/-- The exact angle at instant `t`, from the anchor (R21, R31). [DEDUCED, log 12] -/
def Wheel.angleRat (w : Wheel) (t : Nat) : Rat :=
  let dt : Rat := ((t - w.anchorT : Nat) : Rat)
  match w.motion with
  | .run => w.anchorA + dt * 65536 / ((max w.period.toNat 1 : Nat) : Rat)
  | .slew e p => w.anchorA + dt * (65536 + e) / (if p < 1 then 1 else p)
  | .hold => w.anchorA

/-- The angle held at `t`, 0 to 65,535: at 65,535 it waits for the boundary (R18).
[DEDUCED, log 12; DESIGN CHOICE, log 13] -/
def Wheel.angleAt (w : Wheel) (t : Nat) : Nat := min 65535 (w.angleRat t).floor.toNat

/-- The 8-byte time stamp of R20 as a number: count in [63:16], angle in [15:0]. -/
def stampOf (count angle : Nat) : Nat := count * 65536 + angle % 65536

/-- The stamp of an instant at or after the last boundary's anchor, by the wheel as it runs now. -/
def State.stamp (s : State) : Nat := stampOf s.wheel.count.toNat (s.wheel.angleAt s.now)

/-- The exact angle at an instant near the anchor, before or after it. -/
def Wheel.angleNear (w : Wheel) (t : Nat) : Rat :=
  if w.anchorT ≤ t then w.angleRat t
  else w.anchorA - ((w.anchorT - t : Nat) : Rat) * 65536 / ((max w.period.toNat 1 : Nat) : Rat)

/-- The count of a cycle, numbered as `Wheel.cycle` numbers them: this one, those before and those to come
(R19, R42). -/
def Wheel.countOf (w : Wheel) (c : Nat) : Nat :=
  if c = w.cycle then w.count.toNat
  else if w.cycle < c then ((w.mgrCount.getD w.count).toNat + (c - w.cycle)) % 2 ^ 48
  else (w.prevCount.toNat + 2 ^ 48 - (w.cycle - 1 - c) % 2 ^ 48) % 2 ^ 48

/-- The stamp of an instant up to now, whole cycles before it counted (R21). -/
def State.stampAt (s : State) (t : Nat) : Nat :=
  let a := (s.wheel.angleNear t).floor
  if 0 ≤ a then stampOf s.wheel.count.toNat (min 65535 a.toNat)
  else
    let back := ((65535 - a) / 65536).toNat
    stampOf (s.wheel.countOf (s.wheel.cycle - back)) (a + 65536 * back).toNat

/-- The first clock edge at or after the instant the wheel, as it runs now, comes to an angle counted from the
start of this cycle (R47); a hold counts as ending now. -/
def Wheel.instantOf (w : Wheel) (now : Nat) (x : Rat) : Nat :=
  let d := x - w.anchorA
  match w.motion with
  | .run => w.anchorT + (d * w.period.toNat / 65536).ceil.toNat
  | .slew e p => w.anchorT + (d * p / (65536 + e)).ceil.toNat
  | .hold => now + (d * w.period.toNat / 65536).ceil.toNat

def WheelState.code : WheelState → Nat
  | .locked => 0
  | .holdover => 1
  | .free => 2

/-- The worse of two wheel states (R41). -/
def WheelState.worse (a b : WheelState) : WheelState := if a.code < b.code then b else a

/-- The state the Slovor reports (R36, R41). -/
def State.wheelReported (s : State) : WheelState :=
  if s.isWorker then s.wheel.state.worse s.wheel.mgrState else s.wheel.state

/-! ### Counters (R126, R220, R293) -/

def bumpTbl (m : Tbl (BitVec 32)) (k : Nat) : Tbl (BitVec 32) := tmod 0 m k satInc

/-- Count Awl counter `i` of port `n`, and flag the port unless `i` is 0 or 14 (R126). -/
def State.awlCount (s : State) (n i : Nat) : State :=
  s.onPorts fun p => { p with
    awlCtr := bumpTbl p.awlCtr (32 * n + i)
    awlErr := if i = 0 ∨ i = 14 then p.awlErr else p.awlErr ||| (BitVec.ofNat 64 (2 ^ n)) }

/-- Count Buckle counter `i` of port `m`, and flag the port unless `i` is 0, 14, 16 or 17 (R220). -/
def State.bklCount (s : State) (m i : Nat) : State :=
  s.onPorts fun p => { p with
    bklCtr := bumpTbl p.bklCtr (32 * m + i)
    bklErr := if i = 0 ∨ i = 14 ∨ i = 16 ∨ i = 17 then p.bklErr else p.bklErr ||| (BitVec.ofNat 64 (2 ^ m)) }

/-- Count Scriber counter `i` of port `p`; 128 holds the local sources (R293). -/
def State.scrCount (s : State) (p i : Nat) : State :=
  s.onScr fun c => { c with ctr := bumpTbl c.ctr (32 * p + i) }

/-! ### Events (R372 to R378) -/

def State.queue (s : State) (q : Nat) : EvQueue := tget {} s.link.queues q
def State.onQueue (s : State) (q : Nat) (f : EvQueue → EvQueue) : State :=
  if q < 8 then s.onLink fun l => { l with queues := tmod {} l.queues q f } else s

def EvQueue.enabled (q : EvQueue) : Bool := bitAt q.cfg.toNat 0
def EvQueue.size (q : EvQueue) : Nat := 2 ^ bitsAt q.cfg.toNat 1 4

/-- Items between two free-running counts (R351). -/
def countDiff (a b : BitVec 16) : Nat := (a - b).toNat

/-- A queue may take a record now: enabled, not stopped, a free slot (R372, R376). -/
def EvQueue.open' (q : EvQueue) : Bool := q.enabled && !q.err && decide (countDiff q.pi q.ci < q.size)

/-- The link may read and write host memory (R341, R345, R350). -/
def State.linkActive (s : State) : Bool := s.link.running && s.link.bme && !s.link.d3hot

/-- An event becomes pending on an enabled queue: PM_PME from D3hot, or WAKE_N while the link is down
under PERST_N (R341). -/
def State.signalPme (s : State) : State :=
  if !s.link.pmeEn then s
  else if s.link.perst && !s.link.linkUp then s.onLink fun l => { l with wakeN := false }
  else if s.link.d3hot then s.onLink fun l => { l with pmeStatus := true }
  else s

/-- JOB_DONE and JOB_FAILED (R377). -/
def Ev.completion (e : Ev) : Bool := decide (e.code = 1 ∨ e.code = 2)

/-- The conditions of R624 hold for an event posted now, `active` being the link's own: the queue is
open, holds nothing under R375, and has a free slot beyond those the events before it take. -/
def EvQueue.clear' (q : EvQueue) (active : Bool) : Bool :=
  active && q.open' && q.holdC.isEmpty && q.hold.isEmpty && decide (countDiff q.pi q.ci + q.line.length < q.size)

/-- Put an event into its queue. Where nothing keeps its record back it keeps the order of posting
(R385); else it is held: completions are never dropped, others beyond 64 are (R375). -/
def EvQueue.push (q : EvQueue) (active : Bool) (e : Ev) : EvQueue :=
  if q.clear' active then { q with line := q.line ++ [e] }
  else if e.completion then { q with holdC := q.holdC ++ [e] }
  else if q.hold.length < 64 then { q with hold := q.hold ++ [e] }
  else { q with lost := satInc q.lost, loss := true }

/-- The events that wait for their record, in the order in which they are written (R375, R385). -/
def EvQueue.waiting (q : EvQueue) : List Ev := q.line ++ q.holdC ++ q.hold

/-- The queue without the first event that waits. -/
def EvQueue.dropFirst (q : EvQueue) : EvQueue :=
  if !q.line.isEmpty then { q with line := q.line.drop 1 }
  else if !q.holdC.isEmpty then { q with holdC := q.holdC.drop 1 }
  else { q with hold := q.hold.drop 1 }

/-- Writing stops before the records of `line` are out: their events are held under R375. -/
def EvQueue.park (q : EvQueue) : EvQueue :=
  let rest := q.line.filter (fun e => !e.completion) ++ q.hold
  { q with line := [], holdC := q.line.filter (fun e => e.completion) ++ q.holdC, hold := rest.take 64
           lost := satAdd q.lost (rest.length - 64), loss := q.loss || decide (64 < rest.length) }

/-- Host memory takes no more records: GO is cleared, or D3hot is entered (R341, R349). -/
def State.parkEvents (s : State) : State := s.onLink fun l => { l with queues := tmap {} EvQueue.park l.queues }

/-- The 16 bytes of a payload. -/
def payload16 (bs : List Byte) : List Byte := padTo 16 bs

/-- Post an event routed by HL_EVT_ROUTE: only when its group's bit is 1 and the queue is enabled
(R377, R378). -/
def State.post (s : State) (code src : Nat) (payload : List Byte) (status : Nat := 0) : State :=
  let g := code / 16
  let r := s.link.evtRoute.toNat
  let q := bitsAt r (4 * g - 4) 3
  if bitAt r (4 * g - 1) && (s.queue q).enabled then
    (s.onQueue q fun x => x.push s.linkActive { code := code, src := src, status := status, time := s.stamp, payload := payload16 payload }).signalPme
  else s

def State.snapRing (s : State) (c : Nat) : SnapRing := tget {} s.link.snaps c
def State.onSnapRing (s : State) (c : Nat) (f : SnapRing → SnapRing) : State :=
  if c < 16 then s.onLink fun l => { l with snaps := tmod {} l.snaps c f } else s

/-- Post an event routed by the course's HL_SR_CFG.EVQ (R377, R378). -/
def State.postCourse (s : State) (c code : Nat) (payload : List Byte) : State :=
  let q := bitsAt (s.snapRing c).cfg.toNat 18 3
  if (s.queue q).enabled then
    (s.onQueue q fun x => x.push s.linkActive { code := code, src := c, time := s.stamp, payload := payload16 payload }).signalPme
  else s

/-- The lowest-numbered enabled queue (R359). -/
def State.firstQueue (s : State) : Nat :=
  ((List.range 8).find? fun q => (s.queue q).enabled).getD 0

/-! ### Jobs and completions (R358, R369, R371, R379) -/

def State.job? (s : State) (slot : Nat) : Option Job := s.link.jobs.find? fun j => decide (j.slot = slot)
def State.onJob (s : State) (slot : Nat) (f : Job → Job) : State :=
  s.onLink fun l => { l with jobs := l.jobs.map fun j => if j.slot = slot then f j else j }
def State.dropJob (s : State) (slot : Nat) : State :=
  s.onLink fun l => { l with jobs := l.jobs.filter fun j => !decide (j.slot = slot) }

def Job.opcode (j : Job) : Nat := bitsAt j.w0.toNat 0 8
def Job.tag (j : Job) : Nat := bitsAt j.w0.toNat 16 16
def Job.fence (j : Job) : Bool := bitAt j.w0.toNat 11
/-- Word `i` of the descriptor, 1 to 15. -/
def Job.word (j : Job) (i : Nat) : Nat := j.words.getD (i - 1) 0

/-- Queue a completion for the job's own event queue, or the lowest enabled one (R359, R379). -/
def State.postCompletion (s : State) (w0 : Word) (slot : Option Nat) (status detail : Nat) (payload : List Byte) : State :=
  let q0 := bitsAt w0.toNat 8 3
  let q := if (s.queue q0).enabled then q0 else s.firstQueue
  (s.onQueue q fun x => x.push s.linkActive
    { code := if status = 0 then 1 else 2, src := bitsAt w0.toNat 16 16, status := status, detail := detail,
      time := s.stamp, payload := payload16 payload, slot := slot }).signalPme

/-- A STITCH_RUN that completes counts in SU_CNT_JOB.RUNS, however it ends (R246). -/
def State.countRun (s : State) (opcode : Nat) : State :=
  if opcode = 0x1A then s.onStitch fun u => { u with runs := satInc u.runs } else s

/-- Post one job's completion. A job of an earlier session posts none and frees its slot (R388); a pushed job leaves
its result for the PUSH_ACK (R459). -/
def State.finishOne (s : State) (slot status detail : Nat) (payload : List Byte) : State :=
  match s.job? slot with
  | none => s
  | some j =>
    if j.posted then s
    else
      let s := s.countRun j.opcode
      if j.draining then s.dropJob slot
      else if 512 ≤ slot then
        (s.dropJob slot).onCore fun c => { c with pushResults := c.pushResults ++ [(slot - 512, status, detail, payload)] }
      else (s.onJob slot fun j => { j with posted := true, status := status }).postCompletion j.w0 (some slot) status detail payload

/-- Complete a job, and after it the ABORTs that named it (R370, R371): JOB_DONE when the victim was
aborted, TOO_LATE, which names the victim alone, when it completed with its normal result (R379). -/
def State.complete (s : State) (slot status : Nat) (payload : List Byte := []) (detail : Nat := 0) : State :=
  match s.job? slot with
  | none => s
  | some j =>
    let s1 := s.finishOne slot status detail payload
    j.aborters.foldl (fun s a =>
      s.finishOne a (if status = 8 then 0 else 0xA) 0 (leBytes 2 j.tag ++ if status = 8 then leBytes 2 status else [])) s1

/-! ### Readiness (R381) -/

/-- Post READY_CHANGE for register `reg`, with its new value and the bits that changed. -/
def State.postReady (s : State) (reg new old : Nat) : State :=
  if new = old then s else s.post 0x050 reg (leBytes 4 new ++ leBytes 4 (new ^^^ old))

/-- Set or clear one READY_CORE bit. -/
def State.setReady (s : State) (bit : Nat) (v : Bool) : State :=
  let old := s.core.ready.toNat
  let new := setBit old bit v
  (s.onCore fun c => { c with ready := BitVec.ofNat 10 new }).postReady 0 new old

/-! ### Compiles (R62, R281) -/

def Change.isPole : Change → Bool
  | .pole _ _ => true
  | _ => false

/-- The change of a load, which takes effect in fetch order (R385). -/
def Change.isLoad : Change → Bool
  | .points _ _ _ _ => true
  | .coefs _ _ => true
  | .pole _ _ => true
  | .courses _ _ => true
  | _ => false

/-- The changes a starting compile takes in: at most one POLE_LOAD; a second one waits, and with it every load after it
(R62, R385). -/
def takeChanges (cs : List Change) (hadPole : Bool) (waits : Bool := false) : List Change × List Change :=
  match cs with
  | [] => ([], [])
  | c :: cs =>
    let out := c.isLoad && (waits || (c.isPole && hadPole))
    let (take, wait) := takeChanges cs (hadPole || c.isPole) (waits || out)
    if out then (take, c :: wait) else (c :: take, wait)

/-- What a compile that starts now reads (R281). -/
def State.compileBasis (s : State) : CompileBasis :=
  { pgrp := s.scr.pgrpReg, cfg := s.scr.cfgReg, ctrl := s.wheel.ctrl, awl := s.ports.awl, tw := s.ports.tw }

/-- Start a compile with the gathered changes, if none runs and there are some (R281). -/
def State.startCompile (s : State) : State :=
  if s.scr.compiling then s
  else
    let (take, wait) := takeChanges s.scr.gathered false
    if take.isEmpty then s
    else s.onScr fun c => { c with
      compiling := true, compileStart := s.now, running := take, gathered := wait, basis := some s.compileBasis }

/-- A change that needs a compile: it starts one, or joins the next (R281). -/
def State.requestCompile (s : State) (c : Change) : State :=
  (s.onScr fun x => { x with gathered := x.gathered ++ [c] }).startCompile

/-! ### Host memory the Slovor writes -/

/-- [DESIGN CHOICE, log 10] -/
def putBytes (m : Tbl Byte) (addr : Nat) (bs : List Byte) : Tbl Byte :=
  bs.zipIdx.foldl (fun m x => tinsert m (addr + x.2) x.1) m

/-- Write bytes at a host bus address, or hold them while the link may make no request (R345).
[DESIGN CHOICE, log 11] -/
def State.writeHost (s : State) (addr : Nat) (bs : List Byte) : State :=
  s.onLink fun l => if s.linkActive then { l with mem := putBytes l.mem addr bs } else { l with held := l.held ++ [(addr, bs)] }

/-- A DMA already begun may complete: until the link is quiesced (R349), unless Bus Master Enable or
D3hot stops it at once (R341, R350). -/
def State.dmaOpen (s : State) : Bool := s.link.bme && !s.link.d3hot && (s.link.running || (!s.link.quiesced && !s.link.startWait))

/-- Write bytes of a DMA already begun. -/
def State.writeBegun (s : State) (addr : Nat) (bs : List Byte) : State :=
  if s.dmaOpen then s.onLink fun l => { l with mem := putBytes l.mem addr bs } else s.writeHost addr bs

def State.msixEntry (s : State) (v : Nat) : Msix := tget {} s.link.msix v

/-- A vector may go out: MSI-X is enabled, neither the function nor the vector is masked, and the link takes requests
(R341, R345, R374). [PRESUMED, log 35; DESIGN CHOICE, log 157] -/
def State.msixOpen (s : State) (v : Nat) : Bool :=
  s.linkActive && s.link.msixOn && !s.link.msixMask && !bitAt (s.msixEntry v).ctrl.toNat 0

/-- Send a vector, or leave it pending while it may not go out (R374). -/
def State.sendMsix (s : State) (v : Nat) : State :=
  if !s.link.msixOn then s
  else if s.msixOpen v then s.onLink fun l => { l with sent := l.sent ++ [v] }
  else s.onLink fun l => { l with pba := l.pba ||| BitVec.ofNat 32 (2 ^ v) }

/-- A pending vector goes out once it may. -/
def State.sendPending (s : State) (v : Nat) : State :=
  if bitAt s.link.pba.toNat v && s.msixOpen v then
    s.onLink fun l => { l with pba := BitVec.ofNat 32 (setBit l.pba.toNat v false), sent := l.sent ++ [v] }
  else s

/-- The writes and the vectors that waited go out. [DESIGN CHOICE, log 11] -/
def State.flushHeld (s : State) : State :=
  if s.linkActive then
    (List.range 32).foldl State.sendPending (s.onLink fun l => { l with mem := l.held.foldl (fun m x => putBytes m x.1 x.2) l.mem, held := [] })
  else s

/-- A read of host memory for a job may return: requests go out, or this one had begun when they stopped (R341, R345,
R349, R350). -/
def State.readOpen (s : State) (j : Job) : Bool := s.linkActive || (j.begun && !s.link.quiesced)

/-- Requests to host memory stop: the DMA of every job that has started has begun (R349, R625). -/
def Link.markBegun (l : Link) : Link := { l with jobs := l.jobs.map fun j => if j.started then { j with begun := true } else j }

/-- One use of a free value: the constant at the counter, and the counter advanced. [DESIGN CHOICE, log 3] -/
def State.takeFree (s : State) : Nat × State := (Config.freeNat s.free, { s with free := s.free + 1 })

end Sys2Proof.Machine
end

