-- ==== Sys2Proof/Machine/Feed.lean ====
section
/-! DEFINITION. From the wire to the record: field extraction (R248), the format codes (R257, R258),
clamping (R259), capture offsets and the kerf (R300, R301), and how a reading enters a snapshot
under construction (R307, R312 to R315). -/
namespace Sys2Proof.Machine

/-- Work for the strike of a cycle runs under the points, coefficients and marks in force at that strike (R9).
[DESIGN CHOICE, log 25] -/
def State.underStrike (s : State) (cycle : Nat) (f : State → State) : State :=
  match s.tab.old.find? fun v => decide (cycle < v.before) with
  | some v =>
    let s' := f { s with tab := { s.tab with points := v.points, coefs := v.coefs, marks := v.marks } }
    { s' with tab := { s'.tab with points := s.tab.points, coefs := s.tab.coefs, marks := s.tab.marks } }
  | none => f s

/-- The coefficient set of a point; set 0 is fixed (R256). -/
def State.coef (s : State) (i : Nat) : Coef := if i = 0 then {} else tget {} s.tab.coefs i

/-- Awl configuration fields in force (PT_AWL_CFG, PT_AWL_SENT). -/
def AwlPort.mode (p : AwlPort) : Nat := bitsAt p.cfg.toNat 0 2
def AwlPort.tick (p : AwlPort) : Nat := bitsAt p.cfg.toNat 2 3
def AwlPort.spuStrikeUs (p : AwlPort) : Nat := (bitsAt p.cfg.toNat 5 6 + 1) * 8
def AwlPort.spuNvMs (p : AwlPort) : Nat := bitsAt p.cfg.toNat 11 4
def AwlPort.sentNibbles (p : AwlPort) : Nat := bitsAt p.sent.toNat 0 3
def AwlPort.sentIdCount (p : AwlPort) : Nat := bitsAt p.sent.toNat 7 3
/-- The SENT tick in 256 MHz ticks (PT_AWL_SENT.TICK_US). -/
def AwlPort.sentTick (p : AwlPort) : Nat := bitsAt p.sent.toNat 21 7 * us
/-- The port runs its standard frames as extended ones: 125 ns and not stepped down (R79, R89). -/
def AwlPort.fast (p : AwlPort) : Bool := decide (p.tick = 0) && !p.tickDown
/-- The tick T in 256 MHz ticks: 125 ns is 32 (R78, R79). -/
def AwlPort.tickT (p : AwlPort) : Nat :=
  match p.tick with
  | 0 => if p.tickDown then 64 else 32
  | 1 => 64
  | 2 => 128
  | 3 => 256
  | _ => 512

/-- The port a point's counts are kept on; local sources on 128 (R293). -/
def Point.countPort (pt : Point) : Nat := min pt.src 128

/-! ### Fields and formats -/

/-- The field of a point in `n` data bits, with `extra` bits below it (R94, R248): `none` when it
lies outside the data received (R265). -/
def Point.field (pt : Point) (extra n data : Nat) : Option Nat :=
  let lo := pt.fbase * 64 + pt.foffs + extra
  if lo + pt.fwidth + 1 ≤ n then some (bitsAt data lo (pt.fwidth + 1)) else none

/-- What the normalizer makes of a raw value. -/
inductive Norm where
  | value (y : Fl)
  | nanErr
  | diag
  | vmodeWait
deriving DecidableEq, Repr

/-- The scale of a Cinch telemetry channel (R251): volts or degrees Celsius. -/
def cinchValue (ch u : Nat) : Rat :=
  match ch with
  | 2 => (sext 12 u : Rat) * 40 / 1000000
  | 4 => (u : Rat) / 16 - 50
  | 5 => (u : Rat) / 16 - 50
  | _ => (u : Rat) * 25 / 1000

/-- R257 before GAIN and OFFSET; `n` is the VOUT_MODE exponent, if its cache is valid. -/
def formatValue (pt : Point) (c : Coef) (vexp : Option Int) (u : Nat) : Norm :=
  let w := pt.fwidth + 1
  match pt.fmt with
  | 0 => .value (Fl.ofRat u)
  | 1 => .value (Fl.ofRat (sext w u))
  | 2 => .value (Fl.ofRat ((sext 11 u : Rat) * pow2 (sext 5 (u / 2048))))
  | 3 => match vexp with
    | some n => .value (Fl.ofRat ((u : Rat) * pow2 n))
    | none => .vmodeWait
  | 4 => match vexp with
    | some n => .value (Fl.ofRat ((sext 16 u : Rat) * pow2 n))
    | none => .vmodeWait
  | 5 =>
    let m := sext 16 (bitsAt c.w0.toNat 0 16)
    let b := sext 16 (bitsAt c.w0.toNat 16 16)
    let r := sext 8 (bitsAt c.w1.toNat 0 8)
    let p := Fl.round64 (Fl.ofRat ((sext 16 u : Rat) * pow10 (-r)))
    .value (Fl.round64 (Fl.div (Fl.round64 (Fl.sub p (Fl.ofRat b))) (Fl.ofRat m)))
  | 6 => .value (Fl.of16 u)
  | 7 => if 4090 ≤ u then .diag else .value (Fl.ofRat u)
  | 8 => if 65530 ≤ u then .diag else .value (Fl.ofRat u)
  | 9 => .value (Fl.ofRat (cinchValue pt.addr u))
  | _ => .value (Fl.of32 u)

/-- R258: scaled (but for DIRECT), rounded once more to binary32; a NaN is an error (R259). -/
def normalize (pt : Point) (c : Coef) (vexp : Option Int) (u : Nat) : Norm :=
  match formatValue pt c vexp u with
  | .value x =>
    let y := if pt.fmt = 5 then x else Fl.scale x (Fl.of32 c.w0.toNat) (Fl.of32 c.w1.toNat)
    if y.isNan then .nanErr else .value y.round32
  | e => e

/-- R259: the clamped value and whether the clamp changed it. -/
def clampTo (c : Coef) (y : Fl) : Word × Bool :=
  if Fl.lt y (Fl.of32 c.lo.toNat) then (c.lo, true)
  else if Fl.lt (Fl.of32 c.hi.toNat) y then (c.hi, true)
  else (y.bits32, false)

/-- The cached exponent of a two-wire point's target (R260). -/
def State.vexp (s : State) (pt : Point) : Option Int :=
  let v := tget {} s.tab.vmode (128 * pt.src + pt.addr)
  if v.valid then some v.exp else none

/-- Normalize a field, counting what is withheld (R259, R260); `none` withholds the value. -/
def State.normalizeAt (s : State) (pt : Point) (u : Nat) : Option Fl × State :=
  match normalize pt (s.coef pt.coef) (s.vexp pt) u with
  | .value y => (some y, s)
  | .nanErr => (none, s.scrCount pt.countPort 5)
  | .diag => (none, s.scrCount pt.countPort 6)
  | .vmodeWait => (none, s.scrCount pt.countPort 7)

/-! ### Capture offsets and the kerf -/

/-- R300, from twice the capture instant and twice S: units of 16 ns, ties away from zero. [DESIGN CHOICE, log 26] -/
def offset16 (inst2 s2 : Int) : BitVec 16 :=
  let r := roundAway (((inst2 - s2) * 125 : Int) / (1024 : Rat))
  BitVec.ofInt 16 (if 32767 < r then 32767 else if r < -32767 then -32767 else r)

/-- R301: farther from S than half the kerf limit, or so far that the offset saturates, from 32,767.5 units on. -/
def outOfKerf (inst2 s2 : Int) (kerf : Nat) : Bool :=
  let h := (inst2 - s2).natAbs
  decide (64 * kerf < 250 * h) || decide (65535 * 1024 ≤ h * 250)

def qFresh : Nat := 1
def qStale : Nat := 2
def qInterpolated : Nat := 4
def qOutOfKerf : Nat := 8
def qRetried : Nat := 16
def qRecovered : Nat := 32
def qAbsent : Nat := 64
def qClamped : Nat := 128

/-- The bank record number of record `i` of a region in a half (R311, R338). -/
def bankIndex (base i : Nat) (half : Bool) : Nat := (if half then 65536 else 0) + base + i

def State.bank (s : State) (k : Nat) : Rec := tget {} s.tack.banks k
def State.setRec (s : State) (k : Nat) (r : Rec) : State :=
  if k < 131072 then s.onTack fun x => { x with banks := tset {} x.banks k r } else s

/-- Position of a point in a list of points. -/
def indexIn (p : Nat) : List Nat → Option Nat
  | [] => none
  | q :: qs => if q = p then some 0 else (indexIn p qs).map (· + 1)

def courseNumbers : List Nat := List.range 16

/-- The strike at an angle of a cycle is the one the snapshot was struck at. -/
def Snap.struckAt (n : Snap) (angle cycle : Nat) : Bool := decide (n.angle = angle) && decide (n.cycle = cycle)

/-- The strikes a course's point still waits for: that of the open snapshot, and earlier ones whose snapshot
was published without it (R313, R315). Angle, cycle and S of each. -/
def Course.waitsFor (k : Course) (p : Nat) : List (Nat × Nat × Nat) :=
  (match k.snap with
    | some n => if n.unresolved.contains p then [(n.angle, n.cycle, n.at')] else []
    | none => [])
  ++ (k.lateWait.filter fun x => x.2.2.contains p).filterMap fun x =>
    k.strikes.find? fun y => decide (y.1 = x.1) && decide (y.2.1 = x.2.1)

/-- Write one capture into course `c`: fresh for its own strike, late for an older one (R307, R315).
[DESIGN CHOICE, log 26, 27] -/
def State.captureIn (s : State) (c angle count p : Nat) (value : Word) (inst2 : Int) (flags : Nat) : State :=
  let k := s.course c
  match k.snap with
  | none => s
  | some n =>
    match indexIn p n.points with
    | none => s
    | some i =>
      if n.captured.contains p then s
      else
        let at2 : Int := 2 * n.at'
        let b := bankIndex n.cfg.base i (!k.half)
        if n.struckAt angle count then
          let q := qFresh + flags + (if outOfKerf inst2 at2 n.kerf && bitsAt flags 2 1 = 0 then qOutOfKerf else 0)
          (s.setRec b { value := value, offset := offset16 inst2 at2, quality := BitVec.ofNat 8 q, age := 0 }).onCourse c
            fun k => { k with snap := some { n with captured := p :: n.captured, unresolved := n.unresolved.filter (· != p) } }
        else
          match k.strikes.find? fun x => decide (x.1 = angle) && decide (x.2.1 = count) with
          | none => s
          | some x =>
            let q := qStale + (flags &&& (qInterpolated + qClamped))
            (s.setRec b { value := value, offset := offset16 inst2 (2 * x.2.2), quality := BitVec.ofNat 8 q, age := 1 }).onCourse c
              fun k => { k with snap := some { n with late := n.late + 1 } }

/-- A published snapshot of that strike still waits for points. -/
def Course.awaitsStrike (k : Course) (y : Nat × Nat × Nat) : Bool := k.lateWait.any fun x => decide (y.1 = x.1) && decide (y.2.1 = x.2.1)

/-- The strikes some snapshot still waits for, published or not: angle, cycle and S (R313, R315). -/
def State.openStrikes (s : State) : List (Nat × Nat × Nat) :=
  (courseNumbers.flatMap fun c =>
    let k := s.course c
    (match k.snap with | some n => [(n.angle, n.cycle, n.at')] | none => [])
      ++ k.strikes.filter k.awaitsStrike).eraseDups

/-- The point waits for its reading of a strike in some course. -/
def State.awaitedIn (s : State) (angle cycle p : Nat) : Bool :=
  courseNumbers.any fun c => ((s.course c).waitsFor p).any fun x => decide (x.1 = angle) && decide (x.2.1 = cycle)

/-- The point waits no longer for a strike whose snapshot was published without it (R315). -/
def Course.settleLate (k : Course) (angle cycle p : Nat) : Course :=
  { k with lateWait := (k.lateWait.map fun x =>
      if x.1 = angle ∧ x.2.1 = cycle then (x.1, x.2.1, x.2.2.filter (· != p)) else x).filter fun x => !x.2.2.isEmpty }

/-- A due point of a strike gets no capture: it is resolved with its carried record (R306, R313). -/
def State.resolveIn (s : State) (c angle count p : Nat) : State :=
  let s := s.onCourse c fun k => k.settleLate angle count p
  match (s.course c).snap with
  | none => s
  | some n =>
    if n.struckAt angle count then
      s.onCourse c fun k => { k with snap := some { n with unresolved := n.unresolved.filter (· != p) } }
    else s

/-- Resolve a point in every course struck at that strike. -/
def State.resolvePoint (s : State) (angle count p : Nat) : State :=
  courseNumbers.foldl (fun s c => s.resolveIn c angle count p) s

/-- The strike has fired: the wheel has passed its angle in that cycle. -/
def State.strikePast (s : State) (angle count : Nat) : Bool :=
  decide (count < s.wheel.cycle) ||
    (decide (count = s.wheel.cycle) && (s.pole.fired.any fun i =>
      match s.pole.entries[i]? with
      | some e => decide (e.action = 1) && decide (e.angle.toNat = angle)
      | none => false))

/-- Clamp a reading (R259) and capture it for its strike in those of `cs` that its point belongs to (R264): one capture is
delivered to every course of the strike that holds the point, each with its own record and AGE (R307); a clamp is counted where `counts` says. -/
def State.deliverTo (s : State) (cs : List Nat) (counts : Bool) (angle count p : Nat) (r : Reading) (interp : Bool := false) : State :=
  let pt := s.point p
  let (v, clamped) := clampTo (s.coef pt.coef) r.value
  let s := if clamped && counts then s.scrCount pt.countPort 9 else s
  let flags := (if interp then qInterpolated else 0) + (if r.retried then qRetried else 0)
    + (if r.recovered then qRecovered else 0) + (if clamped then qClamped else 0)
  cs.foldl (fun s c => if bitAt pt.courses.toNat c then
      (s.captureIn c angle count p v r.mid2 flags).onCourse c fun k => k.settleLate angle count p
    else s) s

/-- Deliver a reading to its strike in every course struck. -/
def State.deliver (s : State) (angle count p : Nat) (r : Reading) (interp : Bool := false) : State :=
  s.deliverTo courseNumbers true angle count p r interp

/-- Keep a reading until its strike fires or its bracket is complete. -/
def State.keepEarly (s : State) (e : Early) : State := s.onPorts fun p => { p with early := p.early ++ [e] }

/-- A reading of policy Nearest, Zone-latched or Breik: now if its strike is past, else kept (R213). -/
def State.readNearest (s : State) (angle count p : Nat) (r : Option Reading) : State :=
  if s.strikePast angle count then
    match r with
    | some r => s.deliver angle count p r
    | none => s.resolvePoint angle count p
  else s.keepEarly { angle := angle, count := count, point := p, reading := r }

/-- v of R214 for two readings, times relative to S in half ticks. [DESIGN CHOICE, log 34] -/
def interpolate (b a : Reading) (s2 : Int) : Fl :=
  let tb : Rat := ((b.mid2 - s2 : Int) : Rat) * 125 / 64
  let ta : Rat := ((a.mid2 - s2 : Int) : Rat) * 125 / 64
  let d := Fl.round64 (Fl.sub a.value b.value)
  let q := Fl.round64 (Fl.div (Fl.round64 (Fl.mul d (Fl.ofRat (-tb)))) (Fl.round64 (Fl.ofRat (ta - tb))))
  Fl.round32 (Fl.round64 (Fl.add b.value q))

/-- S of the strike, twice, from a course struck at it. -/
def State.strikeAt2 (s : State) (angle count : Nat) : Option Int :=
  courseNumbers.findSome? fun c =>
    ((s.course c).strikes.find? fun x => decide (x.1 = angle) && decide (x.2.1 = count)).map fun x => 2 * (x.2.2 : Int)

/-- BRACKET_MAX in half ticks of 256 MHz: units of 10 µs. -/
def State.bracketMax2 (s : State) : Nat := bitsAt s.ports.bklCfg.toNat 0 10 * 10 * us * 2

/-- Publish a Bracketed point from its reads B and A (R214), or fall back (R215). [DESIGN CHOICE, log 34] -/
def State.bracketResolve (s : State) (angle count p : Nat) (b a : Option Reading) : State :=
  let s := s.onPorts fun x => { x with early := x.early.filter fun e =>
    !(e.bracket && decide (e.point = p) && decide (e.angle = angle) && decide (e.count = count)) }
  let fall (s : State) : State := if 64 ≤ (s.point p).src then s.bklCount ((s.point p).src - 64) 20 else s
  match b, a, s.strikeAt2 angle count with
  | some b, some a, some s2 =>
    if (a.mid2 - b.mid2).natAbs ≤ s.bracketMax2 then
      let v := interpolate b a s2
      if v.isNan then (s.scrCount (s.point p).countPort 5).resolvePoint angle count p
      else s.deliver angle count p { value := v, mid2 := s2, retried := b.retried || a.retried, recovered := b.recovered || a.recovered } true
    else
      let pick := if (a.mid2 - s2).natAbs < (b.mid2 - s2).natAbs then a else b
      (fall s).deliver angle count p pick
  | some b, none, _ => (fall s).deliver angle count p b
  | none, some a, _ => (fall s).deliver angle count p a
  | _, _, _ => (fall s).resolvePoint angle count p

/-- Read B of a bracket has ended: it waits for read A (R214). -/
def State.readB (s : State) (angle count p : Nat) (r : Option Reading) : State :=
  s.keepEarly { angle := angle, count := count, point := p, bracket := true, reading := r }

/-- Read A of a bracket has ended. -/
def State.readA (s : State) (angle count p : Nat) (r : Option Reading) : State :=
  let b := (s.ports.early.find? fun e => e.bracket && decide (e.point = p) && decide (e.angle = angle)
    && decide (e.count = count)).bind (·.reading)
  s.bracketResolve angle count p b r

/-- Hand a reading to its point by the policy of its read (R263): 1 read B, 2 read A. -/
def State.feedPoint (s : State) (policy angle count p : Nat) (r : Option Reading) : State :=
  match policy with
  | 1 => s.readB angle count p r
  | 2 => s.readA angle count p r
  | _ => s.readNearest angle count p r

/-- The angle of a cut-list entry's strike. -/
def State.strikeAngle (_s : State) (e : CutEntry) : Nat := e.angle

/-- None of the points of an entry gets a value from it (R286, R306). -/
def State.failEntry (s : State) (e : CutEntry) (count : Nat) : State :=
  s.underStrike count fun s => e.points.foldl (fun s p => s.feedPoint e.policy (s.strikeAngle e) count p none) s

/-- D of R267: RDIV + 1, eight times that while the slack rule holds. -/
def State.rateD (s : State) (pt : Point) : Nat :=
  (pt.rdiv + 1) * (if pt.slack != 0 && (tget {} s.tab.slack pt.slack).enable && (tget {} s.tab.slack pt.slack).holding then 8 else 1)

/-- R267: a point read with phase `phase` is due at serial count `ns`. -/
def State.isDue (s : State) (pt : Point) (ns phase : Nat) : Bool := decide ((ns + phase) % s.rateD pt = 0)

end Sys2Proof.Machine
end

