-- ==== Sys2Proof/Machine/Tally.lean ====
section
/-! DEFINITION. Tally (11): counting charge from published snapshots (R469 to R472), outputs (R473),
rest points, learning and drought (R474 to R479), the ledger (R482 to R487) and string records (R467,
R468). Quantities are exact rationals; they are rounded to binary32 where the manual stores them so. -/
namespace Sys2Proof.Machine

def State.onTally (s : State) (f : Tally → Tally) : State := { s with tally := f s.tally }
def State.string (s : State) (i : Nat) : Option BatString := tget none s.tally.strings i
def State.onString (s : State) (i : Nat) (f : BatString → BatString) : State :=
  s.onTally fun t => { t with strings := tmod none t.strings i (Option.map f) }
def State.stringConfigured (s : State) (i : Nat) : Bool := (s.string i).isSome

def Fl.rat? : Fl → Option Rat
  | .fin neg m => some (if neg then -m else m)
  | _ => none

/-- A finite binary32 word's value. -/
def ratOf32 (v : Nat) : Option Rat := (Fl.of32 v).rat?

/-- [DESIGN CHOICE, log 51] -/
def bits32Of (r : Rat) : Nat := (Fl.bits32 (Fl.ofRat r).round32).toNat

def nanWord : Nat := 0x7FC00000

/-! ### State of charge and outputs -/

/-- nC to Ah. -/
def ahOf (nc : Int) : Rat := (nc : Rat) / 3600000000000

/-- SOC in force, in per cent, not clamped (R471). -/
def BatString.soc (b : BatString) : Rat := b.socA + 100 * ahOf b.q.toInt / (if b.cLrn = 0 then 1 else b.cLrn)

/-- Add to U, saturating at 100 (R472). -/
def BatString.widen (b : BatString) (d : Rat) : BatString := { b with unc := min 100 (b.unc + d) }

/-- State of R473: shipped, unanchored, drought, resting (the last reading was at or below I_REST), active. -/
def BatString.stateCode (b : BatString) : Nat :=
  if b.shipped then 4 else if !b.anchored then 3 else if b.drought then 2
  else match b.lastI with
    | some i => if i.abs ≤ b.cfg.iRest then 1 else 0
    | none => 0

/-- Seconds since the last rest point (R479). -/
def BatString.sinceRest (b : BatString) (now : Nat) : Nat := (((now : Int) - b.restAt) / 256000000).toNat

def someMin : List Rat → Option Rat
  | [] => none
  | x :: xs => some (xs.foldl min x)
def someMax : List Rat → Option Rat
  | [] => none
  | x :: xs => some (xs.foldl max x)

/-- The lowest or highest of the cell voltages to use; open when none can be used (R473). [DESIGN CHOICE, log 52] -/
def State.cellExtreme (s : State) (x : Option Rat) : Rat × State :=
  match x with
  | some r => (r, s)
  | none => let (v, s) := s.takeFree; (((v % 2 ^ 32 : Nat) : Rat) / 10000, s)

/-- The outputs of R473. -/
def State.tallyOutput (s : State) (i sel : Nat) : Fl × State :=
  match s.string i with
  | none => (.nan, s)
  | some b =>
    let v := b.volts.filterMap id
    let (x, s) := if sel = 6 then s.cellExtreme (someMin v) else if sel = 7 then s.cellExtreme (someMax v) else (0, s)
    let r : Rat := match sel with
      | 0 => b.soc
      | 1 => b.unc
      | 2 => ahOf b.q.toInt
      | 3 => ahOf b.thr.toNat
      | 4 => b.cLrn
      | 5 => v.foldl (· + ·) 0
      | 6 => x
      | 7 => x
      | 8 => if b.tempFresh then (someMax (b.temps.filterMap id)).getD (-27315 / 100) else -27315 / 100
      | 9 => (b.stateCode : Rat)
      | _ => ((((s.now : Int) - b.restAt : Int) : Rat) / 256000000) / 3600
    ((Fl.ofRat r).round32, s)

/-! ### Integration at publication (R469, R470, R475) -/

def recHas (r : Rec) (flag : Nat) : Bool := decide (r.quality.toNat &&& flag ≠ 0)

/-- The value of a point's record in a published snapshot, unless it is ABSENT. [DESIGN CHOICE, log 52] -/
def recValue (prs : List (Nat × Rec)) (p : Nat) : Option Rat :=
  match prs.find? fun x => decide (x.1 = p) with
  | some (_, r) => if recHas r qAbsent then none else ratOf32 r.value.toNat
  | none => none

/-- The string current of a published strike, SIGN applied; none when ABSENT (R469). -/
def StringDef.reading (d : StringDef) (prs : List (Nat × Rec)) : Option Rat :=
  (recValue prs d.current).map fun x => if d.invert then -x else x

/-- The interval from the previous counted strike: its seconds, and its charge in nC unless R470 bars it (R469). -/
def BatString.interval (b : BatString) (period angle count : Nat) (i : Option Rat) : Option (Rat × Option Int) :=
  b.prev.map fun (c0, a0, i0) =>
    let ticks : Rat := ((((count : Int) - c0) * 65536 + angle - a0) * period : Int) / (65536 : Rat)
    let secs := ticks / 256000000
    (secs, match i0, i with
      | some x, some y => if 2 < secs then none else some (roundAway ((x + y) / 2 * secs * 1000000000))
      | _, _ => none)

/-- Both sums fit their integrators once `nc` is added (R469). -/
def BatString.holds (b : BatString) (nc : Int) : Bool :=
  decide (-(2 ^ 63) ≤ b.q.toInt + nc ∧ b.q.toInt + nc < 2 ^ 63 ∧ b.thr.toNat + nc.natAbs < 2 ^ 64)

/-- Count `nc` of charge; an integrator whose sum leaves its 64 bits holds an open value, `x` or `y`. [DESIGN CHOICE, log 159] -/
def BatString.charge (b : BatString) (nc : Int) (x y : Nat) : BatString :=
  let sum := b.q.toInt + nc
  let thr := b.thr.toNat + nc.natAbs
  let rate : Nat := if b.drought then b.cfg.driftD else b.cfg.drift
  ({ b with q := if -(2 ^ 63) ≤ sum ∧ sum < 2 ^ 63 then BitVec.ofInt 64 sum else BitVec.ofNat 64 x
            thr := if thr < 2 ^ 64 then BitVec.ofNat 64 thr else BitVec.ofNat 64 y } : BatString).widen
    ((rate : Rat) / 10 * ahOf nc.natAbs / (if b.cLrn = 0 then 1 else b.cLrn))

/-- An interval that is not integrated (R470). -/
def BatString.gap (b : BatString) (secs : Rat) : BatString :=
  { b.widen (100 * b.cfg.iMax * secs / 3600 / (if b.cLrn = 0 then 1 else b.cLrn)) with gaps := b.gaps + 1, gapSince := true }

/-- One strike of the string course is published; `x` and `y` are the open values of `charge`. [DESIGN CHOICE, log 52] -/
def BatString.strike (b : BatString) (now period angle count : Nat) (prs : List (Nat × Rec)) (x y : Nat) : BatString :=
  let d := b.cfg
  let i := d.reading prs
  let fresh := (prs.find? fun x => decide (x.1 = d.current)).map fun x => recHas x.2 qFresh
  let b := match b.interval period angle count i with
    | none => b
    | some (_, some nc) => b.charge nc x y
    | some (secs, none) => b.gap secs
  let b := match i with
    | none => { b with restStart := some now }
    | some x =>
      if d.iRest < x.abs then { b with restStart := some now, restDone := false, shipped := false }
      else if b.restStart.isNone then { b with restStart := some now } else b
  { b with prev := some (count, angle, i), lastI := i, lastFresh := if fresh = some true then i else b.lastFresh
           volts := d.cells.map fun c => recValue prs c.1
           temps := d.cells.map fun c => c.2.bind (recValue prs)
           tempFresh := d.cells.any fun c => match c.2 with
             | some p => (prs.find? fun x => decide (x.1 = p)).any fun x => recHas x.2 qFresh
             | none => false }

def stringNumbers : List Nat := List.range 32

/-- A string counts a published strike, open values taken where an integrator cannot hold its sum (R469). -/
def State.stringStrike (s : State) (i period angle count : Nat) (prs : List (Nat × Rec)) (b : BatString) : State :=
  match b.interval period angle count (b.cfg.reading prs) with
  | some (_, some nc) =>
    if b.holds nc then s.onString i fun b => b.strike s.now period angle count prs 0 0
    else
      let (x, s) := s.takeFree
      let (y, s) := s.takeFree
      s.onString i fun b => b.strike s.now period angle count prs x y
  | _ => s.onString i fun b => b.strike s.now period angle count prs 0 0

/-- Every string of a published course counts its strike, with the PW_PERIOD of that strike (R469, R474); a strike
struck at `at'`, before the string took effect, is none of its strikes (R470). -/
def State.tallyPublished (s : State) (c at' period angle count : Nat) (prs : List (Nat × Rec)) : State :=
  stringNumbers.foldl (fun s i =>
    match s.string i with
    | some b => if b.cfg.course = c ∧ b.since ≤ at' then s.stringStrike i period angle count prs b else s
    | none => s) s

/-! ### The ledger (R482 to R486) -/

def ledgerFold (i slot : Nat) : Nat := 128 * i + 64 * slot

def State.ledgerSlot (s : State) (i slot : Nat) : List Byte := tget [] s.tally.ledger (2 * i + slot)

/-- The check of a ledger slot passes (R486). -/
def ledgerSound (i slot : Nat) (bs : List Byte) : Bool :=
  decide (bs.length = 64) && decide (check32c (ledgerFold i slot) (bs.take 60) = leAt bs 60 4)

/-- The check of a ledger slot passes and its format is 0x01 (R486). -/
def ledgerValid (i slot : Nat) (bs : List Byte) : Bool := ledgerSound i slot bs && decide (leAt bs 5 1 = 1)

/-- a is the higher SEQ (R486). -/
def seqHigher (a b : Nat) : Bool := let d := (a + 2 ^ 32 - b % 2 ^ 32) % 2 ^ 32; decide (1 ≤ d ∧ d < 2 ^ 31)

/-- Unit 3 has failed its self-test: it checks no record, and no commit is made (R236, R485). -/
def State.ledgerDown (s : State) : Bool := bitAt s.stitch.failed.toNat 3

/-- The winning slot of a string and its record, none while unit 3 checks no record. [DESIGN CHOICE, log 7] -/
def State.ledgerBest (s : State) (i : Nat) : Option (Nat × List Byte) :=
  if s.ledgerDown then none else
  let a := s.ledgerSlot i 0
  let b := s.ledgerSlot i 1
  match ledgerValid i 0 a, ledgerValid i 1 b with
  | true, true => if seqHigher (leAt b 0 4) (leAt a 0 4) then some (1, b) else some (0, a)
  | true, false => some (0, a)
  | false, true => some (1, b)
  | false, false => none

def BatString.flags (b : BatString) : Nat := b2n b.drought + 2 * b2n b.everLearned + 4 * b2n b.anchored

/-- The 64 bytes of a commit (R482). -/
def State.ledgerBytes (s : State) (i cause seq slot : Nat) (b : BatString) : List Byte :=
  let body := leBytes 4 seq ++ [BitVec.ofNat 8 i, 1, BitVec.ofNat 8 b.flags, BitVec.ofNat 8 cause] ++ leBytes 4 b.cfg.key
    ++ leBytes 8 b.q.toNat ++ leBytes 8 b.thr.toNat ++ leBytes 4 (bits32Of b.socA) ++ leBytes 4 (bits32Of b.cLrn)
    ++ leBytes 4 (bits32Of b.unc) ++ leBytes 4 (b.sinceRest s.now)
    ++ leBytes 4 (match b.lastOcv with | some x => bits32Of x | none => nanWord)
    ++ leBytes 2 (min 65535 b.learned) ++ leBytes 2 (min 65535 b.rejected) ++ leBytes 4 s.core.bootId.toNat ++ leBytes 4 0
  body ++ leBytes 4 (check32c (ledgerFold i slot) body)

/-- Begin a commit. Bytes 4 to 63 go first and the SEQ last, so until LEDGER_COMMIT_DONE the slot holds the old
SEQ over the new body and fails its check (R483). -/
def State.startCommit (s : State) (i cause : Nat) (deferred : Bool) (b : BatString) : State :=
  let (slot, seq) := match s.ledgerBest i with
    | some (k, bs) => (1 - k, (leAt bs 0 4 + 1) % 2 ^ 32)
    | none => (0, 1)
  let bytes := s.ledgerBytes i cause seq slot b
  let s := s.onString i fun b => { b with lastCommit := s.now }
  s.onTally fun t => { t with
    ledger := tset [] t.ledger (2 * i + slot) ((tget [] t.ledger (2 * i + slot)).take 4 ++ bytes.drop 4)
    writes := t.writes ++ [{ str := i, cause := cause, deferred := deferred, slot := slot, seq := seq, bytes := bytes }] }

/-- A commit falls due: under the warning only the latest of a string waits (R485); behind a commit of the string
that is being written each cause keeps its own (R483, R484); else it begins. -/
def State.commit (s : State) (i cause : Nat) (deferred : Bool := false) : State :=
  match s.string i with
  | none => s
  | some b =>
    if s.ledgerDown then s
    else if s.warning then
      s.onTally fun t => { t with due := (t.due.filter fun x => decide (x.1 ≠ i)) ++ [(i, cause, true)] }
    else if s.tally.writes.any fun x => decide (x.str = i) then
      s.onTally fun t => { t with due := t.due ++ [(i, cause, deferred)] }
    else s.startCommit i cause deferred b

/-- Start what waited, once it may start. -/
def State.commitDue (s : State) : State :=
  s.tally.due.foldl (fun s x => s.commit x.1 x.2.1 x.2.2) (s.onTally fun t => { t with due := [] })

/-- The first commit of a string that waits starts, or goes on waiting under the warning. -/
def State.nextCommit (s : State) (i : Nat) : State :=
  match s.tally.due.find? fun x => decide (x.1 = i) with
  | some x => (s.onTally fun t => { t with due := t.due.erase x }).commit i x.2.1 x.2.2
  | none => s

/-- LEDGER_SCAN: once after a Beam die reset every slot of every string is read, failures are counted, and RDY_TALLY
sets while unit 3 is sound (R236, R486). [DESIGN CHOICE, log 54] -/
def State.ledgerScan (s : State) : State :=
  if !bitAt s.core.ready.toNat 2 || bitAt s.core.ready.toNat 7 || s.ledgerDown then s
  else
    let bad := (List.range 64).foldl (fun a k => a + b2n !(ledgerSound (k / 2) (k % 2) (s.ledgerSlot (k / 2) (k % 2)))) 0
    let s := s.onStitch fun u => { u with ledgerFail := satAdd u.ledgerFail bad }
    s.setReady 7 true

/-- LEDGER_HOURLY: an hour since the string's last commit (R484). -/
def State.ledgerHourly (s : State) (i : Nat) : State :=
  if (s.string i).any fun b => decide (b.lastCommit + 3600 * 256000000 ≤ s.now) then s.commit i 6 else s

/-- LEDGER_COMMIT_DONE: the last bytes land and the record is in force (R483). -/
def State.ledgerDone (s : State) (i : Nat) : State :=
  match s.tally.writes.find? fun x => decide (x.str = i) with
  | none => s
  | some w =>
    let s := s.onTally fun t => { t with writes := t.writes.filter fun x => decide (x.str ≠ i), ledger := tset [] t.ledger (2 * i + w.slot) w.bytes }
    let s := s.post 0x082 i (leBytes 4 w.seq ++ [BitVec.ofNat 8 w.slot, BitVec.ofNat 8 w.cause, BitVec.ofNat 8 (b2n w.deferred)])
    s.nextCommit i

/-! ### Evaluation (R474 to R479) -/

def State.ocvEntry (s : State) (i : Nat) : Nat × Nat :=
  let w := (tget 0 s.tally.ocv i).toNat
  (bitsAt w 0 16, bitsAt w 16 16)

/-- SOC from the mean cell voltage, and whether it lay outside the string's entries (R476, R477). -/
def State.ocvLookup (s : State) (d : StringDef) (v : Rat) : Rat × Bool :=
  let es := (List.range d.ocvCount).map fun k => s.ocvEntry (d.ocvBase + k)
  let x := v * 10000
  let pct (n : Nat) : Rat := (n : Rat) / 100
  match es.head?, es.getLast? with
  | some f, some l =>
    if x < f.1 then (pct f.2, true)
    else if (l.1 : Rat) < x then (pct l.2, true)
    else
      match (es.zip (es.drop 1)).find? fun p => decide ((p.1.1 : Rat) ≤ x) && decide (x ≤ (p.2.1 : Rat)) with
      | some (a, b) => (pct a.2 + (pct b.2 - pct a.2) * (x - a.1) / (if b.1 = a.1 then 1 else ((b.1 : Rat) - a.1)), false)
      | none => (pct f.2, false)
  | _, _ => (0, true)

/-- The result of learning at rest point B (R478): the new capacity and LEARNED or REJECTED. -/
def BatString.learn (b : BatString) (soc : Rat) : BatString × Bool × Bool :=
  match b.lastOcv with
  | none => (b, false, false)
  | some a =>
    let span := soc - a
    let q := ahOf b.q.toInt
    if !b.pairOk || b.gapSince || b.drought || decide (span.abs < b.cfg.span) || decide (ahOf b.thr.toNat < b.cfg.cNom / 4)
        || decide (q * span ≤ 0) then (b, false, false)
    else
      let c := 100 * q.abs / span.abs
      if b.cfg.cNom / 2 ≤ c ∧ c ≤ b.cfg.cNom * 6 / 5 then
        ({ b with cLrn := b.cLrn + (c - b.cLrn) / 4, learned := b.learned + 1, everLearned := true }, true, false)
      else ({ b with rejected := b.rejected + 1 }, false, true)

/-- A rest point (R476). -/
def State.restPoint (s : State) (i : Nat) (b : BatString) (mean : Rat) : State :=
  let (soc, clamped) := s.ocvLookup b.cfg mean
  let counted := b.soc
  let (b1, l, r) := b.learn soc
  let b2 := { b1 with socA := soc, q := 0, thr := 0, unc := (b.cfg.ocvUnc : Rat) / 10, anchored := true, drought := false, restAt := s.now
                      lastOcv := some soc, pairOk := true, gapSince := false, restDone := true }
  let s := (s.onString i fun _ => b2).commit i 1
  s.post 0x080 i (leBytes 4 (bits32Of soc) ++ leBytes 4 (bits32Of counted) ++ leBytes 4 (bits32Of mean)
    ++ [BitVec.ofNat 8 (b2n l + 2 * b2n r + 4 * b2n b.drought + 8 * b2n clamped)])

def seconds (n : Nat) : Nat := n * 256000000

/-- Evaluate one string (R474, R475, R479); an evaluation with an ABSENT cell adds no mean and keeps the history. [DESIGN CHOICE, log 53] -/
def State.evalString (s : State) (i : Nat) : State :=
  match s.string i with
  | none => s
  | some b =>
    let v := b.volts.filterMap id
    let whole := decide (v.length = b.cfg.cells.length) && !v.isEmpty
    let mean : Rat := if v.isEmpty then 0 else v.foldl (· + ·) 0 / (v.length : Rat)
    let old := b.means.find? fun x => decide (x.1 + seconds 300 ≤ s.now)
    let steady := match old with
      | some (_, m) => decide ((mean - m).abs < (b.cfg.dvdt : Rat) * 300 / 1000000)
      | none => false
    let rested := match b.restStart with
      | some t => decide (t + seconds (60 * b.cfg.tRest) ≤ s.now)
      | none => false
    let keep := b.means.filter fun x => decide (s.now < x.1 + seconds 300) || (old.any fun o => decide (o.1 = x.1))
    let b := { b with means := if whole then (s.now, mean) :: keep else keep }
    let s := s.onString i fun _ => b
    if whole && steady && rested && !b.restDone then s.restPoint i b mean
    else if !b.drought && decide (86400 * b.cfg.droughtDays ≤ b.sinceRest s.now) then
      let s := (s.onString i fun b => { b with drought := true, pairOk := false }).commit i 2
      s.post 0x081 i (leBytes 4 (b.sinceRest s.now) ++ leBytes 4 (bits32Of (ahOf b.thr.toNat)) ++ leBytes 4 (bits32Of b.unc))
    else s

/-- Every string is evaluated, and Foreman G's own timer starts anew. -/
def State.tallyEval (s : State) (secs : Nat) : State :=
  (stringNumbers.foldl State.evalString s).onTally fun t => { t with timerAt := s.now + seconds secs }

/-- TALLY_TICK: the timer evaluates only after 2 s without another (R474). -/
def State.tallyTick (s : State) : State := s.tallyEval 2

/-- TALLY_EVAL_TIMER: every second, once no TALLY_TICK has fired for 2 s (R474). -/
def State.tallyTimer (s : State) : State := if s.tally.timerAt ≤ s.now then s.tallyEval 1 else s

/-! ### String records (R467, R468, R487, R489) -/

def orDefault (v d : Nat) : Nat := if v = 0 then d else v

/-- A string's open-circuit entries ascend strictly in voltage (R468, R489). -/
def ocvAscends (ocv : Tbl Word) (base count : Nat) : Bool :=
  let v (i : Nat) : Nat := bitsAt (tget 0 ocv i).toNat 0 16
  (List.range (count - 1)).all fun k => decide (v (base + k) < v (base + k + 1))

def shipLenOk (xfer len : Nat) : Bool :=
  match xfer with
  | 0 => decide (len = 1)
  | 1 => decide (len = 2)
  | 2 => decide (len = 4)
  | 4 => true
  | 5 => decide (len = 1)
  | _ => false

/-- A WRITE_TARGET is allowed on a two-wire point of this XFER (R362): some data length fits. -/
def shipWritable (xfer : Nat) : Bool := (List.range 5).any (shipLenOk xfer)

def positive32 (v : Nat) : Bool := match ratOf32 v with
  | some r => decide (0 < r)
  | none => false

/-- The OCV table once the waiting loads are in force. -/
def State.ocvNext (s : State) : Tbl Word :=
  s.tally.cmds.foldl (fun m c => match c with
    | .ocv _ first ws => ws.zipIdx.foldl (fun m x => tset 0 m (first + x.2) (BitVec.ofNat 32 x.1)) m
    | _ => m) s.tally.ocv

/-- Decode a string record; on the left the byte offset of the first field at fault (R468). -/
def State.parseString (s : State) (bs : List Byte) : Nat ⊕ StringDef :=
  let b (o : Nat) : Nat := leAt bs o 1
  let h (o : Nat) : Nat := leAt bs o 2
  let d4 (o : Nat) : Nat := leAt bs o 4
  let course := b 0 % 16
  let cells := b 1
  let cur := s.point (h 2)
  let inCourse (p : Nat) : Bool := (s.point p).valid && bitAt (s.point p).courses.toNat course
  let ships := (List.range 3).map fun k => (36 + 8 * k, h (36 + 8 * k), b (38 + 8 * k), b (39 + 8 * k))
  let shipPoint (p : Nat) : Bool := decide (p = 0xFFFF)
    || (s.point p).valid && decide (64 ≤ (s.point p).src ∧ (s.point p).src < 128) && shipWritable (s.point p).xfer
  let shipLen (x : Nat × Nat × Nat × Nat) : Bool := decide (x.2.1 = 0xFFFF)
    || decide (1 ≤ x.2.2.1 ∧ x.2.2.1 ≤ 4) && shipLenOk (s.point x.2.1).xfer x.2.2.1
  let faults : List (Nat × Bool) :=
    [ (0, decide (bitsAt (b 0) 4 3 ≠ 0) || !bitAt (s.course course).cfg.w0.toNat 0), (1, decide (cells = 0 ∨ 64 < cells)),
      (2, !cur.valid || decide (128 ≤ cur.src) || !inCourse (h 2) || decide (cur.rdiv ≠ 0) || decide (cur.slack ≠ 0)),
      (8, !positive32 (d4 8)), (12, !positive32 (d4 12)),
      (16, !positive32 (d4 16) || decide ((ratOf32 (d4 16)).getD 0 < (ratOf32 (d4 12)).getD 0)),
      (20, decide (1440 < h 20)), (23, decide (b 23 ≠ 0 ∧ (b 23 < 20 ∨ 80 < b 23))),
      (24, decide (4095 < h 24)), (26, decide (h 26 < 2 ∨ 4096 < h 26 + h 24) || !ocvAscends s.ocvNext (h 24) (h 26)),
      (32, (Fl.of32 (d4 32) matches .inf _)) ]
    ++ (ships.flatMap fun x => [(x.1, !shipPoint x.2.1), (x.1 + 2, !shipLen x), (x.1 + 3, decide (x.2.2.2 ≠ 0))]) ++ [(62, decide (h 62 ≠ 0))]
    ++ ((List.range 64).flatMap fun k =>
        if k < cells then [(64 + 4 * k, !inCourse (h (64 + 4 * k))),
          (66 + 4 * k, decide (h (66 + 4 * k) ≠ 0xFFFF) && !inCourse (h (66 + 4 * k)))]
        else [(64 + 4 * k, decide (d4 (64 + 4 * k) ≠ 0xFFFFFFFF))])
  match faults.find? (·.2) with
  | some f => .inl f.1
  | none => .inr {
      course := course, invert := bitAt (b 0) 7, current := h 2, key := d4 4
      cells := (List.range cells).map fun k => (h (64 + 4 * k), if h (66 + 4 * k) = 0xFFFF then none else some (h (66 + 4 * k)))
      cNom := (ratOf32 (d4 8)).getD 0, iRest := (ratOf32 (d4 12)).getD 0, iMax := (ratOf32 (d4 16)).getD 0
      tRest := orDefault (h 20) 30, droughtDays := orDefault (b 22) 14, span := orDefault (b 23) 30
      ocvBase := h 24, ocvCount := h 26, dvdt := orDefault (h 28) 10, drift := orDefault (b 30) 5, driftD := orDefault (b 31) 20
      socInit := ratOf32 (d4 32)
      ship := (ships.filter fun x => decide (x.2.1 ≠ 0xFFFF)).map fun x => (x.2.1, (bs.drop (x.1 + 4)).take x.2.2.1)
      ocvUnc := orDefault (b 60) 20, restoreUnc := orDefault (b 61) 50 }

/-- A string begins: from its ledger record when the KEY is the same, else from C_NOM and SOC_INIT. Without a valid
record U starts as R487 has it, not at the 100 of R472. [DESIGN CHOICE, log 160] -/
def State.beginString (s : State) (i : Nat) (d : StringDef) : BatString :=
  let fresh : BatString := { cfg := d, since := s.now, cLrn := d.cNom, restAt := s.now, lastCommit := s.now, socA := d.socInit.getD 0
                             anchored := d.socInit.isSome, unc := if d.socInit.isSome then (d.ocvUnc : Rat) / 10 else 100 }
  match s.ledgerBest i with
  | some (_, bs) =>
    if leAt bs 8 4 = d.key then
      let f := leAt bs 6 1
      ({ fresh with q := BitVec.ofNat 64 (leAt bs 12 8), thr := BitVec.ofNat 64 (leAt bs 20 8), socA := (ratOf32 (leAt bs 28 4)).getD 0
                    cLrn := (ratOf32 (leAt bs 32 4)).getD d.cNom, unc := (ratOf32 (leAt bs 36 4)).getD 100
                    restAt := (s.now : Int) - (seconds (leAt bs 40 4) : Nat), lastOcv := ratOf32 (leAt bs 44 4)
                    learned := leAt bs 48 2, rejected := leAt bs 50 2, drought := bitAt f 0, everLearned := bitAt f 1, anchored := bitAt f 2 } : BatString).widen
        ((d.restoreUnc : Rat) / 10)
    else fresh
  | none => fresh

/-- Disarm ship mode of a string (R489). -/
def State.disarm (s : State) (i : Nat) : State :=
  s.onTally fun t => { t with armed := match t.armed with
    | some (k, c, at') => if k = i then none else some (k, c, at')
    | none => none }

/-- A STRING_SET waits for a commit of its string that is being written (R489), and what was fetched after it for
that string waits with it. -/
def State.tallyWaits (s : State) (c : TallyCmd) : Bool :=
  (match c with
    | .set _ i _ => s.tally.writes.any fun x => decide (x.str = i)
    | _ => false) || s.tally.cmds.any fun x => x.str.isNone || c.str.isNone || x.str == c.str

/-- A TALLY_CMD takes effect at its boundary and completes there (R488). [DESIGN CHOICE, log 54] -/
def State.applyTally (s : State) (c : TallyCmd) : State :=
  if s.tallyWaits c then s.onTally fun t => { t with cmds := t.cmds ++ [c] }
  else match c with
  | .set slot i d =>
      let b := s.beginString i d
      let s := (s.onTally fun t => { t with strings := tset none t.strings i (some b) }).commit i 3
      s.complete slot 0
  | .clear slot i => ((s.onTally fun t => { t with strings := tset none t.strings i none, due := t.due.filter fun x => decide (x.1 ≠ i) }).disarm i).complete slot 0
  | .ocv slot first ws => (s.onTally fun t => { t with ocv := ws.zipIdx.foldl (fun m x => tset 0 m (first + x.2) (BitVec.ofNat 32 x.1)) t.ocv }).complete slot 0
  | .soc slot i soc unc =>
    ((s.onString i fun b => { b with socA := soc, unc := min 100 unc, q := 0, thr := 0, anchored := true, pairOk := false }).commit i 4).complete slot 0
  | .learnReset slot i =>
    ((s.onString i fun b => { b with cLrn := b.cfg.cNom, learned := 0, rejected := 0, pairOk := false }).commit i 4).complete slot 0

/-- Every waiting TALLY_CMD, in the order fetched. -/
def State.applyTallyAll (s : State) : State :=
  s.tally.cmds.foldl State.applyTally (s.onTally fun t => { t with cmds := [] })

end Sys2Proof.Machine
end

