-- ==== Sys2Proof/Machine/Tack.lean ====
section
/-! DEFINITION. Courses, snapshots and the trace ring (07): the strike of a course (R312),
publication and its header (R314 to R318), KERF_MISS (R329), slack at publication (R269), the block
check (R316), the copies (R319, R320, R384) and the ring (R330 to R337). -/
namespace Sys2Proof.Machine

/-! ### Course set-up -/

def CourseCfg.enabled (g : CourseCfg) : Bool := bitAt g.w0.toNat 0
def CourseCfg.toHost (g : CourseCfg) : Bool := bitAt g.w0.toNat 1
def CourseCfg.toUplink (g : CourseCfg) : Bool := bitAt g.w0.toNat 2
def CourseCfg.traced (g : CourseCfg) : Bool := bitAt g.w0.toNat 3
def CourseCfg.merged (g : CourseCfg) : Bool := bitAt g.w0.toNat 4
def CourseCfg.missRepeat (g : CourseCfg) : Nat := bitsAt g.w0.toNat 16 16

/-- The valid points of a course, in ascending index (R308). -/
def pointsOf (pts : Tbl Point) (c : Nat) : List Nat :=
  (pts.filter fun x => x.2.valid && bitAt x.2.courses.toNat c).map (·.1)

def State.coursePoints (s : State) (c : Nat) : List Nat := pointsOf s.tab.points c

/-- The kerf limit in force and whether it was defaulted (R295). -/
def State.kerfLimit (s : State) (c : Nat) : Nat × Bool :=
  let g := (s.course c).cfg
  if g.kerf != 0 then (g.kerf, false)
  else
    let slow := (s.coursePoints c).any fun p =>
      let pt := s.point p
      (decide (64 ≤ pt.src ∧ pt.src < 128) && decide (pt.capture = 0))
        || (decide (pt.src < 64) && decide ((s.awl pt.src).mode = 2) && decide (pt.capture = 0))
        || decide (pt.src = 128)
    (if slow then 500000 else 2000, true)

/-- The merge wait in force (R294). -/
def CourseCfg.wait (g : CourseCfg) : Nat := if g.mergeWait = 0 then 2000 else g.mergeWait

/-! ### Records -/

/-- The 8 bytes of a record (R302). -/
def Rec.bytes (r : Rec) : List Byte :=
  leBytes 4 r.value.toNat ++ leBytes 2 r.offset.toNat ++ [r.quality, r.age]

def Rec.has (r : Rec) (flag : Nat) : Bool := decide (r.quality.toNat &&& flag ≠ 0)

/-- A point never captured since it took effect (R305). -/
def neverRead (absent : Bool) : Rec :=
  { value := 0, offset := 0x8000, quality := BitVec.ofNat 8 (if absent then qAbsent else qStale), age := 255 }

/-- R304: the record carried to the next snapshot. -/
def Rec.carry (r : Rec) (absent : Bool) : Rec :=
  { r with quality := BitVec.ofNat 8 ((if absent then qAbsent else qStale) + (r.quality.toNat &&& (qInterpolated + qClamped)))
           age := satInc r.age }

/-- The point is absent: marked under R145, its target under R191, or its string not configured. -/
def State.pointAbsent (s : State) (p : Nat) : Bool :=
  let pt := s.point p
  if pt.src < 64 then (s.mark p).absent
  else if pt.src < 128 then (s.tw (pt.src - 64)).absent.contains pt.addr
  else if pt.src = 129 then !s.stringConfigured pt.addr
  else false

/-! ### Headers (R318) -/

/-- GEN_DIGEST: CRC-32C over the generations of the course's Breik ports (R318). [DEDUCED, log 28] -/
def State.genDigest (s : State) (pts : List Nat) : Nat :=
  let used := pts.map fun p => (s.point p).src
  crcBytes crc32c ((List.range 64).flatMap fun n =>
    leBytes 2 (if used.contains n && decide ((s.awl n).mode = 1) then (s.awl n).gen.toNat else 0))

/-- What R309 asks of a mandatory point holds of it: its record is good, or, when it was not due, was good at
the last strike where it was. [DEDUCED, log 28] -/
def Snap.meets (n : Snap) (p : Nat) (r : Rec) : Bool :=
  if n.due.contains p then r.has qFresh && !r.has qOutOfKerf else n.okBefore.contains p

/-- |OFFSET| of a record, in units of 16 ns. -/
def Rec.absOffset (r : Rec) : Nat := r.offset.toInt.natAbs

/-! ### The trace ring -/

def ringSize : Nat := 4194304

def Trace.put (k : Trace) (off : Nat) (bs : List Byte) : Trace :=
  { k with mem := bs.zipIdx.foldl (fun m x => tset 0 m (off + x.2) x.1) k.mem }

/-- Drop the entries that a write of `len` bytes at `off` overwrites (R331). -/
def Trace.dropFor (k : Trace) (off len : Nat) : Trace :=
  { k with entries := k.entries.filter fun e => decide (e.1 + e.2 ≤ off) || decide (off + len ≤ e.1) }

/-- Write one whole entry at the write position (R331). -/
def Trace.place (k : Trace) (bs : List Byte) : Trace :=
  let off := k.wptr.toNat
  let len := bs.length
  let k := (k.dropFor off len).put off bs
  { k with entries := k.entries ++ [(off, len)]
           wptr := BitVec.ofNat 22 (off + len)
           wraps := if off + len = ringSize then satInc k.wraps else k.wraps }

/-- Write an entry, after a pad entry where it does not fit before the ring's end (R331): the first of them after a
trigger is the trigger's position (R333). -/
def Trace.write (k : Trace) (bs : List Byte) : Trace :=
  let off := k.wptr.toNat
  let k := if k.state = 1 && !k.trigSet then { k with trig := k.wptr, trigSet := true } else k
  let k := if off + bs.length ≤ ringSize then k
    else
      let len := ringSize - off
      k.place (padTo len ([0x81, 0, 0, 0] ++ leBytes 4 len))
  k.place bs

/-- CS_TR_OLDEST. -/
def Trace.oldest (k : Trace) : Nat :=
  match k.entries with
  | [] => k.wptr.toNat
  | e :: _ => e.1

/-- The ring freezes: TRACE_FROZEN, and the TRACE_FREEZE jobs complete (R332, R334). -/
def State.freezeTrace (s : State) : State :=
  let k := s.tack.trace
  let jobs := k.freezeJobs
  let s := s.onTrace fun k => { k with state := 2, postLeft := 0, freezeJobs := [] }
  let s := s.post 0x012 k.trigCourse
    ([BitVec.ofNat 8 k.cause.toNat, BitVec.ofNat 8 k.trigRule, 0, 0] ++ leBytes 4 k.oldest ++ leBytes 4 k.wptr.toNat ++ leBytes 4 k.trig.toNat)
  jobs.foldl (fun s j => s.complete j 0) s

/-- A trigger of R332 with a POST count: cause 1 CINCH_FAULT, 3 HOST, 4 POINT. -/
def State.traceTrigger (s : State) (cause rule course : Nat) : State :=
  let k := s.tack.trace
  if k.state ≠ 0 then s.onTrace fun k => { k with ignored := satInc k.ignored }
  else
    let post := bitsAt k.ctrl.toNat 0 16
    let s := s.onTrace fun k => { k with state := 1, cause := BitVec.ofNat 3 cause, lastCause := k.cause, postLeft := BitVec.ofNat 16 post
                                         trig := k.wptr, trigSet := false, trigRule := rule, trigCourse := course }
    if post = 0 then s.freezeTrace else s

/-- The brown-out warning freezes the ring at once, a counting one too (R332). -/
def State.traceBrownout (s : State) : State :=
  let k := s.tack.trace
  if k.state = 2 then s.onTrace fun k => { k with ignored := satInc k.ignored }
  else
    let trig := if k.state = 1 && k.trigSet then k.trig else k.wptr
    (s.onTrace fun k => { k with cause := 2, trig := trig, trigRule := 255, trigCourse := 0 }).freezeTrace

/-- Write a snapshot entry and count it towards the freeze (R331, R334). -/
def State.traceSnapshot (s : State) (bs : List Byte) : State :=
  if s.tack.trace.state = 2 then s
  else
    let len := (bs.length + 63) / 64 * 64
    let s := s.onTrace fun k => k.write (padTo len bs)
    if s.tack.trace.state = 1 then
      let s := s.onTrace fun k => { k with postLeft := k.postLeft - 1 }
      if s.tack.trace.postLeft = 0 then s.freezeTrace else s
    else s

/-- R59: a mark record, when a course is traced, enabled or not (CS_ENABLED.TRACED), and the ring is not frozen. -/
def State.traceMark (s : State) (mark : Nat) : State :=
  let traced := courseNumbers.any fun c => (s.course c).cfg.traced
  if traced && decide (s.tack.trace.state ≠ 2) then
    s.onTrace fun k => k.write (padTo 64 ([0x80, BitVec.ofNat 8 mark, 0, 0, 0, 0, 0, 0] ++ leBytes 8 s.stamp))
  else s

/-! ### Publication -/

/-- The records of a snapshot in a half, in order. -/
def State.records (s : State) (base : Nat) (half : Bool) (n : Nat) : List Rec :=
  (List.range n).map fun i => s.bank (bankIndex base i half)

def recBytes (rs : List Rec) : List Byte := rs.flatMap Rec.bytes

def countRec (rs : List Rec) (flag : Nat) : Nat := (rs.filter fun r => r.has flag).length

/-- The slack rules governed by a point of this publication take its reading (R269). -/
def SlackRule.reading (r : SlackRule) (rec : Rec) : SlackRule :=
  if rec.has qFresh && Fl.lt (Fl.of32 rec.value.toNat).abs (Fl.of32 r.thresh.toNat) then
    { r with run := r.run + 1, holding := r.holding || decide (r.dwell ≤ r.run + 1) }
  else { r with run := 0, holding := false }

def State.slackUpdate (s : State) (pts : List Nat) (rs : List Rec) : State :=
  s.onTab fun t => { t with slack := t.slack.map fun x =>
    match (if x.2.enable then indexIn x.2.gov pts else none) with
    | some i => (x.1, x.2.reading (rs.getD i {}))
    | none => x }

/-- A point rule fires for a record (R333). -/
def ruleFires (pt th : Word) (p : Nat) (r : Rec) : Bool :=
  bitAt pt.toNat 15 && decide (bitsAt pt.toNat 0 15 = p) && r.has qFresh &&
    (if bitAt pt.toNat 16 then Fl.lt (Fl.of32 th.toNat) (Fl.of32 r.value.toNat)
     else Fl.lt (Fl.of32 r.value.toNat) (Fl.of32 th.toNat))

def State.pointRules (s : State) (c : Nat) (prs : List (Nat × Rec)) : State :=
  if bitAt s.tack.trace.ctrl.toNat 17 then
    s.tack.trace.rules.zipIdx.foldl (fun s x =>
      if prs.any fun pr => ruleFires x.1.1 x.1.2 pr.1 pr.2 then s.traceTrigger 4 x.2 c else s) s
  else s

/-- Every output of a published half has completed or been abandoned (R314, R320). -/
def State.outputsDone (s : State) (c : Nat) (half : Bool) : Bool :=
  !s.tack.checkQ.contains (c, half) && !((s.course c).copies.any fun x => x.1 == half)
    && !((s.course c).merges.any fun m => m.header.isSome && m.half == half)

/-- Post what waited for the outputs of a course's snapshots (R314, R329). -/
def State.releasePosts (s : State) (c : Nat) : State :=
  let due := (s.course c).postDue.filter fun x => s.outputsDone c x.1
  if due.isEmpty then s
  else
    let s := s.onCourse c fun k => { k with postDue := k.postDue.filter fun x => !s.outputsDone c x.1 }
    due.foldl (fun s x => s.postCourse c x.2.1 x.2.2) s

/-- R329: KERF_MISS for the first inconsistent snapshot, and for every `rep`-th further one (MISS_REPEAT); it is posted
once every output has completed (R314). [DEDUCED, log 123] -/
def State.kerfMiss (s : State) (c : Nat) (rep : Nat) (half consistent : Bool) (seq nFail ach : Nat) (first : Option (Nat × Rec)) : State :=
  if consistent then s.onCourse c fun k => { k with lastBad := false, repeatRun := 0 }
  else
    let k := s.course c
    let fire := !k.lastBad || (rep != 0 && decide (k.repeatRun + 1 = rep))
    let since := k.sinceMiss + 1
    let s := s.onCourse c fun k => { k with
      inconsistentCnt := satInc k.inconsistentCnt
      lastBad := true
      repeatRun := if fire then 0 else k.repeatRun + 1
      sinceMiss := if fire then 0 else since }
    if fire then
      let (p, r) := first.getD (0, {})
      let reason : Nat := if r.has qAbsent then 3 else if r.has qFresh then 2 else 1
      s.onCourse c fun k => { k with postDue := k.postDue ++ [(half, 0x011, leBytes 4 seq ++ leBytes 2 nFail ++ leBytes 2 p
        ++ [r.quality, BitVec.ofNat 8 reason] ++ leBytes 2 (min since 65535) ++ leBytes 4 ach)] }
    else s

/-- The numbers of a header that do not come from the records. -/
def State.headerBytes (s : State) (c : Nat) (n : Snap) (flags slices seq recs ach fresh stale absent ook fail digest check cause : Nat) : List Byte :=
  [BitVec.ofNat 8 c, BitVec.ofNat 8 (if s.isWorker then s.core.node.toNat else 0), BitVec.ofNat 8 flags, BitVec.ofNat 8 slices]
    ++ leBytes 4 seq ++ leBytes 8 (stampOf n.count n.angle) ++ leBytes 8 s.stamp ++ leBytes 4 recs ++ leBytes 4 n.kerf
    ++ leBytes 4 ach ++ leBytes 2 fresh ++ leBytes 2 stale ++ leBytes 2 absent ++ leBytes 2 ook ++ leBytes 2 fail
    ++ leBytes 2 n.late ++ leBytes 4 digest ++ leBytes 4 check ++ leBytes 4 s.core.bootId.toNat ++ [BitVec.ofNat 8 cause, 0, 0, 0]

/-- The worker's uplink takes slices: it is joined (R449). -/
def State.uplinkOpen (s : State) : Bool := s.isWorker && decide (s.aeloon.state = 4)

/-- The set-up a half was struck under (R298). -/
def Course.halfCfg (k : Course) (half : Bool) : CourseCfg := if half then k.cfgB else k.cfgA

/-- The workers joined at the strike of a half (R324), and whether this worker was joined at its publication (R449). -/
def Course.halfJoined (k : Course) (half : Bool) : List Nat := if half then k.joinedB else k.joinedA
def Course.halfUp (k : Course) (half : Bool) : Bool := if half then k.upB else k.upA

/-- The header copy of a half. -/
def Course.header (k : Course) (half : Bool) : List Byte := if half then k.header1 else k.header0
def Course.setHeader (k : Course) (half : Bool) (h : List Byte) : Course :=
  if half then { k with header1 := h } else { k with header0 := h }

/-- R314: write the header, swap the halves, count the sequence, judge R309, and queue the snapshot
for unit 2. The records go on to slack, point
rules and KERF_MISS here; Tally's share is added by the caller. -/
def State.publishSnap (s : State) (c cause : Nat) (n : Snap) : State :=
  let k := s.course c
  let half := !k.half
  let rs := s.records n.cfg.base half n.points.length
  let prs := n.points.zip rs
  let mand := prs.filter fun x => (s.point x.1).mand
  let bad := mand.filter fun x => !n.meets x.1 x.2
  let ok := (prs.filter fun x => n.meets x.1 x.2 && !k.left.contains x.1).map (·.1)
  let consistent := bad.isEmpty
  let seq := k.seq + 1
  let ach := 32 * ((rs.filter fun r => r.has qFresh && !r.has qInterpolated).foldl (fun a r => max a r.absOffset) 0)
  let flags := b2n consistent + 2 * n.wheel
  let h := s.headerBytes c n flags 1 seq.toNat rs.length ach (countRec rs qFresh) (countRec rs qStale)
    (countRec rs qAbsent) (countRec rs qOutOfKerf) bad.length (s.genDigest n.points) 0 cause
  let s := s.onCourse c fun k =>
    { (k.setHeader half h) with half := half, seq := seq, ach := BitVec.ofNat 32 ach, consistent := consistent
                                snap := none, kept := prs.filter fun x => !k.left.contains x.1, dueOk := ok
                                joinedA := if half then k.joinedA else n.joined, joinedB := if half then n.joined else k.joinedB
                                upA := if half then k.upA else s.uplinkOpen, upB := if half then s.uplinkOpen else k.upB
                                cfgA := if half then k.cfgA else n.cfg, cfgB := if half then n.cfg else k.cfgB
                                lateWait := k.lateWait.filter (fun x => decide (n.cycle ≤ x.2.1 + 16))
                                  ++ if n.unresolved.isEmpty then [] else [(n.angle, n.cycle, n.unresolved)] }
  let s := s.kerfMiss c n.cfg.missRepeat half consistent seq.toNat bad.length ach bad.head?
  let s := s.slackUpdate n.points rs
  let s := s.pointRules c prs
  let s := s.tallyPublished c n.at' n.period n.angle n.count prs
  s.onTack fun x => { x with checkQ := x.checkQ ++ [(c, half)] }

/-- Publish the snapshot under construction, if there is one, under the tables of its strike (R9, R314). -/
def State.publishBank (s : State) (c cause : Nat) : State :=
  match (s.course c).snap with
  | none => s
  | some n => s.underStrike n.cycle fun s => s.publishSnap c cause n

/-! ### The strike of a course (R312) -/

/-- Outputs of a half that still wait for its block check, as the set-up of its strike has them (R298, R319):
the host's, the uplink's of a worker joined at publication (R449), the trace entry of a ring that is not frozen. -/
def State.outputsWaiting (s : State) (c : Nat) (half : Bool) : Nat :=
  let g := (s.course c).halfCfg half
  if s.tack.checkQ.contains (c, half) then
    b2n g.toHost + b2n (g.toUplink && (s.course c).halfUp half && s.uplinkOpen) + b2n (g.traced && decide (s.tack.trace.state ≠ 2))
  else 0

/-- Abandon the copies of a half that becomes the build bank, counting each (R320). -/
def State.abandonCopies (s : State) (c : Nat) (half : Bool) : State :=
  let k := s.course c
  let waiting := s.outputsWaiting c half
  let running := (k.copies.filter fun x => x.1 == half).length
  let s := s.onTack fun x => { x with checkQ := x.checkQ.filter (· != (c, half)) }
  let s := { s with aeloon := { s.aeloon with uplinks := s.aeloon.uplinks.filter fun u => decide (u.course ≠ c) || u.half != half } }
  (s.onCourse c fun k => { k with copies := k.copies.filter fun x => x.1 != half
                                  overrun := satAdd k.overrun (waiting + running) }).releasePosts c

/-- The record a point starts the next snapshot with: the published one carried, while it has stayed in the
course (R304, R308), else that of a point never read (R305). -/
def State.startRec (s : State) (c p : Nat) : Rec :=
  match (s.course c).kept.find? fun x => decide (x.1 = p) with
  | some x => x.2.carry (s.pointAbsent p)
  | none => neverRead (s.pointAbsent p)

/-- Initialise the build bank from the published records, as if every point were stale (R312), with
each point's record in its new place (R308) and zero beyond the course's points. -/
def State.initBank (s : State) (c : Nat) (pts : List Nat) (cfg : CourseCfg) : State :=
  let b := !(s.course c).half
  let s1 := pts.zipIdx.foldl (fun s x => s.setRec (bankIndex cfg.base x.2 b) (s.startRec c x.1)) s
  (List.range (cfg.size - pts.length)).foldl (fun s i => s.setRec (bankIndex cfg.base (pts.length + i) b) {}) s1

/-- Points leave a course when a change of the point table takes effect: their records are not kept (R305, R308). -/
def Course.keepOnly (k : Course) (pts : List Nat) : Course :=
  { k with kept := k.kept.filter fun x => pts.contains x.1
           dueOk := k.dueOk.filter pts.contains
           left := match k.snap with
             | some n => (k.left ++ n.points.filter fun p => !pts.contains p).eraseDups
             | none => [] }

end Sys2Proof.Machine
end

