-- ==== Sys2Proof/Machine/Strike.lean ====
section
/-! DEFINITION. A STRIKE entry of the story pole (R49 to R52, R63): which ports take part, which
points are due (R267), what is resolved at once (R313), and the readings that waited for it. -/
namespace Sys2Proof.Machine

def PoleEntry.divN (e : PoleEntry) : Nat := if e.div = 0 then 256 else e.div.toNat

/-- R45: the entry fires in a cycle of this count. -/
def PoleEntry.firesIn (e : PoleEntry) (count : Nat) : Bool := decide (count % e.divN = e.offs.toNat)

/-- The sum over STRIKE entries of F/DIV exceeds 1,120 a second, F in mHz (R60, R63). -/
def poleBreaksLimit (f : Nat) (es : List PoleEntry) : Bool :=
  let strikes := es.filter fun e => decide (e.action = 1)
  decide (16 < strikes.length) ||
    decide ((1120000 : Rat) < strikes.foldl (fun a e => a + (f : Rat) / ((e.divN : Nat) : Rat)) 0)

def Wheel.sel (w : Wheel) : Nat := bitsAt w.ctrl.toNat 0 3

/-- F of R60, in mHz: 70 Hz for an edge or ALP source, PW_NOMINAL for free-run. -/
def Wheel.limitF (w : Wheel) : Nat := if w.sel = 4 then w.nominal.toNat else 70000

/-- R63: under free-run the pole in force breaks the strike limit. -/
def State.shedFree (s : State) : Bool := decide (s.wheel.sel = 4) && poleBreaksLimit s.wheel.limitF s.pole.entries

/-- The cut-list entry that reads a point for the strike at an angle. -/
def State.entryFor (s : State) (p angle : Nat) : Option CutEntry :=
  let pt := s.point p
  (tget {} s.scr.lists pt.src).entries.find? fun e => e.points.contains p && decide (s.strikeAngle e = angle)

/-- Breik ports that hold points of a course. -/
def State.breikPortsOf (s : State) (pts : List Nat) : List Nat :=
  (List.range 64).filter fun n => decide ((s.awl n).mode = 1) && pts.any fun p => decide ((s.point p).src = n)

/-- The port took part in the strike at an angle of a cycle (R51). -/
def AwlPort.took (p : AwlPort) (angle cycle : Nat) : Bool :=
  p.judged.any fun x => decide (x.1 = angle) && decide (x.2.1 = cycle) && x.2.2

/-- What is known of a port's part in a strike. -/
def AwlPort.judge (p : AwlPort) (angle cycle : Nat) (took : Bool) : AwlPort :=
  { p with judged := (angle, cycle, took) :: p.judged.filter fun x =>
      decide (cycle ≤ x.2.1 + 1) && !(decide (x.1 = angle) && decide (x.2.1 = cycle)) }

/-- The port misses the strike (R51), and an earlier strike's reads go on: this strike alone gets none.
[DEDUCED, log 30] -/
def State.missStrike (s : State) (n angle cycle : Nat) : State :=
  let counts := (s.awl n).life matches .search | .service | .unstable
  let s := s.onAwl n fun p => p.judge angle cycle false
  if counts then s.onWheel fun w => { w with missed := satInc w.missed } else s

/-- A port takes part when its trigger for this strike has been sent; otherwise it misses (R51, R110),
which counts while the port is searched, in service or unstable (R137); once for each strike (R50).
[DEDUCED, log 30] -/
def State.judgePort (s : State) (angle cycle at' n : Nat) : State :=
  let p := s.awl n
  if p.judged.any fun x => decide (x.1 = angle) && decide (x.2.1 = cycle) then s
  else
    match p.armed with
    | some (a, _) =>
      if a = angle then s.onAwl n fun p => { p.judge angle cycle true with strikeS := at' }
      else s.missStrike n angle cycle
    | none => s.missStrike n angle cycle

/-- A point waits for a read of this strike (R313). -/
def State.awaits (s : State) (p angle cycle : Nat) : Bool :=
  let pt := s.point p
  if pt.src < 64 then
    let port := s.awl pt.src
    if port.mode = 1 then port.took angle cycle && (s.entryFor p angle).isSome && (s.mark p).verified
    else decide (port.mode = 2) && decide (port.life ≠ .fenced)
      && (decide (port.sentIdCount = 0) || decide (pt.xfer = 1) || (s.entryFor p angle).isSome)
  else if pt.src < 128 then decide (bitsAt (s.tw (pt.src - 64)).cfg.toNat 0 2 = 1) && !(s.tw (pt.src - 64)).fenced && (s.entryFor p angle).isSome
  else decide (pt.src = 128)

/-- The value in force of a Tally or phase-wheel point (R251, R252, R473). -/
def State.localValue (s : State) (pt : Point) : Fl × State :=
  if pt.src = 129 then s.tallyOutput pt.addr pt.cmd
  else match pt.addr with
    | 0 => ((Fl.ofRat ((256000000 : Rat) / ((max s.wheel.period.toNat 1 : Nat) : Rat))).round32, s)
    | 1 => (Fl.ofRat s.wheel.phaseErr.toInt, s)
    | _ => (Fl.ofRat s.wheelReported.code, s)

/-- The field of a Tally or phase-wheel value, normalized (R248, R257). -/
def State.localReading (s : State) (pt : Point) : Option Fl × State :=
  let (v, s) := s.localValue pt
  match pt.field 0 32 (Fl.bits32 v).toNat with
  | some u => s.normalizeAt pt u
  | none => (none, s)

/-- Capture a Tally or phase-wheel point at the strike; an unconfigured string's stays absent. -/
def State.captureLocal (s : State) (angle count at' p : Nat) : State :=
  if s.pointAbsent p then s
  else
    match s.localReading (s.point p) with
    | (some y, s) => s.deliver angle count p { value := y, mid2 := 2 * at' }
    | (none, s) => s

/-- S of the last strike of a point's courses, or zero before the first: the capture instant of a Tally or
phase-wheel value (R266, R299). [DESIGN CHOICE, log 150] -/
def State.localInstant (s : State) (pt : Point) : Nat :=
  (List.range 16).foldl (fun a c => if bitAt pt.courses.toNat c then max a (((s.course c).strikes.head?.map (·.2.2)).getD 0) else a) 0

/-- Half of the 60 µs in which a channel is converted again: a conversion sampled less before S than
this lies nearest S (R252). -/
def convHalf : Nat := 7680

/-- A Cinch point takes a conversion sampled at `x.2`: it is delivered, or resolved without a value. -/
def State.captureConv (s : State) (angle count p : Nat) (x : Nat × Nat) : State :=
  let pt := s.point p
  match pt.field 0 12 x.1 with
  | none => s.resolvePoint angle count p
  | some u =>
    match s.normalizeAt pt u with
    | (some y, s) => s.deliver angle count p { value := y, mid2 := 2 * (x.2 : Int) }
    | (none, s) => s.resolvePoint angle count p

/-- At the strike a Cinch point takes the conversion that lies nearest S before it, where one does (R252). -/
def State.captureCinch (s : State) (angle count at' p : Nat) : State :=
  match (s.ports.conv.find? fun x => decide (x.1 = (s.point p).addr)).map (·.2) with
  | some x => if at' < x.2 + convHalf then s.captureConv angle count p x else s
  | none => s

/-- Hand the readings that waited for this strike to their points in course `c` (R213); the courses struck
at one angle each take them, the first counting (R264). -/
def State.releaseEarly (s : State) (c angle count : Nat) (first : Bool) : State :=
  let mine := s.ports.early.filter fun e => !e.bracket && decide (e.angle = angle) && decide (e.count = count)
  mine.foldl (fun s e => match e.reading with
    | some r => s.deliverTo [c] first angle count e.point r
    | none => s.resolveIn c angle count e.point) s

/-- The strike of one enabled course (R49, R312). [DESIGN CHOICE, log 29] -/
def State.strikeCourse (s : State) (idx c angle at' div : Nat) (first : Bool) : State :=
  let cycle := s.wheel.cycle
  let s := s.publishBank c 3
  let k := s.course c
  let s := s.abandonCopies c (!k.half)
  let pts := s.coursePoints c
  let s := s.initBank c pts k.cfg
  let s := (s.breikPortsOf pts).foldl (fun s n => s.judgePort angle cycle at' n) s
  let ns := s.wheel.count.toNat / div
  let due := pts.filter fun p =>
    s.isDue (s.point p) ns (match s.entryFor p angle with | some e => e.phase | none => 0)
  let n : Snap := { cfg := k.cfg, kerf := (s.kerfLimit c).1, angle := angle, cycle := cycle, count := s.wheel.count.toNat, at' := at'
                    period := s.wheel.period.toNat, pole := idx
                    wheel := s.wheelReported.code, points := pts, due := due
                    unresolved := due.filter fun p => s.awaits p angle cycle
                    joined := (s.aeloon.nodes.filter fun x => x.2.joined).map (·.1), okBefore := k.dueOk }
  let s := s.onCourse c fun k => { k with snap := some n, left := [], strikes := (angle, cycle, at') :: k.strikes.take 3 ++ (k.strikes.drop 3).filter k.awaitsStrike }
  let s := (due.filter fun p => decide (129 ≤ (s.point p).src)).foldl (fun s p => s.captureLocal angle cycle at' p) s
  let s := (due.filter fun p => decide ((s.point p).src = 128)).foldl (fun s p => s.captureCinch angle cycle at' p) s
  s.releaseEarly c angle cycle first

/-- A STRIKE entry fires (R49 to R52, R63): shed under brown-out or an overfull free-run pole, nothing
for a disabled course, one strike for equal angles. -/
def State.fireStrike (s : State) (idx : Nat) (e : PoleEntry) : State :=
  let c := bitsAt e.arg.toNat 0 4
  if !(s.course c).cfg.enabled then s
  else if s.warning || s.shedFree then s.onWheel fun w => { w with shed := satInc w.shed }
  else
    let cycle := s.wheel.cycle
    let shared := s.pole.lastStrike.bind fun m => if m.angle = e.angle.toNat ∧ m.cycle = cycle then some m.at' else none
    let at' := shared.getD s.now
    let s := s.onPole fun p => { p with lastStrike := some { angle := e.angle.toNat, cycle := cycle, at' := at' } }
    s.strikeCourse idx c e.angle.toNat at' e.divN shared.isNone

end Sys2Proof.Machine
end

