-- ==== Sys2Proof/Machine/Frame.lean ====
section
/-! DEFINITION. A Breik device frame as the Awl engine measures and classifies it (R82, R115 to R117). -/
namespace Sys2Proof.Machine

/-- Frame classes in the order of the status codes 0x0300 on; `ok` carries nothing (R117, R382). -/
inductive FrameClass where
  | noResponse | symbol | calRange | calDrift | checkFail | stale | misplaced | kindMismatch
  | unassigned | length | ok
deriving DecidableEq, Repr

def FrameClass.idx : FrameClass → Nat
  | .noResponse => 0 | .symbol => 1 | .calRange => 2 | .calDrift => 3 | .checkFail => 4 | .stale => 5
  | .misplaced => 6 | .kindMismatch => 7 | .unassigned => 8 | .length => 9 | .ok => 10

/-- The counter of R126. -/
def FrameClass.counter : FrameClass → Nat
  | .ok => 0
  | c => c.idx + 1

/-- The status of R382. -/
def FrameClass.status (c : FrameClass) : Nat := 0x300 + c.idx

/-- The search that drives the port: one that still waits for the wire does not yet (R134 step 1). -/
def AwlPort.searching (p : AwlPort) : Option Search := p.search.filter fun q => !(q.step matches .waitWire)

/-- The tick of the port now: in a search the attempt's own (R79). -/
def AwlPort.nowT (p : AwlPort) : Nat :=
  match p.searching with
  | some q => if p.tick = 0 then (if q.down then 64 else 32) else p.tickT
  | none => p.tickT

/-- The tick of a command: at 2 µs, STRIKE, REPEAT, WRITE and CONFIG use 1 µs (R87). -/
def AwlPort.cmdT (p : AwlPort) (code : Nat) : Nat := if p.tick = 4 ∧ 4 ≤ code then 256 else p.nowT

/-- What a calibration is multiplied by to stand for one at the port's own tick: a device answers REPEAT and WRITE at
1 µs where the port runs at 2 µs, and its clock is compared all the same (R82, R87). [DEDUCED, log 148] -/
def AwlPort.calScale (p : AwlPort) (code : Nat) : Nat := if p.tick = 4 ∧ 4 ≤ code then 2 else 1

/-- R82 step 2: within 25 % of T. -/
def calInRange (t cal : Nat) : Bool := decide (24 * t ≤ cal ∧ cal ≤ 40 * t)

/-- R82 step 2: within 1/64 of the last accepted calibration from the position. -/
def calDrifts (prev : Option Nat) (cal : Nat) : Bool :=
  match prev with
  | some p => decide (p < 64 * (max cal p - min cal p))
  | none => false

/-- R82 step 4. -/
def periodOk (cal p : Nat) : Bool := decide (11 * cal ≤ 64 * p ∧ 64 * p ≤ 43 * cal)

/-- R82 step 3: round(P / T') - 6, a nibble. -/
def nibbleOf (cal p : Nat) : Nat := min 15 (divRound (32 * p) cal - 6)

/-- Data nibbles of each kind, and its check nibbles (R90). -/
def kindData : Nat → Nat
  | 0 => 6 | 1 => 24 | 2 => 16 | _ => 8
def kindCheck : Nat → Nat
  | 0 => 2 | _ => 4

/-- A decoded frame: status nibble, data nibbles, received check. -/
structure Frame where
  status : Nat := 0
  data : List Nat := []
  check : List Nat := []
deriving DecidableEq, Repr

def Frame.kind (f : Frame) : Nat := f.status % 4
def Frame.bits (f : Frame) : Nat := nibblesVal f.data
def Frame.input (f : Frame) : List Nat := f.status :: f.data

/-- The check of a frame passes with a given prefix (R115). -/
def Frame.passes (f : Frame) (pos code seq : Nat) : Bool :=
  decide (breikCheck (f.kind ≠ 0) pos code seq f.input = nibblesVal f.check)

/-- Split decoded nibbles by the kind in the status nibble; `none` when their number is wrong. -/
def splitFrame : List Nat → Option Frame
  | [] => none
  | st :: r =>
    let d := kindData (st % 4)
    if r.length = d + kindCheck (st % 4) then some { status := st, data := r.take d, check := r.drop d } else none

/-- R117: the class of a frame against the expected prefix and kind (4 expects any kind); `k` times its calibration
compares with the one before. -/
def classify (t k : Nat) (prev : Option Nat) (pos code seq kind cal : Nat) (periods : List Nat) (lenBad : Bool) :
    FrameClass × Option Frame :=
  if !calInRange t cal then (.calRange, none)
  else if calDrifts prev (k * cal) then (.calDrift, none)
  else if !(periods.all (periodOk cal)) then (.symbol, none)
  else if lenBad then (.length, none)
  else
    match splitFrame (periods.map (nibbleOf cal)) with
    | none => (.length, none)
    | some f =>
      if f.passes pos code seq then (if kind = 4 || f.kind = kind then .ok else .kindMismatch, some f)
      else if f.kind = 2 && f.passes 0 code seq then (.unassigned, some f)
      else if f.passes (pos + 255) code seq || f.passes (pos + 1) code seq then (.misplaced, some f)
      else if f.passes pos code (seq + 15) then (.stale, some f)
      else (.checkFail, some f)

/-! ### Kinds asked for, and the command of a retry (R89, R94, R164) -/

/-- The kind of frame to expect from a position: standard where an extended one is asked of a device
without EXT (R94). -/
def AwlPort.expectKind (p : AwlPort) (pos asked : Nat) : Nat :=
  let ext := match p.searching with
    | some q => q.ext
    | none => p.ext
  if asked = 1 && !ext.contains pos then 0 else asked

/-- The kind of frame a PICK asks for: at 125 ns never a standard one (R89). -/
def AwlPort.sendKind (p : AwlPort) (kind : Nat) : Nat := if kind = 0 && p.fast then 1 else kind

/-- The command of a retry: REPEAT for a frame that came, the PICK or WRITE itself for one that did not (R164). -/
def retryCode (cls : FrameClass) (write : Bool) : Nat := if cls ≠ .noResponse then 5 else if write then 6 else 3

/-- Code and kind a retry goes out with. At 125 ns a standard frame is asked for by neither PICK nor REPEAT, and an
extended PICK goes out in place of both (R89). A raw REPEAT names no kind of frame: the PICK that follows its
NO_RESPONSE asks for a standard one (R164, R368). [DESIGN CHOICE, log 135, 152] -/
def AwlPort.retryCommand (p : AwlPort) (r : AwlRetry) : Nat × Nat :=
  if r.code = 5 && !(p.fast && decide (p.expectKind r.pos r.kind = 0)) then (5, r.kind)
  else if r.code = 6 then (6, r.kind)
  else (3, p.sendKind (if r.kind = 4 then 0 else r.kind))

end Sys2Proof.Machine
end

