-- ==== Sys2Proof/Machine/Work.lean ====
section
/-! DEFINITION. Field work of jobs: which port and point a job names (R362), its retries and order
(R289), how it completes (R379, R380), and the queues of a port (R288 to R290). -/
namespace Sys2Proof.Machine

def opReadNow : Nat := 0x08
def opWriteTarget : Nat := 0x09
def opRawXfer : Nat := 0x0A
def opChainSearch : Nat := 0x10
def opPortReinit : Nat := 0x11
def opPortFence : Nat := 0x12
def opPortUnfence : Nat := 0x13

/-- The job waits for a field transaction of its own (R370). -/
def Job.isWire (j : Job) : Bool := j.opcode = opReadNow || j.opcode = opWriteTarget || j.opcode = opRawXfer

def Job.pointIdx (j : Job) : Nat := bitsAt (j.word 1) 0 15

/-- The port a field job runs on: its point's, or the one it names. [DESIGN CHOICE, log 48] -/
def State.jobPort (s : State) (j : Job) : Nat :=
  if j.opcode = opReadNow || j.opcode = opWriteTarget then (s.point j.pointIdx).src else bitsAt (j.word 1) 0 8

/-- The retry count of a field job (R362, R368). -/
def State.jobRetry (s : State) (j : Job) : Nat :=
  if j.opcode = opRawXfer then bitsAt (j.word 2) 16 3
  else if bitAt (j.word 1) 19 then bitsAt (j.word 1) 16 3
  else (s.point j.pointIdx).retry

/-- The priority of a field job (R289, R291). -/
def State.jobPrio (s : State) (j : Job) : Nat :=
  if j.opcode = opRawXfer then 1
  else
    let pt := s.point j.pointIdx
    if pt.src < 64 then min pt.prio 2 else pt.prio

/-- The payload of a RAW_XFER, of its last attempt (R379). -/
def Job.rawPayload (j : Job) : List Byte := leBytes 2 j.got ++ [0, 0, 0, BitVec.ofNat 8 j.attempts, BitVec.ofNat 8 j.nibble]

/-- Fail a field job with the attempts it made (R379, R380). -/
def State.failWire (s : State) (slot status : Nat) (detail : Nat := 0) : State :=
  match s.job? slot with
  | none => s
  | some j =>
    let pl : List Byte := if j.opcode = opRawXfer then j.rawPayload
      else if j.opcode = opWriteTarget && decide ((s.point j.pointIdx).src < 64) then
        [0, 0, BitVec.ofNat 8 (j.result.getD 0xFF), 0, 0, BitVec.ofNat 8 j.attempts]
      else [0, 0, 0, 0, 0, BitVec.ofNat 8 j.attempts]
    s.complete slot status pl detail

/-- Put a field job into its port's queue, in fetch order, as a capping write when it is one (R288 to R290). -/
def State.queueWire (s : State) (slot : Nat) : State :=
  match s.job? slot with
  | none => s
  | some j =>
    let p := s.jobPort j
    let pt := s.point j.pointIdx
    let capping := j.opcode = opWriteTarget && decide (64 ≤ pt.src) && decide (pt.prio = 3)
    let put (l : List Nat) : List Nat := sortBy (fun k => ((s.job? k).map (·.order)).getD 0) (l ++ [slot])
    s.onPortQ p fun q => if capping then { q with capping := put q.capping } else { q with jobs := put q.jobs }

/-- Take a job off its port's queues. -/
def State.unqueue (s : State) (p slot : Nat) : State :=
  s.onPortQ p fun q => { q with jobs := q.jobs.filter (· != slot), capping := q.capping.filter (· != slot) }

/-- The target or position a field job addresses. -/
def State.jobAddr (s : State) (j : Job) : Nat :=
  if j.opcode = opRawXfer then bitsAt (j.word 1) 16 7 else (s.point j.pointIdx).addr

/-- An earlier job to the same target or position with the same priority has not started yet (R289). -/
def State.jobBehind (s : State) (p : Nat) (j : Job) : Bool :=
  s.link.jobs.any fun k => k.isWire && decide (k.order < j.order) && !k.posted && !k.draining && !k.aborted && !k.onWire && decide (k.attempts = 0)
    && decide (s.jobPort k = p) && decide (s.jobAddr k = s.jobAddr j) && decide (s.jobPrio k = s.jobPrio j)

/-- The jobs that wait for a port, in the order in which they start (R289). -/
def State.jobOrder (s : State) (p : Nat) : List Job :=
  sortBy (fun j => (3 - min 3 (s.jobPrio j)) * 2 ^ 64 + j.order) ((s.portQ p).jobs.filterMap s.job?)

/-- The job transactions in the port's own places, and those that wait in Foreman G (R288). [DESIGN CHOICE, log 134] -/
def State.jobPlaces (s : State) (p : Nat) : List Job := (s.jobOrder p).take 4
def State.jobsInG (s : State) (p : Nat) : List Job := (s.jobOrder p).drop 4

/-- The capping write that goes next: in fetch order, but not before an earlier one to its target (R289, R290). -/
def State.nextCapping (s : State) (p : Nat) : Option Job := ((s.portQ p).capping.filterMap s.job?).find? fun j => !s.jobBehind p j

/-- A capping write, or a ship write of Tally's, may go out on the port. -/
def State.cappingReady (s : State) (p : Nat) : Bool := (s.nextCapping p).isSome || !(s.portQ p).ship.isEmpty

/-- The points a Breik frame feeds: the port's valid points at the position whose command the frame
answers, standard points too when the frame is extended (R262). -/
def State.framePoints (s : State) (n pos kind : Nat) : List Nat :=
  (s.tab.points.filter fun x => x.2.valid && decide (x.2.src = n) && decide (x.2.addr = pos)
    && (decide (x.2.cmd = kind + 1) || (decide (x.2.cmd = 1) && decide (kind = 1)))).map (·.1)

/-- The points a read asked for, whatever kind of frame came: CMD 1, and CMD 2 when it was extended. -/
def State.askedPoints (s : State) (n pos kind : Nat) : List Nat := s.framePoints n pos kind

/-- The largest retry count among the points a transaction feeds (R164, R265). -/
def State.maxRetry (s : State) (ps : List Nat) : Nat := ps.foldl (fun a p => max a (s.point p).retry) 0

/-- The poll window of a port is open, or it belongs to no group, or to one that the pole never opens (R54, R55). -/
def State.windowOpen (s : State) (p : Nat) : Bool :=
  let b := bitsAt (tget 0 s.scr.pgrp (p / 4)).toNat (8 * (p % 4)) 8
  !bitAt b 7 || !bitAt s.pole.closed.toNat (b % 16)
    || !(s.pole.entries.any fun e => decide (e.action = 3) && decide (bitsAt e.arg.toNat 0 4 = b % 16))

/-- The time stamp bytes of a capture instant given as twice its tick (R20, R266). -/
def State.instantBytes (s : State) (i2 : Int) : List Byte := leBytes 8 (s.stampAt (i2 / 2).toNat)

/-- Complete a READ_NOW with the value of a reading, or with no value (R266, R379). [DEDUCED, log 32] -/
def State.finishRead (s : State) (slot : Nat) (r : Option Reading) (inst : List Byte) : State :=
  match s.job? slot with
  | none => s
  | some j =>
    match r with
    | none => s.complete slot 0 ([0, 0, 0, 0, BitVec.ofNat 8 qStale, BitVec.ofNat 8 j.attempts, 0, 0] ++ inst)
    | some r =>
      let pt := s.point j.pointIdx
      let (v, clamped) := clampTo (s.coef pt.coef) r.value
      let s := if clamped then s.scrCount pt.countPort 9 else s
      let q := qFresh + (if r.retried then qRetried else 0) + (if r.recovered then qRecovered else 0) + (if clamped then qClamped else 0)
      s.complete slot 0 (leBytes 4 v.toNat ++ [BitVec.ofNat 8 q, BitVec.ofNat 8 j.attempts, 0, 0] ++ inst)

/-- The most bytes an attempt of a RAW_XFER writes to RBUF: RLEN, and of a two-wire read the count byte and the PEC byte
beside it (R366, R367). -/
def Job.rawCap (j : Job) : Nat :=
  let rl := bitsAt (j.word 2) 8 8
  let proto := bitsAt (j.word 1) 8 8
  if 64 ≤ bitsAt (j.word 1) 0 8 ∧ 0 < rl then rl + b2n (decide (proto = 0x47 ∨ proto = 0x49)) + b2n (bitAt (j.word 2) 19) else rl

/-- What an attempt of a RAW_XFER received goes to RBUF (R366, R379); of a WRITE_TARGET its RESULT is kept. [DEDUCED, log 158] -/
def State.attemptSeen (s : State) (slot : Nat) (bs : List Byte) (nibble : Nat) (result : Option Nat) : State :=
  match s.job? slot with
  | none => s
  | some j =>
    if j.opcode = opRawXfer then
      let out := bs.take j.rawCap
      (if j.draining || out.isEmpty then s else s.writeHost (j.word 6 + j.word 7 * 2 ^ 32) out).onJob slot fun j => { j with got := out.length, nibble := nibble }
    else if j.opcode = opWriteTarget then s.onJob slot fun j => { j with result := result }
    else s

/-- Complete a RAW_XFER: its last attempt was OK (R366, R379). -/
def State.finishRaw (s : State) (slot : Nat) (bs : List Byte) (nibble : Nat) : State :=
  let s := s.attemptSeen slot bs nibble none
  match s.job? slot with
  | none => s
  | some j => s.complete slot 0 j.rawPayload

/-- A job makes no further attempt: it has been aborted, or belongs to an earlier link session (R370, R388). -/
def Job.ending (j : Job) : Bool := j.aborted || j.draining

/-! ### Planned lengths (R272) -/

def TwPort.rate (p : TwPort) : Nat := bitsAt p.cfg.toNat 2 2

/-- One bit period and the typical clock high of a rate (R178). -/
def bitPeriod : Nat → Nat
  | 0 => 2560 | 1 => 640 | _ => 256
def tHigh : Nat → Nat
  | 0 => 1280 | 1 => 256 | _ => 116

/-- R180: a transaction of so many bytes and repeated STARTs, without and with its bus-free time. -/
def twTime (rate bytes reps : Nat) : Nat := (9 * bytes + 1 + reps) * bitPeriod rate + (1 + reps) * tHigh rate
def twSlot (rate bytes reps : Nat) : Nat := twTime rate bytes reps + bitPeriod rate

/-- The strike Zone Write of a port, from START to STOP: address, command, ZL_LEN bytes and PEC (R180, R217). -/
def TwPort.zoneLen (t : TwPort) : Nat := twTime t.rate (2 + bitsAt t.zone.toNat 8 2 + b2n (bitAt t.zone.toNat 26)) 0

/-- Longest frame of a kind, in ticks of the port (R90). -/
def frameMax : Nat → Nat
  | 0 => 229 | 1 => 649 | 2 => 481 | _ => 313

/-- A ROLL of L devices (R89, R272). -/
def AwlPort.rollLen (p : AwlPort) (ext : Bool) (l : Nat) : Nat :=
  (if ext then 43 else 39) * p.tickT + l * ((frameMax (b2n ext) + 1) * p.tickT) + p.rt.toNat

/-- A PICK (code 3) or REPEAT (code 5) for a frame of a kind. -/
def AwlPort.pickLen (p : AwlPort) (code kind : Nat) : Nat :=
  let t := if p.tick = 4 ∧ 4 ≤ code then 256 else p.tickT
  ((if code = 5 then 97 else 110) + 9 + frameMax kind) * t + p.rt.toNat

/-- A WRITE, with its commit window in mode 1. -/
def AwlPort.writeLen (p : AwlPort) (mode : Nat) : Nat :=
  let t := if p.tick = 4 then 256 else p.tickT
  (290 + 9 + 313) * t + p.rt.toNat + (if mode = 1 then p.spuNvMs * 1000 * us else 0)

/-- An SPC read: the trigger, 50 ticks, the longest frame and its pause. -/
def AwlPort.sentLen (p : AwlPort) : Nat :=
  let w := p.sent.toNat
  let ticks4 := 4 * (bitsAt w 10 6 + (p.sentIdCount - 1) * bitsAt w 16 5 + 50)
    + 5 * (56 + 27 * (p.sentNibbles + 2)) + (if bitAt w 3 then 4 * 960 else 0)
  ticks4 * p.sentTick / 4

/-! ### Which entries of a cut list run (R267) -/

/-- STRIKE entries of the pole in force at an angle that fire in a cycle for an enabled course. -/
def State.firingStrikes (s : State) (angle c : Nat) : List PoleEntry :=
  s.pole.entries.filter fun x => decide (x.action = 1) && decide (x.angle.toNat = angle) && x.firesIn (s.wheel.countOf c)
    && (s.course (bitsAt x.arg.toNat 0 4)).cfg.enabled

/-- The STRIKE entries at an angle have fired in cycle `c` without striking: skipped or shed (R33, R52, R63). -/
def State.strikeVoid (s : State) (angle c : Nat) : Bool := s.strikePast angle c && (s.strikeAt2 angle c).isNone

/-- R267: the entry runs for the strike of cycle `c`; a Zone Write at each strike of its points' courses (R217). A
strike that was skipped or shed has no reads. [DEDUCED, log 128] -/
def State.entryDue (s : State) (p : Nat) (e : CutEntry) (c : Nat) : Bool :=
  let xs := s.firingStrikes e.angle c
  match e.kind with
  | .reserve => false
  | .zoneWrite => !s.strikeVoid e.angle c && xs.any fun x => e.points.any fun i => bitAt (s.point i).courses.toNat (bitsAt x.arg.toNat 0 4)
  | .strikeSpan => xs.any fun x => s.tab.points.any fun y => y.2.valid && decide (y.2.src = p) && bitAt y.2.courses.toNat (bitsAt x.arg.toNat 0 4)
  | _ => !s.strikeVoid e.angle c && xs.any fun x => e.points.any fun i =>
      bitAt (s.point i).courses.toNat (bitsAt x.arg.toNat 0 4) && s.isDue (s.point i) (s.wheel.countOf c / x.divN) e.phase

/-- A list's entries as the port runs them: a Zone Write in the form in force, so that its STOP falls at S (R217). -/
def State.listOf (s : State) (p : Nat) (l : CutList) : List CutEntry :=
  l.entries.map fun e => if e.kind = .zoneWrite then { e with off := -((s.tw (p - 64)).zoneLen : Int), len := (s.tw (p - 64)).zoneLen } else e

/-- The courses struck at a strike, or, before it, those that will be (R50, R264). -/
def State.struckCourses (s : State) (angle c : Nat) : List Nat :=
  if s.strikePast angle c then courseNumbers.filter fun k => (s.course k).strikes.any fun x => decide (x.1 = angle) && decide (x.2.1 = c)
  else (s.firingStrikes angle c).map fun x => bitsAt x.arg.toNat 0 4

/-- A point takes a read made for a strike: it belongs to a course struck there (R264). -/
def State.takesFrom (s : State) (angle c p : Nat) : Bool := (s.struckCourses angle c).any fun k => bitAt (s.point p).courses.toNat k

/-- Reads of a port's list that are due for the strikes of cycle `c` and have neither started nor been skipped. -/
def State.entriesLeft (s : State) (p c : Nat) : List (CutEntry × Nat) :=
  ((s.listOf p (tget {} s.scr.lists p)).zipIdx).filter fun x =>
    decide (x.1.kind ≠ .strikeSpan) && s.entryDue p x.1 c && decide (s.scr.swapCount ≤ c) && !(s.portQ p).ran.contains (x.2, c)

/-- Every queued cut-list transaction of a port is dropped: those of strikes past, in force or of the list
before, get no value (R144). -/
def State.dropEntries (s : State) (p : Nat) : State :=
  let c := s.wheel.cycle
  let mine := [c - 1, c].eraseDups.flatMap fun k => ((s.entriesLeft p k).filter fun x => s.strikePast x.1.angle k).map fun x => (x.1, x.2, k)
  let tail := (s.portQ p).tail
  let s := s.onPortQ p fun q => { q with ran := q.ran ++ mine.map fun x => (x.2.1, x.2.2), tail := [] }
  let s := mine.foldl (fun s x => s.failEntry x.1 x.2.2) s
  tail.foldl (fun s x => s.failEntry x.1 x.2) s

/-! ### Where entries lie, and the gaps between them (R274, R286, R287) -/

/-- So many ticks as angle units at the wheel's present rate. [DEDUCED, log 116] -/
def State.ticksAu (s : State) (d : Int) : Rat := (d : Rat) * 65536 / ((max s.wheel.period.toNat 1 : Nat) : Rat)

/-- An entry's planned length, a time (R272), in angle units at the present rate. -/
def State.plannedAu (s : State) (e : CutEntry) : Int := (s.ticksAu e.len).ceil

/-- Where a planned entry starts at the wheel's present rate: a strike-placed one keeps its time from
the strike, any other its angle (R274). [DEDUCED, log 39, 116] -/
def State.placedStart (s : State) (e : CutEntry) : Int :=
  if e.placed then e.angle + (s.ticksAu e.off).floor else e.start

/-- The cycle of the strike that an entry starting now belongs to. A Breik read starts no earlier than
its strike, when the conversion window closes, whatever angle it was planned at (R274, R286). -/
def State.entryCycle (s : State) (e : CutEntry) : Int :=
  (s.wheel.cycle : Int) + (((s.wheel.angleAt s.now : Int) + 16 - if e.placed then s.placedStart e else (e.angle : Int)) / 65536)

/-- The angle now, counted from the start of cycle `c`. -/
def State.angleFrom (s : State) (c : Int) : Int :=
  (s.wheel.angleAt s.now : Int) + 65536 * ((s.wheel.cycle : Int) - c)

/-- S of a strike in half ticks, or where it will lie as the wheel runs now. [DEDUCED, log 116] -/
def State.strikeS2 (s : State) (angle c : Nat) : Int :=
  (s.strikeAt2 angle c).getD (2 * (s.wheel.instantOf s.now ((angle : Rat) + 65536 * ((c : Int) - (s.wheel.cycle : Int) : Int)) : Int))

/-- The smallest kerf limit of the courses a Zone Write serves at its strike (R218). [DESIGN CHOICE, log 147] -/
def State.zoneKerf (s : State) (e : CutEntry) (c : Nat) : Nat :=
  let ks := ((s.firingStrikes e.angle c).map fun x => bitsAt x.arg.toNat 0 4).filter fun k => e.points.any fun i => bitAt (s.point i).courses.toNat k
  match ks with
  | [] => 0
  | k :: r => r.foldl (fun a j => min a (s.kerfLimit j).1) (s.kerfLimit k).1

/-- A Zone Write that stops at `stop` latches in time: by half the kerf after S (R218). -/
def State.zoneInTime (s : State) (e : CutEntry) (c stop : Nat) : Bool :=
  decide (250 * (2 * (stop : Int) - s.strikeS2 e.angle c) ≤ 64 * (s.zoneKerf e c : Int))

/-- The planned length of an entry still ends before its deadline (R286), a Zone Write's in time to latch (R218). -/
def State.entryFits (s : State) (e : CutEntry) (c : Int) : Bool :=
  if e.kind = .zoneWrite then s.zoneInTime e c.toNat (s.now + e.len)
  else
    match e.deadline with
    | some d => decide (s.angleFrom c + s.plannedAu e ≤ d)
    | none => true

/-- A Bracketed read B can no longer end before S (R216). -/
def State.lateB (s : State) (e : CutEntry) (c : Int) : Bool :=
  decide (e.policy = 1) && decide ((e.angle : Int) < s.angleFrom c + s.plannedAu e)

/-- The ticks until the latest start of an entry of cycle `c` (R287). [DEDUCED, log 116] -/
def State.latestStart (s : State) (e : CutEntry) (c : Nat) : Int :=
  if e.placed then s.strikeS2 e.angle c / 2 + e.off - s.now
  else
    let au := match e.deadline with
      | some d => d - s.plannedAu e
      | none => e.start
    (((au - s.angleFrom c : Int) : Rat) * ((max s.wheel.period.toNat 1 : Nat) : Rat) / 65536).floor

/-- The first STRIKE span or strike-placed transaction of a list, in au of its cycle. -/
def State.firstPlaced (s : State) (p : Nat) (l : CutList) : Option Int :=
  ((s.listOf p l).filter fun e => e.placed || e.kind = .strikeSpan).foldl (fun b e => match b with
    | some x => some (min x (s.placedStart e))
    | none => some (s.placedStart e)) none

/-- An entry of the list before still ends before the new list's first placed entry (R285). -/
def State.tailFits (s : State) (p : Nat) (e : CutEntry) : Bool :=
  match s.firstPlaced p (tget {} s.scr.lists p) with
  | some f => decide ((s.wheel.angleAt s.now : Int) + s.plannedAu e ≤ f)
  | none => true

/-- Cycles ahead that a gap transaction, 16 ms at the most, can reach. -/
def State.horizon (s : State) : Nat := 16 * ms / max s.wheel.period.toNat 1 + 1

/-- The entries a port still has before it, with the cycle of their strike: of the last cycle, this one and those
that a transaction can reach, and of the list before the last swap; of those whose time has come, the ones that still fit (R286). A pause of
the cut lists keeps back all of this cycle's (R554). -/
def State.upcoming (s : State) (p : Nat) : List (CutEntry × Nat) :=
  let c0 := s.wheel.cycle
  let list := (s.listOf p (tget {} s.scr.lists p)).zipIdx
  let of (c : Nat) : List (CutEntry × Nat) := (list.filter fun x =>
    s.entryDue p x.1 c && !(s.portQ p).ran.contains (x.2, c) && decide (s.scr.swapCount ≤ c)
      && (decide (c0 < c) || (!s.scr.paused && s.entryFits x.1 c))).map fun x => (x.1, c)
  let tail := (((s.portQ p).tail.zipIdx.filter fun x => !(s.portQ p).ran.contains (list.length + x.2, x.1.2)).map (·.1)).filter fun x =>
    !s.scr.paused && s.tailFits p x.1
  (((c0 - 1) :: (List.range (s.horizon + 1)).map (c0 + ·)).eraseDups.flatMap of) ++ tail

/-- The ticks until the latest start of the next due entry; `none` without one (R287). -/
def State.gapLeft (s : State) (p : Nat) : Option Int :=
  (s.upcoming p).foldl (fun best x =>
    let left := s.latestStart x.1 x.2
    match best with
    | some b => some (min b left)
    | none => some left) none

/-- A transaction of so many ticks ends within the gap. -/
def State.fitsGap (s : State) (p len : Nat) : Bool :=
  match s.gapLeft p with
  | some g => decide ((len : Int) ≤ g)
  | none => true

/-! ### How late a read may still be repeated (R216, R218) -/

/-- The next strike after that of an entry in any course of the entry's points: angle and cycle (R216). -/
def State.nextStrike (s : State) (e : CutEntry) (c : Nat) : Option (Nat × Nat) :=
  let mine := s.pole.entries.filter fun x => decide (x.action = 1) && (s.course (bitsAt x.arg.toNat 0 4)).cfg.enabled
    && e.points.any fun i => bitAt (s.point i).courses.toNat (bitsAt x.arg.toNat 0 4)
  (List.range 257).findSome? fun k =>
    (mine.filter fun x => x.firesIn (s.wheel.countOf (c + k)) && (decide (0 < k) || decide (e.angle < x.angle.toNat))).foldl
      (fun b x => match b with
        | some y => if x.angle.toNat < y.1 then some (x.angle.toNat, c + k) else b
        | none => some (x.angle.toNat, c + k)) none

/-- A repeated read that lasts to `stop` is still of use: read B before S, read A and Nearest before the next strike
of a course of its points (R216). -/
def State.readInTime (s : State) (e : CutEntry) (c stop : Nat) : Bool :=
  match e.policy with
  | 1 => decide (2 * (stop : Int) < s.strikeS2 e.angle c)
  | 3 => true
  | _ => match s.nextStrike e c with
    | some (a, k) => decide (2 * (stop : Int) ≤ s.strikeS2 a k)
    | none => true

/-- The planned length of a retry on an Awl port (R272). -/
def AwlPort.retryLen (a : AwlPort) (r : AwlRetry) : Nat :=
  if a.mode = 2 then a.sentLen
  else
    let (code, kind) := a.retryCommand r
    if code = 6 then a.writeLen r.wmode else a.pickLen code (if kind = 4 then 1 else kind)

/-- A retry fits the gap before the next due entry (R287). -/
def State.retryRoom (s : State) (n : Nat) (r : AwlRetry) : Bool := s.fitsGap n ((s.awl n).retryLen r)

/-- A SENT re-read is still of use, as a two-wire retry would be (R125, R216, R276). -/
def State.rereadInTime (s : State) (n : Nat) (r : AwlRetry) : Bool :=
  match r.use with
  | .read e c => decide ((s.awl n).mode ≠ 2) || s.readInTime e c (s.now + (s.awl n).retryLen r)
  | _ => true

end Sys2Proof.Machine
end

