-- ==== Sys2Proof/Machine/Chain.lean ====
section
/-! DEFINITION. Chain life (03): maps and matching (R131, R145), searches and their restarts (R134
to R140), the prefix of an unsettled chain (R153, R154), fencing and unfencing (R157 to R162). -/
namespace Sys2Proof.Machine

def Life.code : Life → Nat
  | .off => 0 | .unsearched => 1 | .search => 2 | .swapWait => 3 | .service => 4 | .unstable => 5 | .fenced => 6

def oneSecond : Nat := 256000000

/-- PT_FENCE_CFG fields in force. -/
def State.fenceBase (s : State) : Nat := bitsAt s.ports.fenceCfg.toNat 0 3
def State.fenceCap (s : State) : Nat := bitsAt s.ports.fenceCfg.toNat 3 3
def State.fenceAuto (s : State) : Bool := bitAt s.ports.fenceCfg.toNat 6

/-! ### Maps and matching -/

/-- Positions (from 1) that hold an identity. -/
def positionsOf (m : List Quad) (id : Quad) : List Nat :=
  (m.zipIdx.filter fun x => decide (x.1 = id)).map fun x => x.2 + 1

/-- The identity-list index of an identity, if a used entry holds it (R131, R253). [DESIGN CHOICE, log 131] -/
def State.identIndex (s : State) (id : Quad) : Option Nat :=
  (s.tab.idents.find? fun x => decide (x.2 = id) && decide (id ≠ 0)).map (·.1)

/-- R145: the address, verified and absent marks a point takes from a full map. -/
def matchPoint (m : List Quad) (idents : Tbl Quad) (pt : Point) : Nat × PointMark :=
  if pt.ident = 0x3FFF then
    if pt.addr ≤ m.length then (pt.addr, { verified := true }) else (pt.addr, { absent := true })
  else
    match positionsOf m (tget 0 idents pt.ident) with
    | [p] => (p, { verified := true })
    | [] => (pt.addr, { absent := true })
    | _ => (pt.addr, {})

/-- R154: under a prefix map a point is verified where the map holds it at its own position. A point already
marked ABSENT stays so, and none becomes so (R147). [DESIGN CHOICE, log 132] -/
def matchPrefix (m : List Quad) (idents : Tbl Quad) (pt : Point) (old : PointMark) : PointMark :=
  let x := matchPoint m idents pt
  let v := x.2.verified && decide (x.1 = pt.addr) && decide (1 ≤ pt.addr ∧ pt.addr ≤ m.length)
  { verified := v, absent := old.absent && !v }

/-! ### Searches -/

/-- The engine sends a trigger: the sequence increments first (R84). -/
def AwlPort.trigger (p : AwlPort) : AwlPort := { p with seq := p.seq + 1 }

/-- The check of a WRITE: position, register, value and mode under its position (R85, R115). -/
def AwlCmd.writeCheck (c : AwlCmd) (seq : Nat) : Nat :=
  breikCheck false c.pos 6 seq ([c.pos / 16, c.pos, c.wreg / 16, c.wreg, c.wval / 4096, c.wval / 256, c.wval / 16, c.wval, c.wmode].map (· % 16))

/-- The command that awaits its answer; a WRITE carries its check. -/
def AwlPort.send (p : AwlPort) (c : AwlCmd) : AwlPort :=
  let p := p.trigger
  { p with cmd := some { c with seq := p.seq.toNat }
           sentCheck := if c.code = 6 then c.writeCheck p.seq.toNat else p.sentCheck }

/-- CONFIG ASSIGN with the chain length: operation 1, its argument, and their check under 0x00 (R86, R115). -/
def AwlPort.assign (p : AwlPort) (n : Nat) : AwlPort :=
  let p := p.trigger
  { p with sentCheck := breikCheck false 0 7 p.seq.toNat [1, n / 16 % 16, n % 16] }

/-- Begin an attempt: RESET goes out, presence is awaited from its end (R103, R134 step 2). -/
def AwlPort.beginAttempt (p : AwlPort) (now : Nat) (q : Search) : AwlPort :=
  let t := if p.tick = 0 then (if q.down then 64 else 32) else p.tickT
  { p with cmd := none, spu := 0, calPrev := []
           search := some { q with step := .presence, n := 0, lastPulse := none, resetEnd := now + max (64 * us) (48 * t)
                                   idx := 1, repeats := 0, found := [], ext := [] } }

/-- The wire transaction, the trigger and any pull-up window of the port have ended (R72, R134 step 1). -/
def AwlPort.wireIdle (p : AwlPort) : Bool := p.cmd.isNone && decide (p.spu = 0) && p.armed.isNone

/-- No compile begun before includes a map of this port found later (R139, R149). -/
def Scriber.forgetMap (c : Scriber) (n : Nat) : Scriber :=
  { c with ready := c.ready.map fun r => { r with maps := r.maps.filter (· != n) }
           basis := c.basis.map fun b => { b with awl := tmod {} b.awl n fun p => { p with waiting := none } } }

/-- Life becomes SEARCH, and RESET goes out once the executing transaction has ended (R134 steps 1, 2). A search
entered from UNSTABLE makes one attempt (R140). A prefix map that waits for its boundary still takes effect there
(R154); a prefix read under way is given up, and its jobs go on with this search. [DESIGN CHOICE, log 48] -/
def State.startSearch (s : State) (n cause : Nat) : State :=
  (s.onScr fun c => c.forgetMap n).onAwl n fun p =>
    let q : Search := { cause := cause, single := decide (p.life = .unstable) }
    let p := { p with life := .search, waiting := none, changeCause := 0, noResp := [], misRun := 0, echoRun := 0, nvBusy := []
                      pickUp := [], retries := [], sweepLeft := 0, nextAt := none, pfx := 0 }
    if p.wireIdle then p.beginAttempt s.now q else { p with search := some q }

/-- R150: RAW_XFER jobs to a position fail at the start of a search; the port's other jobs are held. -/
def State.holdJobs (s : State) (n : Nat) : State :=
  let waiting := (s.portQ n).jobs ++ (s.awl n).heldWrites
  let s := (s.onPortQ n fun q => { q with jobs := [] }).onAwl n fun p => { p with heldWrites := [] }
  waiting.foldl (fun s slot => match s.job? slot with
    | some j => if j.opcode = opRawXfer then s.failWire slot 0x204 else s.onAwl n fun p => { p with held := p.held ++ [slot] }
    | none => s) s

/-- Enter SEARCH from any cause, with what R144 and R150 say of the port's work: retries of jobs fail, retries
and queued entries of the cut list give no value, host work is held. -/
def State.enterSearch (s : State) (n cause : Nat) : State :=
  let rs := (s.awl n).retries
  let s := rs.foldl (fun s r => match r.use with
    | .job slot => s.failWire slot (0x300 + r.lastClass) (((s.job? slot).map (·.attempts)).getD 0)
    | .read e count => s.failEntry e count
    | _ => s) s
  ((s.dropEntries n).holdJobs n).startSearch n cause

/-- The compile that every search, fence and unfence starts (R281). -/
def State.compilePlain (s : State) : State := s.requestCompile .plain

/-- A search has found its map: SWAP_WAIT until the boundary after its compile (R138, R139, R145). One that ran
at 125 ns clears TICK_DOWN (R79). -/
def State.searchDone (s : State) (n : Nat) (q : Search) : State :=
  let ids := (List.range q.n).map fun i => tget 0 q.found (i + 1)
  (s.onAwl n fun p => { p with life := .swapWait, cmd := none, search := none
                               tickDown := q.down || (p.tickDown && decide (p.tick ≠ 0))
                               waiting := some { map := ids, ext := q.ext, cause := q.cause } }).compilePlain

/-- R153: the prefix is known; its map takes effect at the next boundary, with the jobs of its search (R151, R154). -/
def State.prefixDone (s : State) (n : Nat) (q : Search) (k : Nat) : State :=
  (s.onAwl n fun p => { p with cmd := none, search := none
                               searchJobs := []
                               prefixWait := some { map := p.map.take k, ext := p.ext, counts := q.counts, lastStep := q.lastStep
                                                    cause := q.cause, jobs := p.searchJobs } }).compilePlain

/-- The UNSTABLE interval after one more failed search: the base first, doubled up to the cap after (R155). -/
def State.nextUnstable (s : State) (n : Nat) : Nat :=
  match (s.awl n).unstableExp with
  | none => s.fenceBase
  | some e => min (e + 1) s.fenceCap

/-- R153: entry to UNSTABLE; RESET goes out for the prefix read, and the next attempt is timed (R155). -/
def State.enterUnstable (s : State) (n : Nat) (q : Search) : State :=
  let e := s.nextUnstable n
  s.onAwl n fun p =>
    let p := ({ p with life := .unstable, unstableExp := some e, nextAt := some (s.now + 2 ^ e * oneSecond) }).beginAttempt s.now q
    { p with search := p.search.map fun x => { x with step := .prePresence } }

/-- A step of the search has failed (R136, R140): restart after 20 ms, or UNSTABLE. -/
def State.searchFail (s : State) (n step : Nat) (counted : Bool) : State :=
  match (s.awl n).search with
  | none => s
  | some q =>
    let q := { q with counts := q.counts ++ [if counted then q.n else 0xFF], lastStep := step }
    if q.single || decide (3 ≤ q.restarts) then s.enterUnstable n q
    else s.onAwl n fun p => { p with cmd := none, search := some { q with restarts := q.restarts + 1, step := .waitRestart } }

/-- A presence or probe fault (R106): counted; a prefix read then has k = 0 (R153). -/
def State.presenceBad (s : State) (n : Nat) (counted : Bool) : State :=
  let s := s.awlCount n 16
  match (s.awl n).search with
  | none => s
  | some q =>
    match q.step with
    | .prePresence => s.prefixDone n q 0
    | .preProbe => s.prefixDone n q 0
    | _ => s.searchFail n 2 counted

/-- PICK of kind identity at a position (R134 step 4, R153). -/
def AwlPort.pickId (p : AwlPort) (use : AwlUse) (pos : Nat) : AwlPort :=
  p.send { use := use, code := 3, pos := pos, kind := 2 }

/-- Presence and probe have passed: steps 3 and 4, or the ASSIGN and reads of a prefix (R134, R153). No limit
of RT but that of TICK 0 has a consequence (R78, R79). [DESIGN CHOICE, log 133] -/
def State.afterProbe (s : State) (n rt : Nat) : State :=
  match (s.awl n).search with
  | none => s
  | some q =>
    let s := s.onAwl n fun p => { p with rt := BitVec.ofNat 12 rt, rtDue := none, echoes := [] }
    match q.step with
    | .preProbe =>
      let p := s.awl n
      if p.everSearched && decide (1 ≤ p.map.length) then
        s.onAwl n fun p => (({ p with search := some { q with step := .preRead, idx := 1, repeats := 0 } }).assign q.n).pickId (.prefixId 1) 1
      else (s.onAwl n fun p => p.assign q.n).prefixDone n q 0
    | _ =>
      s.onAwl n fun p =>
        let down := q.down || (decide (p.tick = 0) && (decide (48 < q.n) || decide (332 < rt)))
        ({ p with tickDown := p.tickDown || down, search := some { q with step := .identity, down := down, idx := 1, repeats := 0 } }).pickId (.searchId 1) 1

/-- An identity of step 4 has come: the next one, or ASSIGN and the configuration reads (R134). -/
def State.gotIdentity (s : State) (n : Nat) (id : Nat) : State :=
  match (s.awl n).search with
  | none => s
  | some q =>
    let q := { q with found := tinsert q.found (q.n + 1 - q.idx) (BitVec.ofNat 64 id), repeats := 0 }
    s.onAwl n fun p =>
      if q.idx < q.n then
        ({ p with search := some { q with idx := q.idx + 1 } }).pickId (.searchId (q.idx + 1)) (q.idx + 1)
      else
        (({ p with search := some { q with step := .config, idx := 1 } }).assign q.n).send { use := .searchCfg 1, code := 3, pos := 1, kind := 3 }

/-- Step 6: the configuration frame of a position shows what R134 wants. -/
def configGood (bits p n : Nat) : Bool :=
  decide (bitsAt bits 25 7 = p) && decide (bitsAt bits 18 7 = n) && decide (bitsAt bits 8 7 = n - p)
    && (bitAt bits 15 == decide (p = n))

/-- A configuration frame of step 6 has come (R134, R79). -/
def State.gotConfig (s : State) (n bits : Nat) : State :=
  match (s.awl n).search with
  | none => s
  | some q =>
    let p := s.awl n
    let fast := decide (p.tick = 0) && !q.down
    if !configGood bits q.idx q.n then s.searchFail n 6 true
    else if fast && !bitAt bits 17 then
      (s.onAwl n fun p => { p with tickDown := true, search := some { q with down := true } }).searchFail n 6 true
    else
      let q := { q with ext := if bitAt bits 16 then q.ext ++ [q.idx] else q.ext, repeats := 0 }
      s.onAwl n fun p =>
        if q.idx < q.n then
          ({ p with search := some { q with idx := q.idx + 1 } }).send { use := .searchCfg (q.idx + 1), code := 3, pos := q.idx + 1, kind := 3 }
        else
          ({ p with search := some { q with step := .roll, idx := 1 } }).send
            { use := .searchRoll, code := if fast then 2 else 1, pos := 1, kind := if fast then 1 else 0, isRoll := true }

/-- An identity of the prefix read has come (R153). -/
def State.gotPrefix (s : State) (n id : Nat) : State :=
  match (s.awl n).search with
  | none => s
  | some q =>
    let p := s.awl n
    match p.map[q.idx - 1]? with
    | some e =>
      if e = BitVec.ofNat 64 id then
        if q.idx < min p.map.length q.n then
          s.onAwl n fun p => ({ p with search := some { q with idx := q.idx + 1, repeats := 0 } }).pickId (.prefixId (q.idx + 1)) (q.idx + 1)
        else s.prefixDone n q q.idx
      else s.prefixDone n q (q.idx - 1)
    | none => s.prefixDone n q (q.idx - 1)

/-- A frame of steps 4, 6 or of the prefix read was not OK. A frame missing from the PICK of step 4 or 6
fails the step at once; any other position gets up to two REPEATs, an unanswered one counting as one of
the two (R134, R153). [DEDUCED, log 125] -/
def State.searchFrameBad (s : State) (n : Nat) (c : AwlCmd) (arrived : Bool) : State :=
  match (s.awl n).search with
  | none => s
  | some q =>
    if (arrived || decide (0 < q.repeats) || q.step matches .preRead) && decide (q.repeats < 2) then
      s.onAwl n fun p => ({ p with search := some { q with repeats := q.repeats + 1 } }).send { c with code := 5 }
    else
      match c.use with
      | .searchId _ => s.searchFail n 4 true
      | .searchCfg _ => s.searchFail n 6 true
      | .prefixId k => s.prefixDone n q (k - 1)
      | _ => s

/-! ### Fencing (R157 to R163, R209, R210) -/

/-- Every queued and held host job of a port fails (R158). [DESIGN CHOICE, log 47] -/
def State.failPortJobs (s : State) (p status : Nat) : State :=
  let q := s.portQ p
  let a := s.awl p
  let held := if p < 64 then a.held ++ a.heldWrites ++ (a.prefixWait.map (·.jobs)).getD [] ++ a.searchJobs else []
  let s := if q.ship.isEmpty then s else s.onPorts fun x => { x with shipResult := some false }
  let s := s.onPortQ p fun q => { q with jobs := [], capping := [], ship := [] }
  let s := s.onAwl p fun a => { a with held := [], heldWrites := [], searchJobs := [], prefixWait := a.prefixWait.map fun w => { w with jobs := [] } }
  (q.jobs ++ q.capping ++ held).foldl (fun s slot => s.failWire slot status) s

/-- Attempts of a job are counted as they end (R379). -/
def State.countAttempt (s : State) (use : AwlUse) : State :=
  match use with
  | .job slot => s.onJob slot fun j => { j with attempts := j.attempts + 1, onWire := false }
  | _ => s

/-- The transaction executing on an Awl port ends as failed (R158). -/
def State.cutOffAwl (s : State) (n status : Nat) : State :=
  let p := s.awl n
  let s := match p.cmd with
    | some c => match c.use with
      | .read e count => s.failEntry e count
      | .job slot => (s.countAttempt c.use).failWire slot status
      | _ => s
    | none => s
  let s := p.retries.foldl (fun s r => match r.use with
    | .read e count => s.failEntry e count
    | .job slot => s.failWire slot status
    | _ => s) s
  s.onAwl n fun p => { p with cmd := none, retries := [], pickUp := [], armed := none, spu := 0, search := none, watch := false, sweepLeft := 0 }

/-- The transaction executing on a two-wire port ends as failed (R158, R210); a Zone Write that was under way did not
complete in time (R218). -/
def State.cutOffTw (s : State) (m status : Nat) : State :=
  let p := s.tw m
  let s := match p.xfer with
    | some x => match x.use with
      | .job slot _ => s.onJob slot fun j => { j with attempts := j.attempts + 1 }
      | _ => s
    | none => s
  let one (s : State) (x : TwXfer) : State := match x.use with
    | .read e count => s.failEntry e count
    | .zone e count => (s.bklCount m 22).failEntry e count
    | .job slot _ => s.failWire slot status
    | .ship _ _ => s.onPorts fun p => { p with shipResult := some false }
    | _ => s
  ((p.xfer.toList ++ p.retries).foldl one s).onTw m fun p => { p with xfer := none, retries := [], watch := false, segFree := false
                                                                      lpi := false, waking := false, target := false, zoneStop := none, timeoutAt := none }

/-- The jobs that wait for an unfence (R160). -/
def State.finishUnfence (s : State) (p status : Nat) : State :=
  let js := if p < 64 then (s.awl p).unfenceJobs else (s.tw (p - 64)).unfenceJobs
  let s := (s.onAwl p fun a => { a with unfenceJobs := [] }).onTw (p - 64) fun a => if 64 ≤ p then { a with unfenceJobs := [] } else a
  js.foldl (fun s slot => s.complete slot status) s

def State.portMode (s : State) (p : Nat) : Nat :=
  if p < 64 then (s.awl p).mode else bitsAt (s.tw (p - 64)).cfg.toNat 0 2

def State.portFenced (s : State) (p : Nat) : Bool :=
  if p < 64 then decide ((s.awl p).life = .fenced) else (s.tw (p - 64)).fenced

/-- R158: fence a port. `again` is a failed unfence attempt: no event, the interval doubled (R160,
R161, R210), no new compile (R281). Unless the cause is HOST the next attempt is timed, for AUTO to allow. -/
def State.fencePort (s : State) (p cause detail : Nat) (again : Bool := false) : State :=
  let auto := s.fenceAuto && decide (cause ≠ 4)
  let e0 := if p < 64 then (s.awl p).fenceExp else (s.tw (p - 64)).fenceExp
  let e := if again then min (max e0 s.fenceBase + 1) s.fenceCap else max e0 s.fenceBase
  let next := if cause = 4 then none else some (s.now + 2 ^ e * oneSecond)
  let s := if p < 64 then s.cutOffAwl p 0x206 else s.cutOffTw (p - 64) 0x206
  let s := if p < 64 then
      s.onAwl p fun a => { a with life := .fenced, fenceCause := BitVec.ofNat 3 cause, nextAt := next, fenceExp := e, waiting := none, prefixWait := none, unfenced := none
                                  tries := if again then satInc a.tries else 0
                                  failedTries := if again then a.failedTries + 1 else 0 }
    else
      s.onTw (p - 64) fun a => { a with fenced := true, fenceCause := BitVec.ofNat 3 cause, nextAt := next, fenceExp := e, returning := none
                                        tries := if again then satInc a.tries else 0
                                        failedTries := if again then a.failedTries + 1 else 0 }
  let s := s.failPortJobs p 0x206
  let s := s.finishUnfence p 0x206
  if again then s else
    (s.post 0x020 p ([BitVec.ofNat 8 cause, BitVec.ofNat 8 (s.portMode p)] ++ leBytes 2 (if auto then 2 ^ e else 0) ++ leBytes 4 detail)).compilePlain

/-- Payload of PORT_UNFENCED (R168). -/
def unfencedPayload (cause : Nat) (byJob : Bool) (tries gen entered : Nat) : List Byte :=
  [BitVec.ofNat 8 cause, BitVec.ofNat 8 (b2n byJob)] ++ leBytes 2 (min tries 65535) ++ leBytes 2 gen ++ [BitVec.ofNat 8 entered]

end Sys2Proof.Machine
end

