-- ==== Sys2Proof/Machine/Awl.lean ====
section
/-! DEFINITION. The Awl engine: the answers to its commands and what each frame becomes (R94 to
R102, R117), observations that trigger a re-scribe (R141, R144), retries and the check-only
corruption rule (R164 to R167), strikes, echoes and conversion windows (R109 to R113), presence and
the delay probe (R105 to R107), and SENT reception (R120 to R125). -/
namespace Sys2Proof.Machine

/-! ### Changes in service -/

/-- A change is detected in SERVICE or SWAP_WAIT: the first observation names the cause (R138, R141). -/
def State.noteChange (s : State) (n cause : Nat) : State :=
  s.onAwl n fun p => if p.life = .service && decide (p.changeCause = 0) then { p with changeCause := cause } else p

/-! ### Feeding points -/

/-- The reading of a point from a Breik frame: its field, verified position, latch instant (R147,
R248, R262, R299). -/
def State.breikReading (s : State) (n p : Nat) (f : Frame) (retried recovered : Bool) : Option Reading × State :=
  let port := s.awl n
  let pt := s.point p
  let extra := if pt.cmd = 1 && decide (f.kind = 1) then 72 else 0
  match pt.field extra (4 * f.data.length) f.bits with
  | none => (none, s)
  | some u =>
    match s.normalizeAt pt u with
    | (some y, s) =>
      let inst : Int := 2 * (port.strikeS : Int) + port.rtLast.toNat - port.rt.toNat
      (some { value := y, mid2 := port.latch.getD inst.toNat, retried := retried, recovered := recovered }, s)
    | (none, s) => (none, s)

/-- Feed the points of a frame read for a strike (R262, R264); a port that missed the strike, and a
position not verified, give none (R51, R147). -/
def State.feedFrame (s : State) (n : Nat) (e : CutEntry) (count pos asked : Nat) (f : Option Frame) (retried recovered : Bool) : State :=
  s.underStrike count fun s => ((s.askedPoints n pos asked).filter fun p => s.takesFrom (s.strikeAngle e) count p).foldl (fun s p =>
    let angle := s.strikeAngle e
    match f with
    | none => s.feedPoint 0 angle count p none
    | some f =>
      if (s.awl n).took angle count && (s.mark p).verified && decide ((s.point p).cmd ≤ f.kind + 1) then
        let (r, s) := s.breikReading n p f retried recovered
        s.feedPoint 0 angle count p r
      else s.feedPoint 0 angle count p none) s

/-- The transaction and any pull-up window have ended: a detected change now starts the search, and a search
that waited for the wire begins (R72, R134, R144). [DEDUCED, log 41; DESIGN CHOICE, log 48] -/
def State.settleChange (s : State) (n : Nat) : State :=
  let p := s.awl n
  if !p.wireIdle then s
  else if p.life = .service && decide (p.changeCause ≠ 0) then s.enterSearch n p.changeCause
  else match p.search with
    | some q => if q.step matches .waitWire then s.onAwl n fun p => p.beginAttempt s.now q else s
    | none => s

/-! ### Completing the transaction's use -/

/-- The commit window after the answer to a WRITE with mode 1 and RESULT 0x00, a retried one too (R71, R102);
none under the brown-out warning (R52). -/
def State.openCommit (s : State) (n : Nat) (c : AwlCmd) (result : Nat) : State :=
  if result = 0 && decide (c.wmode = 1) && !s.warning then
    s.onAwl n fun p => { p with spu := 2, spuUntil := s.now + p.spuNvMs * 1000 * us }
  else s

/-- A frame of a job is OK: READ_NOW, WRITE_TARGET and RAW_XFER each take their part (R266, R367, R379).
[DEDUCED, log 32] -/
def State.awlJobOk (s : State) (n slot : Nat) (c : AwlCmd) (f : Frame) (retried recovered : Bool) : State :=
  match s.job? slot with
  | none => s
  | some j =>
    if j.opcode = opReadNow then
      let inst := match (s.awl n).latch with
        | some l => s.instantBytes l
        | none => leBytes 8 0
      let (r, s) := if (s.point j.pointIdx).cmd ≤ f.kind + 1 then s.breikReading n j.pointIdx f retried recovered else (none, s)
      s.finishRead slot r inst
    else if j.opcode = opWriteTarget then
      let res := f.bits % 256
      (s.openCommit n c res).complete slot 0 (leBytes 2 (bitsAt f.bits 8 16) ++ [BitVec.ofNat 8 res, 0, 0, BitVec.ofNat 8 j.attempts])
    else
      (s.openCommit n c (f.bits % 256)).complete slot 0 j.rawPayload

/-- The bytes of a frame as a RAW_XFER gives them: input nibbles, then the check (R367). -/
def Frame.rawBytes (f : Frame) : List Byte := (packNibbles f.input ++ packNibbles f.check).map (BitVec.ofNat 8)

/-- What a job's attempt has received, none where no whole frame came (R367, R379). -/
def State.frameSeen (s : State) (use : AwlUse) (f : Option Frame) : State :=
  match use with
  | .job slot => match f with
    | some f => s.attemptSeen slot f.rawBytes f.status (some (f.bits % 256))
    | none => s.attemptSeen slot [] 0 none
  | _ => s

/-- A job's transaction has failed after its retries (R192, R380). -/
def State.awlJobFail (s : State) (slot lastClass : Nat) : State :=
  match s.job? slot with
  | none => s
  | some j =>
    if j.aborted then s.failWire slot 8
    else s.failWire slot (0x300 + lastClass) j.attempts

/-- The retries a frame is owed: none once a change is detected or a search waits (R144), or the job is aborted (R370). -/
def State.retriesOwed (s : State) (n : Nat) (use : AwlUse) (pos asked : Nat) : Nat :=
  if (s.awl n).changeCause ≠ 0 ∨ (s.awl n).search.isSome then 0
  else match use with
    | .read _ _ => s.maxRetry (s.askedPoints n pos asked)
    | .job slot => match s.job? slot with
      | some j => if j.ending then 0 else s.jobRetry j
      | none => 0
    | _ => 0

/-- NO_RESPONSE of a whole transaction addressed to a position, or an answer from it (R141). -/
def State.noteResponse (s : State) (n pos : Nat) (answered : Bool) : State :=
  if answered then s.onAwl n fun p => { p with noResp := tset 0 p.noResp pos 0 }
  else
    let k := tget 0 (s.awl n).noResp pos + 1
    let s := s.onAwl n fun p => { p with noResp := tset 0 p.noResp pos k }
    if 3 ≤ k then s.noteChange n 5 else s

/-- No retry passes, or none is owed: the frame is given up (R164). -/
def State.giveUp (s : State) (n : Nat) (use : AwlUse) (pos asked lastClass : Nat) (addressed : Bool) : State :=
  let s := if addressed then s.noteResponse n pos (lastClass ≠ 0) else s
  match use with
  | .read e count => s.feedFrame n e count pos asked none false false
  | .job slot => s.awlJobFail slot lastClass
  | _ => s

/-- The first attempt of a frame is not OK: queue its retry, or give it up (R164). -/
def State.queueRetry (s : State) (n : Nat) (c : AwlCmd) (asked : Nat) (cls : FrameClass) (f : Option Frame) : State :=
  let left := s.retriesOwed n c.use c.pos asked
  if left = 0 then s.giveUp n c.use c.pos asked cls.idx (!c.isRoll)
  else
    let write := decide (c.code = 6)
    let r : AwlRetry := { write := write, use := c.use, code := retryCode cls write, pos := c.pos, kind := asked, wreg := c.wreg, wval := c.wval, wmode := c.wmode
                          left := left, firstCheck := decide (cls = .checkFail), lastClass := cls.idx
                          failed := match f with | some f => if cls = .checkFail then [f.input] else [] | none => [] }
    s.onAwl n fun p => { p with retries := p.retries ++ [r] }

/-- A retry has been answered, or not: R164's outcome table. -/
def State.retryResult (s : State) (n : Nat) (c : AwlCmd) (cls : FrameClass) (f : Option Frame) : State :=
  match (s.awl n).retries with
  | [] => s
  | r :: rest =>
    match cls, f with
    | .ok, some f =>
      let equal := r.firstCheck && r.failed.contains f.input
      let s := if r.firstCheck then s.awlCount n (if equal then 18 else 19) else s
      let s := (s.onAwl n fun p => { p with retries := rest }).noteResponse n r.pos true
      match r.use with
      | .read e count => s.feedFrame n e count r.pos r.kind (some f) (!equal) equal
      | .job slot => s.awlJobOk n slot c f (!equal) equal
      | _ => s
    | _, _ =>
      let r := { r with left := r.left - 1, lastClass := cls.idx
                        code := retryCode cls r.write
                        failed := match f with | some f => if cls = .checkFail then r.failed ++ [f.input] else r.failed | none => r.failed }
      let owed := s.retriesOwed n r.use r.pos r.kind
      if r.left = 0 || decide (owed = 0) then
        (s.onAwl n fun p => { p with retries := rest }).giveUp n r.use r.pos r.kind cls.idx true
      else s.onAwl n fun p => { p with retries := r :: rest }

/-! ### The frames of a ROLL -/

/-- A ROLL has ended with or without its count (R99, R141). [DESIGN CHOICE, log 31] -/
def State.endRoll (s : State) (n : Nat) (c : AwlCmd) (countBad : Bool) : State :=
  let s := if countBad then (s.awlCount n 11).noteChange n 2 else s
  let run := if c.misplaced then (s.awl n).misRun + 1 else 0
  let s := s.onAwl n fun p => { p with misRun := run, cmd := none }
  if 2 ≤ run then s.noteChange n 6 else s

/-- Start the next PICK of a ROLL that ended early, while its slot lasts (R98); positions not
reached get no value. [DESIGN CHOICE, log 31] -/
def State.nextPickUp (s : State) (n : Nat) : State :=
  let p := s.awl n
  match p.pickUp, p.cmd with
  | pos :: rest, some c =>
    match c.use with
    | .read e count =>
      if (s.wheel.angleAt s.now : Int) + (if e.start < (s.wheel.angleAt s.now : Int) - 32768 then -65536 else 0) < e.stop then
        s.onAwl n fun p => ({ p with pickUp := rest }).send { c with code := 3, pos := pos, kind := p.sendKind c.kind, isRoll := false, isRetry := false }
      else
        let s := (pos :: rest).foldl (fun s q => s.feedFrame n e count q c.kind none false false) s
        s.onAwl n fun p => { p with pickUp := [], cmd := none }
    | _ => s.onAwl n fun p => { p with pickUp := [], cmd := none }
  | _, _ => s.onAwl n fun p => { p with cmd := none }

/-- What an OK frame shows beside its data: alert, NV busy, and writes held for it (R91, R102, R126). -/
def State.noteStatus (s : State) (n pos : Nat) (f : Frame) : State :=
  let s := s.awlCount n 0
  let s := if bitAt f.status 3 then (s.awlCount n 14).onAwl n fun p => { p with alertSeen := true } else s
  if bitAt f.status 2 then
    s.onAwl n fun p => { p with nvBusySeen := true, nvBusy := if p.nvBusy.contains pos then p.nvBusy else pos :: p.nvBusy }
  else
    let mine := (s.awl n).heldWrites.filter fun slot => match s.job? slot with
      | some j => decide ((if j.opcode = opRawXfer then bitsAt (j.word 1) 16 7 else (s.point j.pointIdx).addr) = pos)
      | none => true
    let s := s.onAwl n fun p => { p with nvBusy := p.nvBusy.filter (· != pos), heldWrites := p.heldWrites.filter fun x => !mine.contains x }
    mine.foldl (fun s slot => s.queueWire slot) s

/-- A ROLL's frame: the next position is expected, and after position L the ROLL waits for frames
that should not come (R97, R99, R167). -/
def State.rollFrame (s : State) (n : Nat) (c : AwlCmd) (cls : FrameClass) (f : Option Frame) : State :=
  let len := match (s.awl n).searching with
    | some q => q.n
    | none => (s.awl n).chainLen.toNat
  if len < c.pos then
    match c.use with
    | .searchRoll => (s.awlCount n 11).searchFail n 7 true
    | _ => ((if cls = .unassigned then s.noteChange n 3 else s).onAwl n fun p => { p with cmd := some { c with frames := c.frames + 1 } })
  else
    let s := s.onAwl n fun p => { p with cmd := some { c with pos := c.pos + 1, frames := c.frames + 1, misplaced := c.misplaced || decide (cls = .misplaced) } }
    match c.use with
    | .read e count =>
      match cls, f with
      | .ok, some f => s.feedFrame n e count c.pos c.kind (some f) false false
      | _, _ =>
        let s := if cls = .unassigned then s.noteChange n 3 else s
        s.queueRetry n c c.kind cls f
    | _ => s

/-! ### BREIK_FRAME_RECEIVED -/

/-- A frame of a search or prefix read that has been given up: a new search waits for this transaction's end (R134
step 1, R151). -/
def AwlPort.givenUp (p : AwlPort) (c : AwlCmd) : Bool :=
  (c.use matches .searchId _ | .searchCfg _ | .prefixId _ | .searchRoll) && p.search.any fun q => q.step matches .waitWire

/-- A PICK, REPEAT or WRITE has been answered (R100, R101, R134, R143). -/
def State.pickFrame (s : State) (n : Nat) (c : AwlCmd) (cls : FrameClass) (f : Option Frame) : State :=
  let s := if cls = .unassigned then s.noteChange n 3 else s
  if (s.awl n).givenUp c then (s.onAwl n fun p => { p with cmd := none }).settleChange n
  else match c.use, cls, f with
  | .searchId _, .ok, some f => (s.onAwl n fun p => { p with cmd := none }).gotIdentity n f.bits
  | .searchCfg _, .ok, some f => (s.onAwl n fun p => { p with cmd := none }).gotConfig n f.bits
  | .prefixId _, .ok, some f => (s.onAwl n fun p => { p with cmd := none }).gotPrefix n f.bits
  | .searchId _, _, _ => s.searchFrameBad n c true
  | .searchCfg _, _, _ => s.searchFrameBad n c true
  | .prefixId _, _, _ => s.searchFrameBad n c true
  | .sweep, .ok, some f =>
    let s := (s.onAwl n fun p => { p with cmd := none }).noteResponse n c.pos true
    let old := (s.awl n).map[c.pos - 1]?
    (if old = some (BitVec.ofNat 64 f.bits) then s else s.noteChange n 4).settleChange n
  | .sweep, _, _ => ((s.onAwl n fun p => { p with cmd := none }).noteResponse n c.pos true).settleChange n
  | _, _, _ =>
    let s := if !(s.awl n).pickUp.isEmpty then s else s.onAwl n fun p => { p with cmd := none }
    let s := if c.isRetry then s.retryResult n c cls f
      else match cls, f with
        | .ok, some f =>
          let s := s.noteResponse n c.pos true
          match c.use with
          | .read e count => s.feedFrame n e count c.pos c.kind (some f) false false
          | .job slot => s.awlJobOk n slot c f false false
          | _ => s
        | _, _ => s.queueRetry n c c.kind cls f
    (if (s.awl n).cmd.isSome then s.nextPickUp n else s).settleChange n

/-- The position of the device that answers: in step 4 of a search it is counted from the chain's end (R82, R134). -/
def AwlPort.devicePos (p : AwlPort) (c : AwlCmd) : Nat :=
  match c.use, p.search with
  | .searchId q, some x => x.n + 1 - q
  | _, _ => c.pos

/-- A device frame has been received whole (R117). A frame nobody asked for changes nothing. -/
def State.breikFrame (s : State) (n cal : Nat) (periods : List Nat) (lenBad : Bool) : State :=
  let p := s.awl n
  match p.cmd with
  | none => s
  | some c =>
    let kind := if c.kind = 4 then 4 else p.expectKind c.pos c.kind
    let place := p.devicePos c
    let prev := if tget 0 p.calPrev place = 0 then none else some (tget 0 p.calPrev place)
    let (cls, f) := classify (p.cmdT c.code) (p.calScale c.code) prev c.pos c.code c.seq kind cal periods lenBad
    let accepted := cls != .calRange && cls != .calDrift
    let s := if accepted then s.onAwl n fun p => { p with calPrev := tset 0 p.calPrev place (p.calScale c.code * cal) } else s
    let s := match cls, f with
      | .ok, some f => s.noteStatus n c.pos f
      | _, _ => s.awlCount n cls.counter
    let s := (s.countAttempt c.use).frameSeen c.use f
    if c.isRoll then s.rollFrame n c cls f else s.pickFrame n c cls f

/-! ### BREIK_RESPONSE_TIMEOUT -/

/-- No calibration edge in time (R88, R97 to R99, R134). -/
def State.breikTimeout (s : State) (n : Nat) : State :=
  let p := s.awl n
  match p.cmd with
  | none => s
  | some c =>
    let len := match p.searching with
      | some q => q.n
      | none => p.chainLen.toNat
    if c.isRoll && decide (len < c.pos) then
      match c.use, p.search with
      | .searchRoll, some q => s.searchDone n q
      | _, _ => (s.endRoll n c (decide (c.frames ≠ len))).settleChange n
    else
      let s := ((s.awlCount n 1).countAttempt c.use).frameSeen c.use none
      if p.givenUp c then (s.onAwl n fun p => { p with cmd := none }).settleChange n
      else match c.use with
      | .searchId _ => s.searchFrameBad n c false
      | .searchCfg _ => s.searchFrameBad n c false
      | .prefixId _ => s.searchFrameBad n c false
      | .searchRoll => (s.awlCount n 11).searchFail n 7 true
      | .sweep => ((s.onAwl n fun p => { p with cmd := none }).noteResponse n c.pos false).settleChange n
      | _ =>
        if c.isRoll then
          let s := (s.awlCount n 11).noteChange n 2
          let s := s.queueRetry n c c.kind .noResponse none
          let s := s.onAwl n fun p => { p with misRun := if c.misplaced then p.misRun + 1 else 0
                                               pickUp := (List.range len).map (· + 1) |>.drop c.pos }
          (s.nextPickUp n).settleChange n
        else
          let s := if !(s.awl n).pickUp.isEmpty then s else s.onAwl n fun p => { p with cmd := none }
          let s := if c.isRetry then s.retryResult n c .noResponse none else s.queueRetry n c c.kind .noResponse none
          (if (s.awl n).cmd.isSome then s.nextPickUp n else s).settleChange n

/-! ### BREIK_RETRY -/

/-- The port's engine can start a command: idle, strong pull-up off, no search or prefix read under way, in a life
that allows it (R72, R139, R153); a SENT port's needs no chain. -/
def AwlPort.canStart (p : AwlPort) : Bool :=
  (match p.cmd with | none => true | some c => c.isRoll && decide (p.chainLen.toNat < c.pos) && decide (p.changeCause = 0))
    && decide (p.spu = 0) && p.armed.isNone && p.search.isNone && ((p.life matches .service | .unstable) || (decide (p.mode = 2) && decide (p.life ≠ .fenced)))

/-- A finished ROLL that still waits for stray frames ends when the next command starts. [DESIGN CHOICE, log 31] -/
def State.closeRoll (s : State) (n : Nat) : State :=
  match (s.awl n).cmd with
  | some c => if c.isRoll then s.endRoll n c (decide (c.frames ≠ (s.awl n).chainLen.toNat)) else s
  | none => s

/-- An SPC read of a sensor: the trigger holds the line low for SPC_BASE + i × SPC_STEP ticks (R123). -/
def AwlPort.spcTrigger (p : AwlPort) (now : Nat) (c : AwlCmd) : AwlPort :=
  let w := p.sent.toNat
  { p with spcStart := now, cmd := some c
           spcLow := if p.sentIdCount = 0 then 0 else (bitsAt w 10 6 + c.pos * bitsAt w 16 5) * (bitsAt w 21 7 * us) }

/-- A retry is held back while its position is in NV busy (R102). -/
def AwlPort.nvHeld (p : AwlPort) (r : AwlRetry) : Bool := decide (r.code = 6) && p.nvBusy.contains r.pos

/-- The first waiting retry goes before the next entry of the list (R166): it fits the gap (R287). -/
def State.breikRetryReady (s : State) (n : Nat) : Bool :=
  let p := s.awl n
  match p.retries with
  | [] => false
  | r :: _ => !p.nvHeld r && s.rereadInTime n r && s.retryRoom n r && decide (p.changeCause = 0)

/-- Every waiting retry is held back, and counted so (R102): what comes after retries may go. -/
def State.retryHeld (s : State) (n : Nat) : Bool := (s.awl n).retries.all fun r => (s.awl n).nvHeld r && r.deferred

/-- Retries held back let the others pass, each counted once (R102). -/
def State.deferRetries (s : State) (n : Nat) : State :=
  let p := s.awl n
  let held := p.retries.filter p.nvHeld
  let fresh := (held.filter fun r => !r.deferred).length
  let s := (List.range fresh).foldl (fun s _ => s.awlCount n 15) s
  s.onAwl n fun p => { p with retries := p.retries.filter (fun r => !p.nvHeld r) ++ held.map fun r => { r with deferred := true } }

/-- A job's retry goes out: it executes again (R370, R388). -/
def State.goesOn (s : State) (use : AwlUse) : State :=
  match use with
  | .job slot => s.onJob slot fun j => { j with onWire := true }
  | _ => s

/-- Send the first waiting retry, counted in REPEATS (R164, R166), when it fits the gap (R287). A WRITE to a position
in NV busy is held back, counted once (R102); a SENT re-read that comes too late is given up (R216). -/
def State.breikRetry (s : State) (n : Nat) : State :=
  let s := s.deferRetries n
  let p := s.awl n
  match p.retries with
  | [] => s
  | r :: _ =>
    if p.nvHeld r then s
    else if !s.rereadInTime n r then
      let s := s.onAwl n fun p => { p with retries := p.retries.drop 1 }
      match r.use with
      | .read e count => s.failEntry e count
      | _ => s
    else if p.canStart && decide (p.changeCause = 0) && s.retryRoom n r then
      let s := ((s.closeRoll n).awlCount n 17).goesOn r.use
      if p.mode = 2 then s.onAwl n fun p => p.spcTrigger s.now { use := r.use, code := 8, pos := r.pos, isRetry := true }
      else
        s.onAwl n fun p =>
          let (code, kind) := p.retryCommand r
          p.send { use := r.use, code := code, pos := r.pos, kind := kind, isRetry := true, wreg := r.wreg, wval := r.wval, wmode := r.wmode }
    else s

/-! ### Strikes, echoes and windows -/

/-- Retries left unsent when a STRIKE goes out count as failed (R166). -/
def State.dropRetries (s : State) (n : Nat) : State :=
  let rs := (s.awl n).retries
  let s := s.onAwl n fun p => { p with retries := [] }
  rs.foldl (fun s r => s.giveUp n r.use r.pos r.kind r.lastClass true) s

/-- The closing edge E of a STRIKE for the strike at `at'`: S − RT/2 − 2T, rounded down to the clock (R109). -/
def AwlPort.strikeEdge (p : AwlPort) (at' : Nat) : Nat := (2 * at' - p.rt.toNat - 4 * p.cmdT 4) / 2

/-- A STRIKE trigger for the strike at `at'`: its closing edge is placed, and it starts (36 + s)T before (R109). A port
that turns to it later than that, by more than the angle unit to which the model knows S, was not idle when its lead
began and sends none (R110). Four echoes that agreed give RT from here on (R113). [DEDUCED, log 116] -/
def State.strikeTrigger (s : State) (n angle at' : Nat) : State :=
  let s := (s.closeRoll n).dropRetries n
  s.onAwl n fun p =>
    let p := { p with rt := p.rtDue.getD p.rt, rtDue := none }
    let e := p.strikeEdge at'
    let lead := (36 + (p.seq + 1).toNat) * p.cmdT 4
    if e + s.wheel.period.toNat / 65536 < s.now + lead then p
    else { p.trigger with armed := some (angle, e) }

/-- Mean of a list of ticks, rounded to nearest. [DESIGN CHOICE, log 152] -/
def meanOf (l : List Nat) : Nat := divRound (l.foldl (· + ·) 0) l.length

/-- R113: four consecutive echoes within 8 ns of each other and all more than 8 ns from RT. -/
def echoAgree (rt : Nat) (l : List Nat) : Bool :=
  decide (l.length = 4) && decide (l.foldl max 0 - l.foldl min (l.headD 0) ≤ 2) && l.all fun x => decide (2 < max x rt - min x rt)

/-- The echo's falling edge (R112, R113): accepted within T/2 of E + RT + 4T. -/
def State.echo (s : State) (n edge : Nat) : State :=
  let p := s.awl n
  match p.armed with
  | none => s
  | some (_, e) =>
    let t := p.cmdT 4
    let want := e + p.rt.toNat + 4 * t
    if t < 2 * (max edge want - min edge want) then s
    else
      let last := edge - e - 4 * t
      let shift := 12 < max last p.rt.toNat - min last p.rt.toNat
      let echoes := (last :: p.echoes).take 4
      let s := if shift then s.awlCount n 13 else s
      (s.onAwl n fun p => { p with
        armed := none, echoOk := true, echoRun := 0, rtLast := BitVec.ofNat 12 last
        latch := some (2 * (p.strikeS : Int) + last - p.rt.toNat).toNat
        echoes := echoes
        rtDue := if echoAgree p.rt.toNat echoes then some (BitVec.ofNat 12 (meanOf echoes)) else none
        spu := if s.warning then 0 else 1
        spuUntil := p.strikeS + p.spuStrikeUs * us }).settleChange n

/-- No echo in the window (R112): the port misses the strike; three in a row are a change (R141). The echoes kept for
R113 stay, as the last four that came. [DESIGN CHOICE, log 152] -/
def State.echoTimeout (s : State) (n : Nat) : State :=
  let p := s.awl n
  match p.armed with
  | none => s
  | some (a, _) =>
    let cycle := ((p.judged.find? fun x => decide (x.1 = a)).map (·.2.1)).getD s.wheel.cycle
    let s := (s.awlCount n 12).onAwl n fun p =>
      { p with armed := none, echoOk := false, echoRun := p.echoRun + 1, judged := p.judged.map fun x => if x.1 = a ∧ x.2.1 = cycle then (a, cycle, false) else x }
    let s := s.onWheel fun w => { w with missed := satInc w.missed }
    let pts := (s.tab.points.filter fun x => x.2.valid && decide (x.2.src = n)).map (·.1)
    let s := s.underStrike cycle fun s => pts.foldl (fun s p => s.resolvePoint a cycle p) s
    let s := if 3 ≤ (s.awl n).echoRun then s.noteChange n 7 else s
    s.settleChange n

/-- The conversion window that is open, of a strike or of a commit, closes (R71); a current limit without a break
fences the port (R157). [DESIGN CHOICE, log 112] -/
def State.spuEnd (s : State) (n : Nat) (limitUnbroken : Bool) : State :=
  let p := s.awl n
  if p.spu = 0 then s
  else
    let w := if p.spu = 1 then p.spuStrikeUs else p.spuNvMs * 1000
    let s := s.onAwl n fun p => { p with spu := 0 }
    if limitUnbroken then s.fencePort n 3 w else s.settleChange n

/-- A commit window closes without such a limit (R71). -/
def State.commitEnd (s : State) (n : Nat) : State :=
  if (s.awl n).spu = 2 then s.spuEnd n false else s

/-! ### Presence and the delay probe -/

/-- A presence pulse and its limits (R105, R106). -/
def State.presencePulse (s : State) (n start width : Nat) : State :=
  match (s.awl n).search with
  | none => s
  | some q =>
    if !(q.step matches .presence | .prePresence) then s
    else
      let wOk := decide (6 * us ≤ width ∧ width ≤ 10 * us)
      let sOk := match q.lastPulse with
        | none => decide (q.resetEnd + 6 * us ≤ start ∧ start ≤ q.resetEnd + 11 * us)
        | some l => decide (l + 13 * us ≤ start ∧ start ≤ l + 19 * us)
      if wOk && sOk && decide (q.n < 96) then
        s.onAwl n fun p => { p with search := some { q with n := q.n + 1, lastPulse := some start } }
      else s.presenceBad n false

/-- 48 µs without a falling edge: N is known; an empty chain ends here, else the probe goes out (R106, R107). -/
def State.presenceEnd (s : State) (n : Nat) : State :=
  match (s.awl n).search with
  | none => s
  | some q =>
    match q.step with
    | .presence =>
      if q.n = 0 then s.searchDone n q else s.onAwl n fun p => { p with search := some { q with step := .probe } }
    | .prePresence =>
      if q.n = 0 then s.prefixDone n q 0 else s.onAwl n fun p => { p with search := some { q with step := .preProbe } }
    | _ => s

/-- RT of R107 from the measured interval: less 100 ns, in whole ticks. [DESIGN CHOICE, log 33] -/
def probeRt (dt : Nat) : Nat := (10 * dt - 256 + 5) / 10

def State.probeReflection (s : State) (n dt : Nat) : State :=
  match (s.awl n).search with
  | none => s
  | some q =>
    if !(q.step matches .probe | .preProbe) then s
    else if 1024 < dt then s.presenceBad n true
    else s.afterProbe n (probeRt dt)

def State.probeTimeout (s : State) (n : Nat) : State :=
  match (s.awl n).search with
  | none => s
  | some q => if q.step matches .probe | .preProbe then s.presenceBad n true else s

/-- 20 ms after a failed step the search begins again from RESET (R136). -/
def State.searchRestart (s : State) (n : Nat) : State :=
  match (s.awl n).search with
  | none => s
  | some q => if q.step = .waitRestart then s.onAwl n fun p => p.beginAttempt s.now q else s

/-- The UNSTABLE interval elapses: one attempt without restarts (R140, R155). -/
def State.unstableRetry (s : State) (n : Nat) : State :=
  if (s.awl n).life = .unstable && (s.awl n).search.isNone && !s.halterOn && (s.awl n).nextAt.any (fun t => decide (t ≤ s.now)) then s.enterSearch n 9 else s

end Sys2Proof.Machine
end

