-- ==== Sys2Proof/Machine/Sent.lean ====
section
/-! DEFINITION. SENT mode of an Awl port (R120 to R125, R276): calibration and nibbles, CRC-4, the
slow channel, the continuous stream and SPC reads with their re-reads. The packing of serial
messages is SAE J2716's (PRESUMED, log 20). -/
namespace Sys2Proof.Machine

def State.sentId (s : State) (n id : Nat) : SentId := tget {} (s.awl n).sentIds id
def State.onSentId (s : State) (n id : Nat) (f : SentId → SentId) : State :=
  s.onAwl n fun p => { p with sentIds := tmod {} p.sentIds id f }

/-- R122: within 20 % of 56 ticks. -/
def sentCalOk (t cal : Nat) : Bool := decide (5 * (max cal (56 * t) - min cal (56 * t)) ≤ 56 * t)

/-- A nibble of 12 to 27 ticks against the calibration; 16 when outside (R122). -/
def sentNibble (cal p : Nat) : Nat :=
  let k := divRound (56 * p) cal
  if 12 ≤ k ∧ k ≤ 27 then k - 12 else 16

/-- R121, R122, R125: the class of a fast-channel frame and its status and data nibbles. -/
def sentClassify (t : Nat) (prev : Option Nat) (nibbles : Nat) (legacy : Bool) (cal : Nat) (periods : List Nat) :
    FrameClass × List Nat :=
  if !sentCalOk t cal then (.calRange, [])
  else if calDrifts prev cal then (.calDrift, [])
  else
    let ns := periods.map (sentNibble cal)
    if ns.any (16 ≤ ·) then (.symbol, [])
    else if ns.length ≠ nibbles + 2 then (.length, [])
    else
      let body := ns.take (nibbles + 1)
      let crc := crcOver (if legacy then sent4Legacy else sent4) 4 (body.drop 1)
      if crc = ns.getD (nibbles + 1) 0 then (.ok, body) else (.checkFail, body)

def bitsVal (bs : List Bool) : Nat := bs.foldl (fun a b => 2 * a + b2n b) 0

/-- What the slow channel makes of one more pair of status bits. -/
inductive SlowStep where
  | more (bits : List (Bool × Bool))
  | message (id val width : Nat)
  | badCheck
  | badFormat (bits : List (Bool × Bool))
deriving DecidableEq, Repr

/-- Short serial message: 16 frames, a start bit in bit 3 of the first (R125). A start bit inside a message breaks
it and begins the next. [PRESUMED, log 20; DESIGN CHOICE, log 136] -/
def slowShort (old : List (Bool × Bool)) (b : Bool × Bool) : SlowStep :=
  if old.isEmpty then (if b.1 then .more [b] else .more [])
  else if b.1 then .badFormat [b]
  else
    let l := old ++ [b]
    if l.length < 16 then .more l
    else
      let v := bitsVal (l.map (·.2))
      let id := v / 4096
      let d := v / 16 % 256
      if crcOver sent4 4 [id, d / 16, d % 16] = v % 16 then .message id d 8 else .badCheck

/-- Enhanced serial message: 18 frames, bit 3 opening with six ones and a zero (R125). The bit that breaks
the format begins no message. [PRESUMED, log 20; DESIGN CHOICE, log 136] -/
def slowEnhanced (old : List (Bool × Bool)) (b : Bool × Bool) : SlowStep :=
  let i := old.length
  if i < 6 then (if b.1 then .more (old ++ [b]) else .more [])
  else if i = 6 then (if b.1 then .more (old.drop 1 ++ [b]) else .more (old ++ [b]))
  else if (i = 12 || i = 17) && b.1 then .badFormat []
  else if i < 17 then .more (old ++ [b])
  else
    let l := old ++ [b]
    let d12 := bitsVal ((l.drop 6).map (·.2))
    let hi := bitsVal (((l.drop 8).take 4).map (·.1))
    let lo := bitsVal (((l.drop 13).take 4).map (·.1))
    let seq := (l.drop 6).flatMap fun x => [b2n x.2, b2n x.1]
    if crcOver sent6 1 seq = bitsVal ((l.take 6).map (·.2)) then
      (if (l.getD 7 (false, false)).1 then .message hi (lo * 4096 + d12) 16 else .message (hi * 16 + lo) d12 12)
    else .badCheck

/-- The reading of a fast-channel point (R248, R265): FIELD_SHORT when it lies beyond the nibbles. -/
def State.sentReading (s : State) (p : Nat) (f : SentFrame) (retried recovered : Bool) : Option Reading × State :=
  let pt := s.point p
  let data := f.nibbles.drop 1
  match pt.field 0 (4 * data.length) (nibblesVal data) with
  | none => (none, s.scrCount pt.countPort 10)
  | some u =>
    match s.normalizeAt pt u with
    | (some y, s) => (some { value := y, mid2 := f.start + f.stop, retried := retried, recovered := recovered }, s)
    | (none, s) => (none, s)

/-- Valid points of a port, sensor ID and channel. -/
def State.sentPoints (s : State) (n id xfer : Nat) : List Nat :=
  (s.tab.points.filter fun x => x.2.valid && decide (x.2.src = n) && decide (x.2.addr = id) && decide (x.2.xfer = xfer)).map (·.1)

/-- R276: the continuous stream. A Nearest point takes the frame whose midpoint is nearest S, once one
at or after S is in; a Bracketed point the last frame ending before S and the first starting after.
A strike already published takes its reading late (R315). [DESIGN CHOICE, log 36] -/
def State.streamFeed (s : State) (n id : Nat) (f : SentFrame) : State :=
  let q := s.sentId n id
  s.openStrikes.foldl (fun s w => s.underStrike w.2.1 fun s =>
    let (angle, cycle, at') := w
    let s2 : Int := 2 * at'
    ((s.sentPoints n id 0).filter fun p => s.awaitedIn angle cycle p).foldl (fun s p =>
      if (s.point p).capture = 1 then
        if s2 < 2 * (f.start : Int) then
          let before := [q.last, q.prev].find? fun x => match x with
            | some b => decide (2 * (b.stop : Int) < s2)
            | none => false
          let (rb, s) := match before.join with
            | some b => s.sentReading p b false false
            | none => (none, s)
          let (ra, s) := s.sentReading p f false false
          s.bracketResolve angle cycle p rb ra
        else s
      else
        let m2 : Int := f.start + f.stop
        if s2 ≤ m2 then
          let pick := match q.last with
            | some b => if (((b.start + b.stop : Nat) : Int) - s2).natAbs ≤ (m2 - s2).natAbs then b else f
            | none => f
          let (r, s) := s.sentReading p pick false false
          s.readNearest angle cycle p r
        else s) s) s

/-- The reading of a slow-channel point from a message (R248, R265); no nibbles are missing from one. -/
def State.slowReading (s : State) (p val width : Nat) (mid2 : Int) : Option Reading × State :=
  match (s.point p).field 0 width val with
  | none => (none, s)
  | some u =>
    match s.normalizeAt (s.point p) u with
    | (some y, s) => (some { value := y, mid2 := mid2 }, s)
    | (none, s) => (none, s)

/-- A slow-channel message feeds its points that wait (R263), those of published strikes late (R315). -/
def State.slowFeed (s : State) (n id msg val width mid2 : Nat) : State :=
  s.openStrikes.foldl (fun s w => s.underStrike w.2.1 fun s =>
    ((s.sentPoints n id 1).filter fun p => decide ((s.point p).cmd = msg) && s.awaitedIn w.1 w.2.1 p).foldl (fun s p =>
      let (r, s) := s.slowReading p val width mid2
      s.readNearest w.1 w.2.1 p r) s) s

/-- Assemble the slow channel from the frame's status nibble (R125). -/
def State.slowBits (s : State) (n id : Nat) (f : SentFrame) : State :=
  let mode := bitsAt (s.awl n).sent.toNat 5 2
  if mode = 0 then s
  else
    let st := f.nibbles.headD 0
    let b := (bitAt st 3, bitAt st 2)
    let old := (s.sentId n id).slow
    match (if mode = 1 then slowShort old b else slowEnhanced old b) with
    | .more l => s.onSentId n id fun q => { q with slow := l }
    | .badCheck => (s.awlCount n 20).onSentId n id fun q => { q with slow := [] }
    | .badFormat l => (s.awlCount n 21).onSentId n id fun q => { q with slow := l }
    | .message m v w =>
      (s.onSentId n id fun q => { q with slow := [], messages := tset none q.messages m (some (v, w)) }).slowFeed n id m v w (f.start + f.stop)

/-- The bytes of a frame as a RAW_XFER gives them: status and data nibbles, then the check nibble received (R367). -/
def SentFrame.raw (f : SentFrame) : List Byte := (packNibbles f.nibbles ++ packNibbles [f.check]).map (BitVec.ofNat 8)

/-- The use is a job that makes no further attempt (R370, R388). -/
def State.jobEnding (s : State) (use : AwlUse) : Bool :=
  match use with
  | .job slot => (s.job? slot).any (·.ending)
  | _ => false

/-- Hand a SENT reading to a cut-list read or a job (R263, R266, R367). A slow-channel point takes the latest
message of its ID; of a cut-list read it waits for the next one. -/
def State.sentUse (s : State) (n : Nat) (use : AwlUse) (id : Nat) (f : Option SentFrame) (lastClass : Nat) (retried recovered : Bool) : State :=
  match use with
  | .read e count =>
    s.underStrike count fun s => (e.points.filter fun p => (f.isNone || decide ((s.point p).xfer = 0)) && s.takesFrom (s.strikeAngle e) count p).foldl (fun s p =>
      match f with
      | none => s.feedPoint e.policy (s.strikeAngle e) count p none
      | some f =>
        let (r, s) := s.sentReading p f retried recovered
        s.feedPoint e.policy (s.strikeAngle e) count p r) s
  | .job slot =>
    match s.job? slot, f with
    | some j, some f =>
      if j.opcode = opRawXfer then
        s.complete slot 0 j.rawPayload
      else
        let pt := s.point j.pointIdx
        let mid2 : Int := ((f.start + f.stop : Nat) : Int)
        let (r, s) := if pt.xfer = 0 then s.sentReading j.pointIdx f retried recovered
          else match tget none (s.sentId n id).messages pt.cmd with
            | some (v, width) => s.slowReading j.pointIdx v width mid2
            | none => (none, s)
        s.finishRead slot r (s.instantBytes mid2)
    | _, _ => s.awlJobFail slot lastClass
  | _ => s

/-- A SENT read has been answered or not: first attempt or re-read (R125, R164). The check input that R164 compares
is the data nibbles alone (R233). -/
def State.sentResult (s : State) (n : Nat) (c : AwlCmd) (cls : FrameClass) (f : SentFrame) : State :=
  let s := s.onAwl n fun p => { p with cmd := none }
  let s := s.countAttempt c.use
  let s := match c.use with
    | .job slot => s.attemptSeen slot (if f.nibbles.isEmpty then [] else f.raw) 0 none
    | _ => s
  let points := match c.use with
    | .read e _ => e.points
    | _ => []
  if c.isRetry then
    match (s.awl n).retries with
    | [] => s
    | r :: rest =>
      if cls = .ok then
        let equal := r.firstCheck && r.failed.contains (f.nibbles.drop 1)
        let s := if r.firstCheck then s.awlCount n (if equal then 18 else 19) else s
        (s.onAwl n fun p => { p with retries := rest }).sentUse n r.use c.pos (some f) 0 (!equal) equal
      else
        let r := { r with left := r.left - 1, lastClass := cls.idx, failed := if cls = .checkFail then r.failed ++ [f.nibbles.drop 1] else r.failed }
        if r.left = 0 || s.jobEnding r.use then (s.onAwl n fun p => { p with retries := rest }).sentUse n r.use c.pos none cls.idx false false
        else s.onAwl n fun p => { p with retries := r :: rest }
  else if cls = .ok then s.sentUse n c.use c.pos (some f) 0 false false
  else
    let left := match c.use with
      | .job slot => match s.job? slot with
        | some j => if j.ending then 0 else s.jobRetry j
        | none => 0
      | _ => s.maxRetry points
    if left = 0 then s.sentUse n c.use c.pos none cls.idx false false
    else s.onAwl n fun p => { p with retries := p.retries ++ [{ use := c.use, code := 8, pos := c.pos, left := left
                                                                firstCheck := decide (cls = .checkFail), lastClass := cls.idx
                                                                failed := if cls = .checkFail then [f.nibbles.drop 1] else [] }] }

/-- A SENT frame is received (R122 to R125). `edge` is the calibration edge, `stop` the last nibble's
closing edge; an SPC read's interval starts at its trigger (R124). On an SPC port a frame that no trigger asked for is
no answer (R123). A calibration pulse outside 20 % is not kept as the previous one (R122). A frame not OK gives its
status bits to no message, and assembly goes on with the next. [DESIGN CHOICE, log 136, 152] [PRESUMED, log 20] -/
def State.sentFrame (s : State) (n id cal : Nat) (periods : List Nat) (pause : Option Nat) (edge stop : Nat) : State :=
  let p := s.awl n
  let asked := p.sentIdCount = 0 || (match p.cmd with | some c => decide (c.pos = id) && decide (id < p.sentIdCount) | none => false)
  if p.mode ≠ 2 ∨ p.life = .fenced ∨ !asked then s
  else
    let q := s.sentId n id
    let (cls, body) := sentClassify p.sentTick q.calPrev p.sentNibbles (bitAt p.sent.toNat 4) cal periods
    let f : SentFrame := { nibbles := body, check := sentNibble cal (periods.getD (p.sentNibbles + 1) 0), start := if p.sentIdCount = 0 then edge else p.spcStart, stop := stop }
    let s := if sentCalOk p.sentTick cal then s.onSentId n id fun q => { q with calPrev := some cal } else s
    let s := s.awlCount n cls.counter
    let s := match pause with
      | some x => if bitAt p.sent.toNat 3 && (x < 12 * p.sentTick || 768 * p.sentTick < x) then s.awlCount n 22 else s
      | none => s
    let s := if cls = .ok then s.slowBits n id f else s
    let s := if cls = .ok && p.sentIdCount = 0 then s.streamFeed n id f else s
    let s := if cls = .ok then s.onSentId n id fun q => { q with prev := q.last, last := some f } else s
    match p.cmd with
    | some c => if c.pos = id then s.sentResult n c cls f else s
    | none => s

/-- No answer to an SPC trigger in time (R123): the read fails for retry. -/
def State.spcTimeout (s : State) (n : Nat) : State :=
  let p := s.awl n
  if p.mode ≠ 2 then s
  else match p.cmd with
    | some c => (s.awlCount n 1).sentResult n c .noResponse {}
    | none => s

end Sys2Proof.Machine
end

