-- ==== Sys2Proof/Machine/Buckle.lean ====
section
/-! DEFINITION. The Buckle engine (04): what a transaction sends, its PEC (R186), the classes of an
attempt (R188, R626), retries and corruption (R189 to R192), arbitration (R193 to R196), the target
role (R197 to R200), alerts (R201 to R203), low-power idle (R204, R205), bus clear (R207, R208) and
the policies of capture (R212 to R218). -/
namespace Sys2Proof.Machine

/-! ### PT_TW_CFG, PT_BKL_CFG fields in force -/

def TwPort.mode (p : TwPort) : Nat := bitsAt p.cfg.toNat 0 2
def TwPort.ownEn (p : TwPort) : Bool := bitAt p.cfg.toNat 15
def TwPort.ownAddr (p : TwPort) : Nat := bitsAt p.cfg.toNat 16 7
def TwPort.lpiEn (p : TwPort) : Bool := bitAt p.cfg.toNat 23
def State.arbRetries (s : State) : Nat := bitsAt s.ports.bklCfg.toNat 10 4
def State.absentRun (s : State) : Nat := bitsAt s.ports.bklCfg.toNat 14 5
def State.zwAddr (s : State) : Nat := bitsAt s.ports.zoneAddr.toNat 0 7
def State.zrAddr (s : State) : Nat := bitsAt s.ports.zoneAddr.toNat 8 7

/-- The port serves its segment: service, not fenced, not released to Halter mode (R199, R211). -/
def State.twServing (s : State) (m : Nat) : Bool :=
  decide ((s.tw m).mode = 1) && !(s.tw m).fenced && !s.halterOn

/-! ### What a transaction sends -/

/-- Data bytes of a point's XFER, read form (R250). -/
def xferLen : Nat → Nat
  | 0 => 1 | 1 => 2 | 2 => 4 | 3 => 8 | 4 => 255 | _ => 1

/-- The read of a point's transaction (R250). -/
def readXfer (use : TwUse) (addr cmd xfer : Nat) (pec : Bool) (left arb : Nat) : TwXfer :=
  { use := use, addr := addr, tx := if xfer = 5 then none else some [BitVec.ofNat 8 cmd], rlen := xferLen xfer
    block := decide (xfer = 4), pec := pec, left := left, arbLeft := arb }

/-- The strike Zone Write (R217). -/
def State.zoneXfer (s : State) (m : Nat) (e : CutEntry) (count left : Nat) : TwXfer :=
  let z := (s.tw m).zone.toNat
  { use := .zone e count, addr := s.zwAddr, tx := some (BitVec.ofNat 8 z :: leBytes (bitsAt z 8 2) (bitsAt z 10 16))
    pec := bitAt z 26, left := left, arbLeft := s.arbRetries }

/-- The data bytes of a WRITE_TARGET: in the descriptor when LEN ≤ 8, else the image (R362). -/
def Job.writeData (j : Job) : List Byte :=
  let n := bitsAt (j.word 2) 0 8
  if n ≤ 8 then leBytes n (j.word 4 + j.word 5 * 2 ^ 32) else j.image.take n

/-- The write form of a point's XFER (R250, R362). -/
def State.writeXfer (s : State) (j : Job) (capping : Bool) : TwXfer :=
  let pt := s.point j.pointIdx
  let d := j.writeData
  let c := BitVec.ofNat 8 pt.cmd
  { use := .job j.slot capping, addr := pt.addr
    tx := some (if pt.xfer = 5 then d else if pt.xfer = 4 then c :: BitVec.ofNat 8 d.length :: d else c :: d)
    pec := pt.pec, left := s.jobRetry j, arbLeft := s.arbRetries }

/-- A raw transaction (R365). -/
def State.rawXfer (s : State) (j : Job) : TwXfer :=
  let w1 := j.word 1
  let proto := bitsAt w1 8 8
  let c : Byte := BitVec.ofNat 8 (bitsAt w1 24 8)
  let rl := bitsAt (j.word 2) 8 8
  let b := j.image.take (bitsAt (j.word 2) 0 8)
  let n : Byte := BitVec.ofNat 8 b.length
  let base : TwXfer := { use := .job j.slot false, addr := bitsAt w1 16 7, pec := bitAt (j.word 2) 19
                         left := s.jobRetry j, arbLeft := s.arbRetries }
  match proto with
  | 0x40 => { base with tx := some [] }
  | 0x41 => { base with tx := none, readBit := true }
  | 0x42 => { base with tx := some [c] }
  | 0x43 => { base with tx := none, rlen := 1 }
  | 0x44 => { base with tx := some (c :: b) }
  | 0x45 => { base with tx := some (c :: b), rlen := rl }
  | 0x46 => { base with tx := some (c :: n :: b) }
  | 0x47 => { base with tx := some (c :: b), rlen := rl, block := true }
  | 0x48 => { base with tx := some (c :: b), rlen := rl }
  | 0x49 => { base with tx := some (c :: n :: b), rlen := rl, block := true }
  | 0x4A => { base with group := true, tx := some b, addr := (b.headD 0).toNat }
  | 0x4B => { base with addr := s.zwAddr, tx := some (c :: b) }
  | _ => { base with addr := s.zrAddr, tx := some (c :: b), rlen := rl }

/-- The parts of a group command: address, command and data of each target (R365). -/
def groupParts : Nat → List Byte → List (Nat × List Byte)
  | 0, _ => []
  | fuel + 1, a :: c :: n :: r => (a.toNat, c :: r.take n.toNat) :: groupParts fuel (r.drop n.toNat)
  | _, _ => []

/-- Every byte the Slovor sends as controller before any PEC of its own, with a flag on address bytes. -/
def TwXfer.body (x : TwXfer) : List (Byte × Bool) :=
  let w (a : Nat) : Byte × Bool := (BitVec.ofNat 8 (2 * a), true)
  let r (a : Nat) : Byte × Bool := (BitVec.ofNat 8 (2 * a + 1), true)
  if x.group then (groupParts 256 (x.tx.getD [])).flatMap fun q => w q.1 :: q.2.map fun b => (b, false)
  else
    let wr := match x.tx with
      | some bs => w x.addr :: bs.map fun b => (b, false)
      | none => []
    if 0 < x.rlen || x.readBit then wr ++ [r x.addr] else wr

/-- PEC of R186 over what was sent, and what the target sent. -/
def TwXfer.pecOf (x : TwXfer) (rx : List Byte) : Nat := crcBytes pec8 (x.body.map (·.1) ++ rx)

/-- The Slovor appends the PEC itself: the transaction is a write of at least one byte (R187). A Quick Command has
none, and a Group Command one, over all its parts. [PRESUMED, log 145] -/
def TwXfer.ownPec (x : TwXfer) : Bool := x.pec && decide (x.rlen = 0) && !(x.tx.getD []).isEmpty

/-- Every byte the Slovor sends as controller, the PEC of a write last (R187), with a flag on address bytes. -/
def TwXfer.sends (x : TwXfer) : List (Byte × Bool) :=
  x.body ++ if x.ownPec then [(BitVec.ofNat 8 (x.pecOf []), false)] else []

/-! ### Planned lengths (R180, R272) -/

/-- Every byte of a transaction: addresses, count and PEC included (R180, R186). -/
def TwXfer.byteCount (x : TwXfer) : Nat :=
  x.sends.length + x.rlen + (if 0 < x.rlen then b2n x.block + b2n x.pec else 0)

/-- Its repeated STARTs: one before the read part, one before each further part of a Group Command (R176). The formula of
R180 has one term for a repeated START; it is taken once for each. [DESIGN CHOICE, log 153] -/
def TwXfer.repeated (x : TwXfer) : Nat :=
  if x.group then (groupParts 256 (x.tx.getD [])).length - 1 else b2n (x.tx.isSome && decide (0 < x.rlen))

def TwXfer.slot (x : TwXfer) (rate : Nat) : Nat := twSlot rate x.byteCount x.repeated

/-- Planned bytes of a Block read: up to the highest field of its points. [DEDUCED, log 42] -/
def blockBytes (ps : List (Nat × Point)) : Nat :=
  ps.foldl (fun m x => max m ((x.2.fbase * 64 + x.2.foffs + x.2.fwidth + 8) / 8)) 1

/-- The two-wire transaction of a field job (R250, R365). -/
def State.twJob (s : State) (j : Job) (capping : Bool) : TwXfer :=
  let pt := s.point j.pointIdx
  if j.opcode = opReadNow then readXfer (.job j.slot false) pt.addr pt.cmd pt.xfer pt.pec (s.jobRetry j) s.arbRetries
  else if j.opcode = opWriteTarget then s.writeXfer j capping
  else s.rawXfer j

/-- The planned length of a two-wire job (R180, R272): a READ_NOW of a Block point is planned as the compiler plans
its read. [DEDUCED, log 42] -/
def State.jobSlot (s : State) (j : Job) : Nat :=
  let pt := s.point j.pointIdx
  let x := s.twJob j false
  let x := if j.opcode = opReadNow ∧ pt.xfer = 4 then { x with rlen := blockBytes [(j.pointIdx, pt)] } else x
  x.slot (s.tw (s.jobPort j - 64)).rate

/-- The planned length of a transaction of port `m`, that of its entry or job where it has one. -/
def State.xferSlot (s : State) (m : Nat) (x : TwXfer) : Nat :=
  match x.use with
  | .read e _ => e.len + bitPeriod (s.tw m).rate
  | .zone e _ => e.len + bitPeriod (s.tw m).rate
  | .job slot _ => match s.job? slot with
    | some j => s.jobSlot j
    | none => x.slot (s.tw m).rate
  | _ => x.slot (s.tw m).rate

/-- Split what a target sent: data bytes, and the PEC byte when one is carried (R184, R187). -/
def TwXfer.dataOf (x : TwXfer) (rx : List Byte) : List Byte :=
  let body := if x.pec then rx.take (rx.length - 1) else rx
  if x.block then (body.drop 1).take (body.headD 0).toNat else body

/-- Outcomes of R188. -/
inductive TwClass where
  | arbLost | busError | timeout | addrNack | dataNack | blockCount | pecFail | ok
deriving DecidableEq, Repr

/-- Counter of R220. -/
def TwClass.counter : TwClass → Option Nat
  | .ok => some 0 | .addrNack => some 1 | .dataNack => some 2 | .pecFail => some 3 | .timeout => some 4
  | .busError => some 8 | .blockCount => some 9 | .arbLost => none

/-- Status of R382. -/
def TwClass.status : TwClass → Nat
  | .timeout => 0x320 | .addrNack => 0x321 | .dataNack => 0x322 | .blockCount => 0x323 | .pecFail => 0x324
  | .busError => 0x325 | _ => 0x20B

/-- R188: the class of an attempt that ended by itself; `nack` is the index of the byte refused. -/
def TwXfer.classify (x : TwXfer) (nack : Option Nat) (rx : List Byte) : TwClass :=
  match nack with
  | some i => match x.sends[i]? with
    | some (_, true) => .addrNack
    | _ => .dataNack
  | none =>
    if x.block && decide ((rx.headD 0).toNat = 0) then .blockCount
    else if x.block && (x.use matches .job _ _) && decide (x.rlen < (rx.headD 0).toNat) then .blockCount
    else if x.pec && decide (0 < x.rlen) && decide (x.pecOf (rx.take (rx.length - 1)) ≠ ((rx.getLast?).getD 0).toNat) then .pecFail
    else .ok

/-! ### Absence of targets (R191) -/

/-- A target keeps a VOUT_MODE cache: a valid point reads it as LINEAR16 or LINEAR16S (R260). -/
def State.hasVmode (s : State) (m addr : Nat) : Bool :=
  s.tab.points.any fun q => q.2.valid && decide (q.2.src = 64 + m) && decide (q.2.addr = addr) && (decide (q.2.fmt = 3) || decide (q.2.fmt = 4))

/-- The VOUT_MODE of a target that keeps one is to be read anew (R261). -/
def State.vmodeWant (s : State) (m addr : Nat) : State :=
  if s.hasVmode m addr then s.onTab fun t => { t with vmode := tmod {} t.vmode (128 * (64 + m) + addr) fun v => { v with due := true } } else s

/-- An attempt at the address has been acknowledged. -/
def State.targetAnswered (s : State) (m addr : Nat) : State :=
  let was := (s.tw m).absent.contains addr
  let s := s.onTw m fun p => { p with nackRun := tset 0 p.nackRun addr 0, absent := p.absent.filter (· != addr) }
  if was then s.vmodeWant m addr else s

/-- A transaction ended otherwise than with every attempt in ADDR_NACK: the run is broken (R191). -/
def State.targetHeard (s : State) (m addr : Nat) : State := s.onTw m fun p => { p with nackRun := tset 0 p.nackRun addr 0 }

/-- A transaction ended with every attempt in ADDR_NACK (R191). -/
def State.targetSilent (s : State) (m addr : Nat) : State :=
  let k := tget 0 (s.tw m).nackRun addr + 1
  s.onTw m fun p => { p with
    nackRun := tset 0 p.nackRun addr k
    absent := if s.absentRun != 0 && decide (s.absentRun ≤ k) && !p.absent.contains addr then addr :: p.absent else p.absent }

/-! ### Feeding points -/

/-- The reading of a two-wire point (R177, R248, R265). -/
def State.twReading (s : State) (m p : Nat) (data : List Byte) (mid2 : Int) (retried recovered : Bool) : Option Reading × State :=
  let pt := s.point p
  match pt.field 0 (8 * data.length) (leNat data) with
  | none => (none, if pt.xfer = 4 then s.bklCount m 10 else s)
  | some u =>
    match s.normalizeAt pt u with
    | (some y, s) => (some { value := y, mid2 := mid2, retried := retried, recovered := recovered }, s)
    | (none, s) => (none, s)

/-- STOP of the Zone Write that latched the points of an entry (R217, R218). -/
def State.latchStop (s : State) (m : Nat) (e : CutEntry) (count : Nat) : Option Nat :=
  (s.tw m).zoneStop.bind fun z => if z.1 = e.angle ∧ z.2.1 = count then some z.2.2 else none

/-- Feed a read's points in the courses struck (R264) under their policy; a Zone-latched point takes the Zone Write's STOP (R217). -/
def State.feedTw (s : State) (m : Nat) (e : CutEntry) (count : Nat) (data : List Byte) (mid2 : Int) (retried recovered : Bool) : State :=
  s.underStrike count fun s => (e.points.filter fun p => s.takesFrom (s.strikeAngle e) count p).foldl (fun s p =>
    let inst : Option Int := if e.policy = 3 then (s.latchStop m e count).map fun z => 2 * (z : Int) else some mid2
    match inst with
    | none => s.feedPoint e.policy (s.strikeAngle e) count p none
    | some i =>
      let (r, s) := s.twReading m p data i retried recovered
      s.feedPoint e.policy (s.strikeAngle e) count p r) s

/-! ### Alert service (R202, R203) -/

/-- The two-wire ports bound to an input, ascending (R201). -/
def State.alertPorts (s : State) (a : Nat) : List Nat :=
  (List.range 64).filter fun m => bitAt (tget 0 s.ports.alertBind a).toNat m

def State.alertEnabled (s : State) (a : Nat) : Bool :=
  bitAt s.ports.alertCfg.toNat (16 + a) && !(s.alertPorts a).isEmpty

/-- Begin service of an input. Bound ports that are not in service are passed over when their turn comes.
[DESIGN CHOICE, log 37] -/
def State.alertStart (s : State) (a : Nat) : State :=
  if s.alertEnabled a then s.onAlert a fun x => { x with pending := true, ports := s.alertPorts a, reads := 0, silent := true } else s

/-- Service of an input is over (R201, R202). -/
def AlertSvc.done (x : AlertSvc) : AlertSvc := { x with pending := false, ports := [], reads := 0, silent := true }

/-- A bound port is done with, `silent` when nobody acknowledged its last ARA read: on to the next. When all have
ended so, the alert is unclaimed and held off; one that some port gave up on otherwise is not served again until it is
asserted anew (R202, R203). [DESIGN CHOICE, log 37] -/
def State.alertNextPort (s : State) (a m : Nat) (silent : Bool) : State :=
  let x := s.alertOf a
  if x.ports.head? ≠ some m then s
  else
    let quiet := x.silent && silent
    match (x.ports.drop 1).filter s.twServing with
    | q :: r => s.onAlert a fun x => { x with ports := q :: r, reads := 0, silent := quiet }
    | [] =>
      if x.level && quiet then
        let s := match s.alertPorts a with
          | k :: _ => s.bklCount k 18
          | [] => s
        s.onAlert a fun x => { x with ports := [], reads := 0, unclaimed := true }
      else s.onAlert a AlertSvc.done

/-- TARGET_NOTIFY (R200). -/
def State.targetNotify (s : State) (m kind addr status flags : Nat) (data : List Byte) : State :=
  s.post 0x024 (64 + m) ([BitVec.ofNat 8 kind, BitVec.ofNat 8 addr] ++ leBytes 2 status ++ [BitVec.ofNat 8 flags, BitVec.ofNat 8 data.length] ++ data)

/-- An alert was reported: repeat on the same port, up to 32 times (R202). -/
def State.alertPosted (s : State) (a m addr status flags : Nat) : State :=
  let s := s.targetNotify m 3 addr status flags []
  if 32 ≤ (s.alertOf a).reads then s.alertNextPort a m false else s

/-! ### The end of an attempt -/

/-- A field job's two-wire transaction is over (R192, R195, R380). GROUP_PARTIAL gives the parts sent before the last lost
arbitration, 0 where BUS_ERROR alone used up the retries. [DEDUCED, log 154] -/
def State.twJobFail (s : State) (m slot : Nat) (x : TwXfer) (cls : TwClass) (exhausted : Bool) : State :=
  match s.job? slot with
  | none => s
  | some j =>
    if j.aborted then s.failWire slot 8
    else if exhausted && x.group then (s.bklCount m 21).failWire slot 0x20A x.partsSent
    else s.failWire slot (if exhausted then 0x20B else cls.status) x.attempts

/-- A VOUT_MODE byte (R260): the exponent, or an invalid cache. -/
def State.setVmode (s : State) (port target : Nat) (b : Option Byte) : State :=
  let good := match b with
    | some b => decide (b.toNat / 32 = 0)
    | none => false
  let s := if b.isSome && !good then s.scrCount port 8 else s
  s.onTab fun t => { t with vmode := tmod {} t.vmode (128 * port + target) fun v =>
    match b with
    | some b => { valid := good, exp := if good then sext 5 b.toNat else v.exp, due := false }
    | none => { v with due := false } }

/-- The targets a transaction addresses, each with the command it sends. -/
def TwXfer.commands (x : TwXfer) : List (Nat × Byte) :=
  let of (addr : Nat) (bs : List Byte) : List (Nat × Byte) := match bs with
    | c :: _ => [(addr, c)]
    | [] => []
  if x.group then (groupParts 256 (x.tx.getD [])).flatMap fun q => of q.1 q.2 else of x.addr (x.tx.getD [])

/-- Once a job that addresses VOUT_MODE of a target completes, it is read anew (R261). -/
def State.vmodeTouched (s : State) (m : Nat) (x : TwXfer) : State :=
  (x.commands.filter fun q => decide (q.2 = 0x20)).foldl (fun s q => s.vmodeWant m q.1) s

/-- The targets a transaction addresses (R191): one, or a Group Command's in order. -/
def TwXfer.targets (x : TwXfer) : List Nat :=
  if x.group then (groupParts 256 (x.tx.getD [])).map (·.1) else [x.addr]

/-- The targets whose addresses lie among the first `n` bytes sent. -/
def TwXfer.addressed (x : TwXfer) (n : Nat) : List Nat := (((x.sends.take n).filter (·.2)).map fun b => b.1.toNat / 2).eraseDups

/-- The address refused at byte `i`. -/
def TwXfer.refusedAt (x : TwXfer) (i : Nat) : Nat := ((x.sends[i]?).map fun b => b.1.toNat / 2).getD x.addr

/-- The target has the PEC property, as its points say (R185). -/
def State.targetPec (s : State) (m target : Nat) : Bool :=
  s.tab.points.any fun q => q.2.valid && decide (q.2.src = 64 + m) && decide (q.2.addr = target) && q.2.pec

/-- The transaction has failed for good (R189, R190, R192). -/
def State.twFailed (s : State) (m : Nat) (x : TwXfer) (cls : TwClass) (exhausted : Bool) : State :=
  let s := if exhausted then s.bklCount m 7 else s
  let s := if x.attempts = 0 then s
    else if x.allNacked then s.targetSilent m x.refused
    else x.targets.foldl (fun s a => s.targetHeard m a) s
  match x.use with
  | .read e count => s.failEntry e count
  | .zone e count => (s.bklCount m 22).failEntry e count
  | .job slot _ => (s.twJobFail m slot x cls exhausted).vmodeTouched m x
  | .ara a => s.alertNextPort a m (decide (cls = .addrNack))
  | .araStatus a target pec => s.alertPosted a m target 0 (2 * b2n pec)
  | .vmode target => s.setVmode (64 + m) target none
  | .ship _ _ => s.onPorts fun p => { p with shipResult := some false }

/-- The transaction has completed OK: a Zone Write in time or too late (R218); its points, its job, or its service takes the data. -/
def State.twDone (s : State) (m : Nat) (x : TwXfer) (rx : List Byte) (start stop : Nat) : State :=
  let data := x.dataOf rx
  let mid2 : Int := start + stop
  let equal := x.firstPec && x.failedData.contains data
  let retried := decide (0 < x.failedCount) && !equal
  let s := if x.firstPec then s.bklCount m (if equal then 12 else 13) else s
  match x.use with
  | .read e count => s.feedTw m e count data mid2 retried equal
  | .zone e count =>
    if s.zoneInTime e count stop then s.onTw m fun p => { p with zoneStop := some (e.angle, count, stop) }
    else (s.bklCount m 22).failEntry e count
  | .job slot _ =>
    match s.job? slot with
    | none => s
    | some j =>
      if j.opcode = opReadNow then
        let (r, s) := s.twReading m j.pointIdx data mid2 retried equal
        s.finishRead slot r (s.instantBytes mid2)
      else if j.opcode = opWriteTarget then
        (s.vmodeTouched m x).complete slot 0 [0, 0, 0, 0, 0, BitVec.ofNat 8 j.attempts]
      else (s.vmodeTouched m x).complete slot 0 j.rawPayload
  | .ara a =>
    let target := (data.headD 0).toNat / 2
    if bitAt s.ports.alertCfg.toNat (8 + a) then
      s.onTw m fun p => { p with retries := { use := .araStatus a target x.pec, addr := target, tx := some [0x79], rlen := 2
                                              pec := s.targetPec m target, left := Config.alertRetries, arbLeft := s.arbRetries } :: p.retries }
    else s.alertPosted a m target 0 (2 * b2n x.pec)
  | .araStatus a target pec => s.alertPosted a m target (leNat data) (1 + 2 * b2n pec)
  | .vmode target => s.setVmode (64 + m) target data.head?
  | .ship _ _ => s.onPorts fun p => { p with shipResult := some true }

/-- Attempts of a job are counted as they end (R379). -/
def State.countTwAttempt (s : State) (use : TwUse) : State :=
  match use with
  | .job slot _ => s.onJob slot fun j => { j with attempts := j.attempts + 1, onWire := false }
  | _ => s

/-- A retry still makes sense: a read while it is of use (R216), a Zone-latched one before the next Zone Write, a Zone
Write within half the kerf (R218), an ARA read while its port is being served (R202). -/
def State.retryFits (s : State) (m : Nat) (x : TwXfer) : Bool :=
  match x.use with
  | .read e count => s.readInTime e count (s.now + e.len) && (decide (e.policy ≠ 3) || (s.latchStop m e count).isSome)
  | .zone e count => s.zoneInTime e count (s.now + e.len)
  | .ara a => decide ((s.alertOf a).ports.head? = some m)
  | _ => true

/-- Where an entry was planned to start (R274, R286). -/
def State.plannedAt (s : State) (e : CutEntry) (c : Nat) : Int := s.strikeS2 e.angle c / 2 + e.off

/-- Capping writes, or entries they made late, have kept the port past the planned start of an entry (R290). -/
def State.capDisplaced (s : State) (p : Nat) (e : CutEntry) (c : Nat) : Bool :=
  (s.portQ p).capUntil.any fun u => decide (s.plannedAt e c < u)

/-- An attempt ends: a capping write's delays the entries planned before now, and so does that of an entry it had
delayed (R290). -/
def State.capDelay (s : State) (m : Nat) (use : TwUse) : State :=
  let delays : Bool := match use with
    | .job _ capping => capping
    | .ship _ _ => true
    | .read e c => s.capDisplaced (64 + m) e c
    | .zone e c => s.capDisplaced (64 + m) e c
    | _ => false
  if delays then s.onPortQ (64 + m) fun q => { q with capUntil := some s.now } else s

/-- The use is a job that makes no further attempt (R370, R388). -/
def State.twEnding (s : State) (use : TwUse) : Bool :=
  match use with
  | .job slot _ => (s.job? slot).all (·.ending)
  | _ => false

/-- The outcome of an attempt, with the targets that acknowledged their addresses (R188 to R192, R216): counted, retried
once the segment is free, or final. -/
def State.twOutcome (s : State) (m : Nat) (x : TwXfer) (cls : TwClass) (acked : List Nat) (rx : List Byte) (start stop : Nat) : State :=
  let s := match cls.counter with
    | some i => s.bklCount m i
    | none => s
  let s := (s.capDelay m x.use).countTwAttempt x.use
  let s := s.onTw m fun p => { p with xfer := none, segFree := false, entered := false }
  let x := { x with attempts := x.attempts + 1 }
  let s := acked.foldl (fun s a => s.targetAnswered m a) s
  let s := match x.use with
    | .job slot _ => s.attemptSeen slot rx 0 none
    | _ => s
  match cls with
  | .ok => s.twDone m x rx start stop
  | _ =>
    let arb := cls = .arbLost || cls = .busError
    let absent := (if cls = .addrNack then [x.refused] else x.targets).any (s.tw m).absent.contains
    let x := { x with allNacked := x.allNacked && decide (cls = .addrNack)
                      failedCount := if arb then x.failedCount else x.failedCount + 1
                      firstPec := x.firstPec || (decide (cls = .pecFail) && decide (x.failedCount = 0))
                      failedData := if cls = .pecFail then x.failedData ++ [x.dataOf rx] else x.failedData }
    let left := if absent then 0 else if arb then x.arbLeft else x.left
    if left = 0 || s.twEnding x.use || !s.retryFits m x then s.twFailed m x cls (arb && decide (x.arbLeft = 0))
    else
      let x := if arb then { x with arbLeft := x.arbLeft - 1 } else { x with left := x.left - 1 }
      s.onTw m fun p => { p with retries := x :: p.retries }

/-- TW_ATTEMPT_END (R188, R626): the attempt ended by itself; where it is OK and another controller clocks on,
ARB_LOST_DATA is counted; on an attempt that is not OK it is not. [DEDUCED, log 154] -/
def State.twAttemptEnd (s : State) (m start stop : Nat) (nack : Option Nat) (rx : List Byte) (other : Bool) : State :=
  match (s.tw m).xfer with
  | none => s
  | some x =>
    let cls := x.classify nack rx
    let s := if other && decide (cls = .ok) then s.bklCount m 6 else s
    match nack with
    | some i => s.twOutcome m { x with refused := x.refusedAt i } cls ((x.addressed i).filter fun a => decide (cls ≠ .addrNack) || a != x.refusedAt i) rx start stop
    | none => s.twOutcome m x cls x.targets rx start stop

/-- One clock low reached TIMEOUT (R181). -/
def State.twTimeout (s : State) (m : Nat) : State :=
  match (s.tw m).xfer with
  | none => s
  | some x => (s.twOutcome m x .timeout [] [] s.now s.now).onTw m fun p => { p with timeoutAt := some s.now, scl := false }

/-- A START or STOP that the Slovor did not send (R188, R626). -/
def State.twForeign (s : State) (m : Nat) : State :=
  match (s.tw m).xfer with
  | none => s
  | some x => s.twOutcome m x .busError [] [] s.now s.now

/-- The Slovor's target addresses on a port (R196). -/
def State.isTargetAddr (s : State) (m addr : Nat) : Bool :=
  decide (addr = 8) || ((s.tw m).ownEn && decide (addr = (s.tw m).ownAddr))

/-- PT_TW_ARB after a loss (R193, R194, R196). -/
def arbWord (addr byte bit : Nat) (target : Bool) : Word :=
  pack [(0, addr % 128), (7, if byte = 0 then 0 else 1), (8, byte % 256), (16, bit % 8), (19, b2n target), (31, 1)]

/-- Arbitration is lost (R193 to R196); `won` is the first address byte as the winner sent it. -/
def State.arbLost (s : State) (m byte bit won : Nat) : State :=
  match (s.tw m).xfer with
  | none => s
  | some x =>
    let target := decide (byte = 0) && decide (won % 2 = 0) && s.isTargetAddr m (won / 2)
    let s := s.bklCount m (if byte = 0 then 5 else 6)
    let parts := if x.group then ((groupParts 256 (x.tx.getD [])).foldl (fun (a : Nat × Nat) q =>
      (a.1 + 1 + q.2.length, if a.1 + 1 + q.2.length ≤ byte then a.2 + 1 else a.2)) (0, 0)).2 else 0
    let s := s.onTw m fun p => { p with arb := arbWord x.addr byte bit target, target := target }
    s.twOutcome m { x with partsSent := parts } .arbLost (x.addressed byte) [] s.now s.now

/-- Retries that could no longer be of use are given up (R216, R218). -/
def State.endLateRetries (s : State) (m : Nat) : State :=
  let late := (s.tw m).retries.filter fun x => !s.retryFits m x
  let s := s.onTw m fun p => { p with retries := p.retries.filter fun x => !late.contains x }
  late.foldl (fun s x => s.twFailed m x .busError false) s

/-- The first waiting retry may go out: it fits the gap before the next due entry (R287), which a capping write's
need not (R290); the STATUS_WORD of an alert, which is no retry yet, waits for an open poll window (R54). -/
def State.retryReady (s : State) (m : Nat) : Bool :=
  match (s.tw m).retries with
  | [] => false
  | x :: _ => match x.use with
    | .job _ true => true
    | .ship _ _ => true
    | _ => (decide (0 < x.attempts) || s.windowOpen (64 + m)) && s.fitsGap (64 + m) (s.xferSlot m x)

/-- The next retry of a port starts (R189), counted in RETRIES; one of an ARA read is not counted in ARA_READS again, nor
towards the 32 of R202. [DESIGN CHOICE, log 153] -/
def State.startRetry (s : State) (m : Nat) : State :=
  let s := s.endLateRetries m
  match (s.tw m).retries with
  | [] => s
  | x :: _ =>
    if s.retryReady m then
      let s := if x.attempts = 0 then s else s.bklCount m 11
      let s := match x.use with
        | .job slot _ => s.onJob slot fun j => { j with onWire := true }
        | _ => s
      s.onTw m fun p => { p with retries := p.retries.drop 1, xfer := some x, segFree := false }
    else s

/-- The segment is free, both lines high (R182): a waiting retry starts, unless a capping write goes first (R290). -/
def State.twSegmentFree (s : State) (m : Nat) : State :=
  let s := s.onTw m fun p => { p with segFree := true, target := false, timeoutAt := none, scl := true, sda := true, entered := false }
  if s.twServing m && (s.tw m).xfer.isNone && !s.cappingReady (64 + m) && !(s.tw m).lpi
    && !s.warning && !(s.tw m).watch
  then s.startRetry m else s

/-- A transaction to one of the Slovor's target addresses ends (R197, R205), and the segment is not free until a bit period
later (R182). A write of no data to OWN_ADDR is counted in TARGET_RX and posts nothing. [DESIGN CHOICE, log 153] -/
def State.targetEnd (s : State) (m addr : Nat) (read : Bool) (data : List Byte) : State :=
  if !s.twServing m || (s.tw m).lpi || read || !s.isTargetAddr m addr then s
  else
    let s := (s.bklCount m 14).onTw m fun p => { p with target := false, segFree := false }
    if addr = 8 then
      match data with
      | [a, l, h] => s.targetNotify m 1 (a.toNat / 2) (leNat [l, h]) 0 []
      | _ => s.bklCount m 15
    else if data.isEmpty then s
    else s.targetNotify m 2 0xFF 0 (if 10 < data.length then 4 else 0) (data.take 10)

/-- The transaction that a bus clear interrupts: the one executing, or the one that a TIMEOUT or a lost arbitration
has left to be retried (R207, R208). -/
def TwPort.interrupted (t : TwPort) : Option TwXfer :=
  match t.xfer with
  | some x => some x
  | none => if t.segFree then none else t.retries.head?

/-- The executing transaction is ended for a bus clear and retried after it, within the limit of BUS_ERROR, whose
counter it leaves alone; not that of an absent target, nor of a job that ends (R191, R208, R370). [DESIGN CHOICE, log 146] -/
def State.interruptXfer (s : State) (m : Nat) : State :=
  match (s.tw m).xfer with
  | none => s
  | some x =>
    let s := (s.countTwAttempt x.use).onTw m fun p => { p with xfer := none }
    let x := { x with attempts := x.attempts + 1, allNacked := false }
    if x.arbLeft = 0 then s.twFailed m x .busError true
    else if s.twEnding x.use || x.targets.any (s.tw m).absent.contains then s.twFailed m x .busError false
    else s.onTw m fun p => { p with retries := { x with arbLeft := x.arbLeft - 1 } :: p.retries }

/-- The engine pulses the clock up to nine times (R208): released, with a STOP after which the segment comes free
(R182), or the port fences (R209). -/
def State.busClear (s : State) (m : Nat) (pulses : Nat) (released : Bool) : State :=
  let s := s.bklCount m 19
  let s := ((s.tab.points.filter fun x => decide (x.2.src = 64 + m)).map (·.2.addr)).foldl (fun s a => s.vmodeWant m a) s
  if released && decide (pulses ≤ 9) then
    (s.interruptXfer m).onTw m fun p => { p with scl := true, sda := true, segFree := false, timeoutAt := none, target := false, entered := false }
  else
    let a := ((s.tw m).interrupted.map (·.addr)).getD 0xFF
    (s.onTw m fun p => { p with sda := false }).fencePort (64 + m) 5 a

end Sys2Proof.Machine
end

