-- ==== Sys2Proof/Machine/Plan.lean ====
section
/-! DEFINITION. Loads and their checks (R60, R256, R270, R296, R364): the layouts of the table images,
the tables a load would leave in force, and the status and entry of the first failure. Also the
planned lengths of R89, R90, R180 and R272, in 256 MHz ticks. -/
namespace Sys2Proof.Machine

/-! ### Image layouts -/

/-- Word `i` of an image entry. -/
def wordAt (ws : List Nat) (i : Nat) : Nat := ws.getD i 0

/-- The four words of a point entry (R247); `none` when a reserved field is set or a value is out of
its range. [DESIGN CHOICE, log 46] -/
def decodePoint (ws : List Nat) : Option Point :=
  let a := wordAt ws 0
  let b := wordAt ws 1
  let c := wordAt ws 2
  let d := wordAt ws 3
  if !bitAt a 28 then (if a = 0 ∧ b = 0 ∧ c = 0 ∧ d = 0 then some {} else none)
  else if bitsAt a 29 3 ≠ 0 ∨ bitsAt b 17 3 ≠ 0 ∨ bitsAt b 24 8 ≠ 0 ∨ bitsAt c 30 2 ≠ 0 ∨ 95 < bitsAt b 0 7
      ∨ bitsAt d 1 2 = 3 then none
  else some {
    src := bitsAt a 0 8, addr := bitsAt a 8 8, cmd := bitsAt a 16 8, xfer := bitsAt a 24 3, pec := bitAt a 27, valid := true
    foffs := bitsAt b 0 7, fwidth := bitsAt b 7 5, fbase := bitsAt b 12 5, fmt := bitsAt b 20 4
    courses := BitVec.ofNat 16 c, coef := bitsAt c 16 12, prio := bitsAt c 28 2
    mand := bitAt d 0, capture := bitsAt d 1 2, retry := bitsAt d 3 3, rdiv := bitsAt d 6 4
    slack := bitsAt d 10 8, ident := bitsAt d 18 14 }

/-- The words of a point, as BAR and MRAM images hold them. -/
def Point.words (p : Point) : List Nat :=
  if p.valid then
    [packNat [(0, p.src), (8, p.addr), (16, p.cmd), (24, p.xfer), (27, b2n p.pec), (28, 1)],
     packNat [(0, p.foffs), (7, p.fwidth), (12, p.fbase), (20, p.fmt)],
     packNat [(0, p.courses.toNat), (16, p.coef), (28, p.prio)],
     packNat [(0, b2n p.mand), (1, p.capture), (3, p.retry), (6, p.rdiv), (10, p.slack), (18, p.ident)]]
  else [0, 0, 0, 0]

/-- A slack rule's words (R268). -/
def decodeSlack (ws : List Nat) : Option SlackRule :=
  let a := wordAt ws 0
  if bitsAt a 24 8 ≠ 0 ∨ (bitAt a 15 ∧ bitsAt a 16 8 = 0) then none
  else some { gov := bitsAt a 0 15, enable := bitAt a 15, dwell := bitsAt a 16 8, thresh := BitVec.ofNat 32 (wordAt ws 1) }

def decodeCoef (ws : List Nat) : Coef :=
  { w0 := BitVec.ofNat 32 (wordAt ws 0), w1 := BitVec.ofNat 32 (wordAt ws 1), lo := BitVec.ofNat 32 (wordAt ws 2), hi := BitVec.ofNat 32 (wordAt ws 3) }

/-- A pole entry's words (R44); `none` where R60 calls it bad. -/
def decodePole (ws : List Nat) : Option PoleEntry :=
  let a := wordAt ws 0
  let b := wordAt ws 1
  let act := bitsAt a 16 8
  let arg := bitsAt a 24 8
  let e : PoleEntry := { angle := BitVec.ofNat 16 a, action := BitVec.ofNat 8 act, arg := BitVec.ofNat 8 arg
                         div := BitVec.ofNat 8 b, offs := BitVec.ofNat 8 (bitsAt b 8 8) }
  let argOk := if act = 8 then true else if act = 1 ∨ act = 2 ∨ act = 3 ∨ act = 4 then decide (arg < 16) else decide (arg = 0)
  if 8 < act ∨ bitsAt b 16 16 ≠ 0 ∨ e.divN ≤ e.offs.toNat ∨ !argOk then none else some e

/-- A course record's words (R294); `none` where R296 calls it bad for this role. -/
def State.decodeCourse (s : State) (ws : List Nat) : Option CourseCfg :=
  let a := wordAt ws 0
  let b := wordAt ws 1
  let c := wordAt ws 2
  let d := wordAt ws 3
  let target := bitsAt a 1 2
  let kerf := bitsAt b 0 21
  let mw := bitsAt d 0 16
  if bitsAt a 5 11 ≠ 0 ∨ bitsAt b 21 11 ≠ 0 ∨ bitsAt d 16 16 ≠ 0 ∨ (1 ≤ kerf ∧ kerf ≤ 19) ∨ 1048560 < kerf
      ∨ 32768 < bitsAt c 16 16 ∨ (2 ≤ target ∧ !s.isWorker) ∨ (bitAt a 4 ∧ !s.isManager) ∨ (1 ≤ mw ∧ mw ≤ 99) then none
  else some { w0 := BitVec.ofNat 32 a, kerf := kerf, base := bitsAt c 0 16, size := bitsAt c 16 16, mergeWait := mw }

/-- A run of a POINT_LOAD image (R364). -/
structure Run where
  table : Nat
  first : Nat
  entries : List (List Nat)

def entryWords : Nat → Nat
  | 0 => 4 | _ => 2
def tableSize : Nat → Nat
  | 0 => 32768 | 1 => 8192 | _ => 256

def chunk (n : Nat) : Nat → List Nat → List (List Nat)
  | 0, _ => []
  | k + 1, ws => ws.take n :: chunk n k (ws.drop n)

/-- Split an image into runs; `none` is BAD_IMAGE. -/
def parseRuns : Nat → List Nat → Option (List Run)
  | _, [] => some []
  | 0, _ => none
  | fuel + 1, h :: g :: ws =>
    let count := bitsAt h 16 16
    let table := bitsAt g 0 2
    let first := bitsAt h 0 16
    let n := count * entryWords table
    if count = 0 ∨ table = 3 ∨ 4 ≤ g ∨ tableSize table < first + count ∨ (table = 2 ∧ first = 0) ∨ ws.length < n then none
    else (parseRuns fuel (ws.drop n)).map fun rs => { table := table, first := first, entries := chunk (entryWords table) count ws } :: rs
  | _, _ => none

def Run.indices (r : Run) : List Nat := (List.range r.entries.length).map (· + r.first)

/-- Two runs name one entry (R364). -/
def runsClash : List Run → Bool
  | [] => false
  | r :: rs => (rs.any fun q => decide (q.table = r.table) && decide (q.first < r.first + r.entries.length)
      && decide (r.first < q.first + q.entries.length)) || runsClash rs

/-- Where a BAD_IMAGE lies (R379): the table of the first run at fault, and the entry where one entry is at
fault, slack rule 0 or an entry an earlier run has named. `seen` holds those runs. [DEDUCED, log 45] -/
def imageFault : Nat → List (Nat × Nat × Nat) → List Nat → Nat × Option Nat
  | fuel + 1, seen, h :: g :: ws =>
    let count := bitsAt h 16 16
    let table := bitsAt g 0 2
    let first := bitsAt h 0 16
    let n := count * entryWords table
    if table = 3 then (0, none)
    else if count = 0 ∨ 4 ≤ g ∨ tableSize table < first + count ∨ ws.length < n then (table, none)
    else if table = 2 ∧ first = 0 then (2, some 0)
    else
      let twice := ((List.range count).map (· + first)).find? fun i =>
        seen.any fun r => decide (r.1 = table) && decide (r.2.1 ≤ i) && decide (i < r.2.1 + r.2.2)
      match twice with
      | some i => (table, some i)
      | none => imageFault fuel ((table, first, count) :: seen) (ws.drop n)
  | _, _, _ => (0, none)

/-! ### The tables a change leaves in force -/

/-- The tables loads are checked against and compiled from. -/
structure Plan where
  points : Tbl Point
  idents : Tbl Quad
  coefs : Tbl Coef
  slack : Tbl SlackRule
  courses : Tbl CourseCfg
  pole : List PoleEntry
  nominal : BitVec 20
deriving DecidableEq, Repr

def State.plan (s : State) : Plan :=
  { points := s.tab.points, idents := s.tab.idents, coefs := s.tab.coefs, slack := s.tab.slack
    courses := (courseNumbers.map fun c => (c, (s.course c).cfg)).filter fun x => decide (x.2 ≠ {}), pole := s.pole.entries
    nominal := s.wheel.nominalWait.getD s.wheel.nominal }

def putAll {α : Type} [DecidableEq α] (d : α) (m : Tbl α) (xs : List (Nat × α)) : Tbl α :=
  xs.foldl (fun m x => tset d m x.1 x.2) m

def Plan.apply (g : Plan) : Change → Plan
  | .points _ ps is sl => { g with points := putAll {} g.points ps, idents := putAll 0 g.idents is, slack := putAll {} g.slack sl }
  | .coefs _ cs => { g with coefs := putAll {} g.coefs cs }
  | .pole _ es => { g with pole := es }
  | .courses _ rs => { g with courses := putAll {} g.courses rs }
  | .nominal v => { g with nominal := v }
  | .plain => g

/-- The changes of finished compiles that wait for their boundaries, in order. -/
def State.readyChanges (s : State) : List Change := s.scr.ready.flatMap (·.changes)

/-- The changes accepted and not yet in force, in order. -/
def State.pendingChanges (s : State) : List Change := s.readyChanges ++ s.scr.running ++ s.scr.gathered

/-- The tables in force once every pending change is (R270, R297). [DEDUCED, log 45] -/
def State.planNext (s : State) : Plan := s.pendingChanges.foldl Plan.apply s.plan

def Plan.course (g : Plan) (c : Nat) : CourseCfg := tget {} g.courses c
def Plan.coef (g : Plan) (i : Nat) : Coef := if i = 0 then {} else tget {} g.coefs i
def Plan.used (g : Plan) : List (Nat × Point) := g.points.filter fun x => x.2.valid

/-! ### R270 -/

/-- The port runs in SENT mode as written. -/
def State.sentMode (s : State) (n : Nat) : Bool := decide (bitsAt (s.awl n).cfgReg.toNat 0 2 = 2)

/-- XFER, ADDR and CMD as R250, R251 and R473 allow. [DESIGN CHOICE, log 46] -/
def State.transactionOk (s : State) (p : Point) : Bool :=
  if p.src < 64 then
    if s.sentMode p.src then
      decide (p.xfer ≤ 1) && decide (p.addr ≤ 3) && (decide (p.xfer = 1) || decide (p.cmd = 0))
        && decide (p.addr < max 1 (bitsAt (s.awl p.src).sentReg.toNat 7 3)) && !p.pec
    else decide (p.xfer = 0) && decide (1 ≤ p.addr ∧ p.addr ≤ 96) && decide (p.cmd = 1 ∨ p.cmd = 2) && !p.pec
  else if p.src < 128 then decide (p.xfer ≤ 5) && decide (p.addr < 128) && (decide (p.xfer ≠ 5) || decide (p.cmd = 0))
  else if p.src = 128 then decide (p.xfer = 0) && decide (p.addr ≤ 5) && decide (p.cmd = 0) && !p.pec
  else if p.src = 129 then decide (p.xfer = 0) && decide (p.addr ≤ 31) && decide (p.cmd ≤ 10) && !p.pec
  else if p.src = 130 then decide (p.xfer = 0) && decide (p.addr ≤ 2) && decide (p.cmd = 0) && !p.pec
  else false

/-- Data bits available to a point (R250): of a slow channel 8 in the short form, up to 16 in the enhanced one, as
PT_AWL_SENT.SLOW is written. [DESIGN CHOICE, log 46] -/
def State.bitsOf (s : State) (p : Point) : Nat :=
  if p.src < 64 then
    if s.sentMode p.src then (if p.xfer = 1 then (if bitsAt (s.awl p.src).sentReg.toNat 5 2 = 1 then 8 else 16) else 4 * bitsAt (s.awl p.src).sentReg.toNat 0 3)
    else if p.cmd = 2 then 96 else 24
  else if p.src < 128 then
    match p.xfer with
    | 0 => 8 | 1 => 16 | 2 => 32 | 3 => 64 | 4 => 2040 | _ => 8
  else if p.src = 128 then 12 else 32

def widthOk (fmt width : Nat) : Bool :=
  match fmt with
  | 0 => true
  | 1 => decide (2 ≤ width)
  | 7 => decide (width = 12)
  | 9 => decide (width = 12)
  | 10 => decide (width = 32)
  | _ => decide (fmt ≤ 8 ∧ width = 16)

def State.formatBad (s : State) (p : Point) : Bool :=
  decide (10 < p.fmt) || !widthOk p.fmt (p.fwidth + 1) || (decide (p.fmt = 9) && decide (p.src ≠ 128))
    || (decide (p.capture ≠ 0) && ((decide (p.src < 64) && !s.sentMode p.src) || decide (128 ≤ p.src)))
    || (decide (129 ≤ p.src) && (decide (p.fmt ≠ 10) || decide (p.foffs ≠ 0)))

/-- R256: the limits every set must have in order, and the layout a format reads it in. -/
def Coef.limitsBad (c : Coef) : Bool :=
  (Fl.of32 c.lo.toNat matches .nan) || (Fl.of32 c.hi.toNat matches .nan) || Fl.lt (Fl.of32 c.hi.toNat) (Fl.of32 c.lo.toNat)

def isFinite32 (v : Word) : Bool := Fl.of32 v.toNat matches .fin _ _

def Coef.badFor (c : Coef) (fmt : Nat) : Bool :=
  if fmt = 5 then
    let r := sext 8 c.w1.toNat
    decide (bitsAt c.w0.toNat 0 16 = 0) || decide (r < -15 ∨ 15 < r) || decide (bitsAt c.w1.toNat 8 24 ≠ 0)
  else !(isFinite32 c.w0 && isFinite32 c.w1)

/-- BANK_LIMIT of R296: regions within the bank, apart, and large enough; an empty region holds no record (R311)
and so overlaps none. -/
def Plan.bankBad (g : Plan) : Option Nat :=
  let on := courseNumbers.filter fun c => (g.course c).enabled
  on.find? fun c =>
    let k := g.course c
    decide (65536 < k.base + k.size) || decide (k.size < (pointsOf g.points c).length)
      || on.any fun d => decide (d ≠ c) && decide (0 < k.size) && decide (0 < (g.course d).size) && decide ((g.course d).base < k.base + k.size) && decide (k.base < (g.course d).base + (g.course d).size)

/-- The chain map a Breik port will have in force: the waiting one, else its own (R148). -/
def AwlPort.mapNext (p : AwlPort) : List Quad :=
  match p.waiting <|> p.prefixWait with
  | some x => x.map
  | none => p.map

/-- The address the map gives a point of a searched port, where it holds its identity once (R148). -/
def State.mapAddr (s : State) (g : Plan) (p : Point) : Option Nat :=
  if p.src < 64 ∧ p.ident ≠ 0x3FFF ∧ (s.awl p.src).everSearched then
    match positionsOf (s.awl p.src).mapNext (tget 0 g.idents p.ident) with
    | [q] => some q
    | _ => none
  else none

/-- A POINT_LOAD entry takes its position from the chain map (R148). -/
def State.placePoint (s : State) (g : Plan) (p : Point) : Point :=
  match s.mapAddr g p with
  | some q => { p with addr := q }
  | none => p

/-- A pair of points, the first of which is reported. -/
def firstClash (ps : List (Nat × Point)) (bad : Point → Point → Bool) : Option Nat :=
  (ps.find? fun x => ps.any fun y => decide (x.1 < y.1) && bad x.2 y.2).map (·.1)

/-- The checks of R270 on the tables `g` after a POINT_LOAD of the points `new`, in their order: the
status, the table at fault and the entry. The spec names no failure for a 33rd target of a segment (R172), and none
is tested. [DEDUCED, log 45; DESIGN CHOICE, log 138] -/
def State.checkPoints (s : State) (g : Plan) (new : List (Nat × Point)) (newSlack : List (Nat × SlackRule)) : Option (Nat × Nat × Nat) :=
  let used := g.used
  let newUsed := new.filter fun x => x.2.valid
  let pt (status : Nat) (i : Option Nat) : Option (Nat × Nat × Nat) := i.map fun i => (status, 0, i)
  let first (status : Nat) (bad : Point → Bool) := pt status ((newUsed.find? fun x => bad x.2).map (·.1))
  let govBad (r : SlackRule) : Bool := r.enable &&
    (let q := tget {} g.points r.gov
     !q.valid || decide (q.courses = 0) || decide (q.slack ≠ 0))
  let slackBad := ((newSlack ++ g.slack).find? fun x => govBad x.2).map (·.1)
  (pt 0x100 ((used.find? fun x => decide (x.2.ident ≠ 0x3FFF) && decide (tget 0 g.idents x.2.ident = 0)).map (·.1)))
  <|> (slackBad.map fun i => (0x100, 2, i))
  <|> (first 0x101 fun p => decide (64 ≤ p.src ∧ p.src < 128) &&
        (decide (p.addr = 8) || decide (p.addr = 0xC) || decide (p.addr = bitsAt s.ports.zoneAddrReg.toNat 0 7)
          || decide (p.addr = bitsAt s.ports.zoneAddrReg.toNat 8 7)
          || (bitAt (s.tw (p.src - 64)).cfgReg.toNat 15 && decide (p.addr = bitsAt (s.tw (p.src - 64)).cfgReg.toNat 16 7))))
  <|> (((g.idents.find? fun x => g.idents.any fun y => decide (x.1 < y.1) && decide (x.2 = y.2)).map fun x => (0x102, 1, x.1)))
  <|> (pt 0x103 ((used.find? fun x => decide (x.2.ident ≠ 0x3FFF) && (decide (64 ≤ x.2.src) || s.sentMode x.2.src)).map (·.1)))
  <|> (pt 0x103 (firstClash used fun a b => decide (a.ident ≠ 0x3FFF) && decide (a.ident = b.ident) && decide (a.src ≠ b.src)))
  <|> (pt 0x104 (firstClash used fun a b => decide (a.ident ≠ 0x3FFF) && decide (a.ident = b.ident) && decide (a.addr ≠ b.addr)))
  <|> (first 0x105 fun p => decide (s.bitsOf p < p.fbase * 64 + p.foffs + p.fwidth + 1)
        || (decide (p.fbase ≠ 0) && !(decide (64 ≤ p.src ∧ p.src < 128) && decide (p.xfer = 4))))
  <|> (first 0x106 s.formatBad)
  <|> (pt 0x107 (firstClash used fun a b => decide (64 ≤ a.src ∧ a.src < 128) && decide (a.src = b.src) && decide (a.addr = b.addr) && (a.pec != b.pec)))
  <|> (((newUsed.filter fun x => (g.coef x.2.coef).badFor x.2.fmt).foldl (fun (b : Option Nat) x => some (match b with
        | some c => min c x.2.coef
        | none => x.2.coef)) none).map fun c => (0x108, 3, c))
  <|> (g.bankBad.map fun c => (0x109, 4, c))

/-- R256 for the sets a COEF_LOAD writes, against the points in force. -/
def Plan.checkCoefs (g : Plan) (new : List (Nat × Coef)) : Option (Nat × Nat × Nat) :=
  (new.find? fun x => decide (x.1 = 0) || x.2.limitsBad || g.used.any fun y => decide (y.2.coef = x.1) && x.2.badFor y.2.fmt).map
    fun x => (0x108, 3, x.1)

/-- R60's own checks of a pole: the strike limit, then the manager's beacon. A pole that meets several conditions
of R60 gets the status of the first in the table's order. [DESIGN CHOICE, log 137] -/
def State.checkPole (s : State) (es : List PoleEntry) : Option Nat :=
  if poleBreaksLimit (if s.wheel.sel = 4 then s.planNext.nominal.toNat else 70000) es then some 0x10D
  else if s.isManager && !(es.any fun e => decide (e.action = 7) && decide (e.div = 1)) then some 0x10E
  else none

end Sys2Proof.Machine
end

