-- ==== Sys2Proof/Machine/Compile.lean ====
section
/-! DEFINITION. The Scriber's compile (R272 to R284): what it places around each strike on each port,
deadlines and poll windows, the tests of R280, refused jobs (R282), dropped entries (R283), rate
phases (R267) and the count of R284. -/
namespace Sys2Proof.Machine

/-- What a placement needs beside the tables: the angle units of one 256 MHz tick at the frequency of
R273, the retry reserve and the capping window. -/
structure Rules where
  r : Rat
  reserve : Nat
  capWin : Nat

/-- F of R273 in mHz: 70 Hz for an edge or ALP source, or PW_NOMINAL and 50 ppm. -/
def compileHz (sel nominal : Nat) : Rat := if sel = 4 then (nominal : Rat) * 1000050 / 1000000 else 70000

def rulesOf (sel nominal : Nat) (cfg : Word) : Rules :=
  { r := 65536 * compileHz sel nominal / 256000000000, reserve := bitsAt cfg.toNat 0 3, capWin := bitsAt cfg.toNat 4 16 }

/-- The rules a compile of these tables goes by. -/
def State.rulesFor (s : State) (g : Plan) : Rules := rulesOf s.wheel.sel g.nominal.toNat s.scr.cfgReg

/-- The rules in force (R292). -/
def State.rules (s : State) : Rules := rulesOf s.wheel.sel s.wheel.nominal.toNat s.scr.cfg

def Rules.floorAt (q : Rules) (a : Nat) (x : Int) : Int := ((a : Rat) + (x : Rat) * q.r).floor
def Rules.ceilAt (q : Rules) (a : Nat) (x : Int) : Int := ((a : Rat) + (x : Rat) * q.r).ceil
/-- A length in au, rounded outward (R273). -/
def Rules.au (q : Rules) (x : Nat) : Int := ((x : Rat) * q.r).ceil

/-- The strikes of a pole: angle and enabled courses, ascending; every entry counts as firing (R280). -/
def Plan.strikes (g : Plan) : List (Nat × List Nat) :=
  let es := g.pole.filter fun e => decide (e.action = 1) && (g.course (bitsAt e.arg.toNat 0 4)).enabled
  let angles := sortBy id ((es.map fun e => e.angle.toNat).eraseDups)
  angles.map fun a => (a, ((es.filter fun e => decide (e.angle.toNat = a)).map fun e => bitsAt e.arg.toNat 0 4).eraseDups)

/-- The point belongs to one of the courses. -/
def Point.inAny (p : Point) (cs : List Nat) : Bool := cs.any fun c => bitAt p.courses.toNat c

/-- The kerf limit a course will have (R295). -/
def State.planKerf (s : State) (g : Plan) (c : Nat) : Nat :=
  let k := (g.course c).kerf
  if k ≠ 0 then k
  else if g.used.any fun x => bitAt x.2.courses.toNat c && ((decide (64 ≤ x.2.src ∧ x.2.src < 128) && decide (x.2.capture = 0))
      || (decide (x.2.src < 64) && s.sentMode x.2.src && decide (x.2.capture = 0)) || decide (x.2.src = 128)) then 500000 else 2000

/-! ### Poll windows (R54, R55, R278) -/

/-- OPEN and CLOSE events of a group, in firing order. A span counts as open only when it is open in
every cycle, so a divided OPEN opens nothing; `none` when the group is always open. [DEDUCED, log 43] -/
def groupEvents (pole : List PoleEntry) (group : Option Nat) : Option (List (Nat × Bool)) :=
  match group with
  | none => none
  | some k =>
    let of (act : BitVec 8) := pole.filter fun e => decide (e.action = act) && decide (e.arg.toNat = k)
    if (of 3).isEmpty then none
    else
      let es := pole.filter fun e => decide (e.arg.toNat = k) && (decide (e.action = 4) || (decide (e.action = 3) && decide (e.div = 1)))
      some ((sortBy (fun e => e.angle.toNat) es).map fun e => (e.angle.toNat, decide (e.action = 3)))

def openAt (ev : List (Nat × Bool)) (x : Int) : Bool :=
  let y := x % 65536
  let last := (ev.getLast?.map (·.2)).getD false
  ev.foldl (fun o e => if (e.1 : Int) ≤ y then e.2 else o) last

/-- The span `[a, b)` is open throughout. -/
def spanOpen (ev : Option (List (Nat × Bool))) (a b : Int) : Bool :=
  match ev with
  | none => true
  | some ev => decide (b - a < 65536) && openAt ev a &&
      ev.all fun e => e.2 || !(let x := a + ((e.1 : Int) - a) % 65536
                               decide (a < x) && decide (x < b))

/-- The first start at or after `a` whose span of `len` is open. -/
def fitOpen (ev : Option (List (Nat × Bool))) (a len : Int) : Option Int :=
  match ev with
  | none => some a
  | some es =>
    let cands := a :: (sortBy (fun x : Int => (x - a).toNat) ((es.filter (·.2)).map fun e => a + ((e.1 : Int) - a) % 65536))
    cands.find? fun c => spanOpen ev c (c + len)

def State.groupOf (s : State) (p : Nat) : Option Nat :=
  let b := bitsAt (tget 0 s.scr.pgrpReg (p / 4)).toNat (8 * (p % 4)) 8
  if bitAt b 7 then some (b % 16) else none

/-! ### One port -/

/-- A read that could be dropped under R283: its key, the highest PRIO and the highest index it feeds. -/
structure ReadUnit where
  key : List Nat
  prio : Nat
  top : Nat
deriving DecidableEq, Repr

/-- Everything placed on one port. A block is a strike's angle and the span it occupies. -/
structure Placed where
  entries : List CutEntry := []
  units : List ReadUnit := []
  blocks : List (Nat × Int × Int) := []
  reserves : List (Nat × Int) := []
  /-- entries given a phase so far, and the phases given to entries of each divisor (R267) -/
  n : Nat := 0
  phases : List (Nat × Nat) := []
  fail : Bool := false
  risk : List Nat := []

/-- The divisor of a read: the smallest RDIV + 1 of its points (R267). -/
def divisorOf (ps : List (Nat × Point)) : Nat := ps.foldl (fun m x => min m (x.2.rdiv + 1)) 16

/-- The rate phase of the next entry: its number among the port's, moved on to a residue that the fewest entries
of the same divisor have, so that they fall due in different strikes (R267). [DEDUCED, log 139] -/
def Placed.phase (a : Placed) (d : Nat) : Nat :=
  let uses (p : Nat) : Nat := (a.phases.filter fun x => decide (x.1 = d) && decide (x.2 % d = p % d)).length
  let best := (List.range d).foldl (fun b k => if uses (a.n + k) < uses (a.n + b) then k else b) 0
  if a.n + best < 256 then a.n + best else (a.n + best) % d

/-- Count an entry that was given a phase. -/
def Placed.next (a : Placed) (d p : Nat) : Placed := { a with n := a.n + 1, phases := a.phases ++ [(d, p)] }

def Placed.failed (a : Placed) : Placed := { a with fail := true }

def topOf (ps : List (Nat × Point)) : Nat := ps.foldl (fun m x => max m x.1) 0
/-- The highest PRIO of some points; below two-wire ports PRIO 3 counts as 2 (R291). -/
def prioOf (ps : List (Nat × Point)) : Nat := ps.foldl (fun m x => max m (if x.2.src < 64 then min 2 x.2.prio else x.2.prio)) 0

/-- The map, length and EXT positions a Breik port will have; a prefix port reads positions 1 to k. -/
def AwlPort.planned (p : AwlPort) : List Quad × List Nat × Bool :=
  match p.waiting, p.prefixWait with
  | some x, _ => (x.map, x.ext, false)
  | none, some x => (x.map, x.ext, true)
  | none, none => (p.map, p.ext, decide (p.life = .unstable))

/-- Where a Breik point will be read, if at all (R145, R147, R154). -/
def Plan.position (g : Plan) (m : List Quad) (unstable : Bool) (p : Point) : Option Nat :=
  let (a, k) := if unstable then (p.addr, matchPrefix m g.idents p {}) else matchPoint m g.idents p
  if k.verified ∧ 1 ≤ a ∧ a ≤ m.length then some a else none

/-- One strike of a Breik port (R274 steps 1, 6 and 7). With TICK 0 its frames are the extended ones, turned
down to 250 ns or not (R275). [DESIGN CHOICE, log 29] -/
def placeBreik (q : Rules) (g : Plan) (p : AwlPort) (ev : Option (List (Nat × Bool))) (excl : List (List Nat))
    (angle : Nat) (mine : List (Nat × Point)) (acc : Placed) : Placed :=
  let (m, exts, unstable) := p.planned
  let t := if p.tick = 4 then 256 else p.tickT
  let lead2 : Int := 106 * t + p.rt.toNat
  let s0 := ((angle : Rat) - (lead2 : Rat) / 2 * q.r).floor
  let s1 := q.ceilAt angle (p.spuStrikeUs * us)
  let span : CutEntry := { kind := .strikeSpan, angle := angle, placed := true, off := (-lead2) / 2
                           len := ((lead2 + 1) / 2).toNat + p.spuStrikeUs * us, start := s0, stop := s1 }
  let read := mine.filterMap fun x => match g.position m unstable x.2 with
    | some pos => if x.2.cmd = 2 ∧ !exts.contains pos then none else some (pos, x)
    | none => none
  let positions := sortBy id ((read.map (·.1)).eraseDups)
  let kindOf (pos : Nat) : Nat := b2n (exts.contains pos && read.any fun x => decide (x.1 = pos) && (decide (x.2.2.cmd = 2) || decide (p.tick = 0)))
  let ext := decide (p.tick = 0) || positions.any fun x => decide (kindOf x = 1)
  let roll := p.rollLen ext m.length
  let picks := positions.foldl (fun a x => a + p.pickLen 3 (kindOf x)) 0
  let reads : List (List Nat × EntryKind × Nat × Nat × List (Nat × Point)) :=
    if positions.isEmpty then []
    else if !unstable ∧ roll ≤ picks then [([angle, 0], .roll ext, b2n ext, roll, read.map (·.2))]
    else positions.map fun x => ([angle, x], .pick x (decide (kindOf x = 1)), kindOf x, p.pickLen 3 (kindOf x),
      (read.filter fun y => decide (y.1 = x)).map (·.2))
  let reads := reads.filter fun x => !excl.contains x.1
  let res := q.au (q.reserve * reads.foldl (fun a x => max a (p.pickLen 5 x.2.2.1)) 0)
  let acc := { acc with entries := acc.entries ++ [span]
                        units := acc.units ++ reads.map fun x => { key := x.1, prio := prioOf x.2.2.2.2, top := topOf x.2.2.2.2 } }
  let (acc, stop) := reads.foldl (fun (st : Placed × Int) x =>
    let len := q.au x.2.2.2.1
    match fitOpen ev st.2 len with
    | none => (st.1.failed, st.2)
    | some c =>
      let d := divisorOf x.2.2.2.2
      let ph := st.1.phase d
      ({ st.1.next d ph with entries := st.1.entries ++
        [{ kind := x.2.1, angle := angle, len := x.2.2.2.1, start := c, stop := c + len, phase := ph, points := x.2.2.2.2.map (·.1) }] }, c + len)) (acc, s1)
  let acc := if reads.isEmpty ∨ res = 0 then acc
    else { acc with entries := acc.entries ++ [{ kind := .reserve, angle := angle, start := stop, stop := stop + res }] }
  { acc with blocks := acc.blocks ++ [(angle, s0, if reads.isEmpty then stop else stop + res)], reserves := acc.reserves ++ [(angle, if reads.isEmpty then 0 else res)] }

/-- A start of length `d` that keeps `gap` from every occupied span. -/
def freeAt (occ : List (Int × Int)) (gap d c : Int) : Bool :=
  occ.all fun o => decide (c + d + gap ≤ o.1) || decide (o.2 + gap ≤ c)

/-- What a point's read is known by: target, command, form and policy (R263). A SENT frame carries both channels of
its sensor, so that a slow-channel point shares the Nearest read of its sensor ID. [DESIGN CHOICE, log 36] -/
def Point.readKey (p : Point) : Nat × Nat × Nat × Nat :=
  if p.src < 64 ∧ p.xfer = 1 then (p.addr, 0, 0, 0) else (p.addr, p.cmd, p.xfer, p.capture)

/-- The transactions of a two-wire or SPC port for one strike, grouped by what they read and by policy (R263). -/
def readGroups (mine : List (Nat × Point)) : List ((Nat × Nat × Nat × Nat) × List (Nat × Point)) :=
  ((mine.map fun x => x.2.readKey).eraseDups).map fun k => (k, mine.filter fun x => decide (x.2.readKey = k))

/-- How long each read of a group lasts from START to STOP, and with its bus-free time. -/
structure PortTiming where
  sent : Bool
  rate : Nat
  sentLen : Nat

def PortTiming.gap (k : PortTiming) : Nat := if k.sent then 0 else bitPeriod k.rate
/-- [DEDUCED, log 42] -/
def PortTiming.readLen (k : PortTiming) (key : Nat × Nat × Nat × Nat) (ps : List (Nat × Point)) : Nat :=
  if k.sent then k.sentLen
  else
    let (addr, cmd, xfer, _) := key
    let x := readXfer (.vmode 0) addr cmd xfer (ps.any fun x => x.2.pec) 0 0
    let x := if xfer = 4 then { x with rlen := blockBytes ps } else x
    x.slot k.rate - bitPeriod k.rate

/-- One strike of a two-wire or SPC port (R274 steps 2 to 5 and 7, R276); CAPTURE 0 is Nearest, 1 Bracketed, 2
Zone-latched (R247). The Zone Write has the form written (R217). A position is free where no
transaction of this or of an earlier strike lies; their retry reserves are left to the deadlines (R277).
[DESIGN CHOICE, log 29, 118; DEDUCED, log 117, 129] -/
def placeTw (q : Rules) (s : State) (g : Plan) (m : Nat) (k : PortTiming) (ev : Option (List (Nat × Bool))) (excl : List (List Nat))
    (angle : Nat) (mine : List (Nat × Point)) (acc : Placed) : Placed :=
  let gap : Int := k.gap
  let served := ((g.strikes.find? fun x => decide (x.1 = angle)).map (·.2)).getD []
  let foreign : List (Int × Int) := (acc.entries.filter (·.placed)).flatMap fun e => [-65536, 0, 65536].map fun o =>
    ((((e.start + o - angle : Int) : Rat) / q.r).floor, (((e.stop + o - angle : Int) : Rat) / q.r).ceil)
  let groups := (readGroups mine).filter fun x => !excl.contains [angle, x.1.1, x.1.2.1, x.1.2.2.1, x.1.2.2.2]
  let units := groups.map fun x => ({ key := [angle, x.1.1, x.1.2.1, x.1.2.2.1, x.1.2.2.2], prio := prioOf x.2, top := topOf x.2 } : ReadUnit)
  let order (x : (Nat × Nat × Nat × Nat) × List (Nat × Point)) : Nat := (3 - min 3 (prioOf x.2)) * 65536 + (x.2.headD (0, {})).1
  let near := sortBy order (groups.filter fun x => x.1.2.2.2 ≠ 1 && (k.sent || x.1.2.2.2 ≠ 2))
  let brack := sortBy order (groups.filter fun x => x.1.2.2.2 = 1)
  let zoned := if k.sent then [] else sortBy (fun x => (x.2.headD (0, {})).1) (groups.filter fun x => x.1.2.2.2 = 2)
  let t := s.tw (m - 64)
  let zlen : Int := ({ t with cfg := t.cfgReg, zone := t.zoneReg } : TwPort).zoneLen
  let long := !k.sent && ((groups.any fun x => decide ((q.capWin : Int) < q.au (k.readLen x.1 x.2 + k.gap)))
    || (!zoned.isEmpty && decide ((q.capWin : Int) < q.au (zlen + gap).toNat)))
  let own0 : List (Int × Int) := if zoned.isEmpty then [] else [(-zlen, 0)]
  let inWin (c d : Int) : Bool := spanOpen ev (q.floorAt angle c) (q.ceilAt angle (c + d))
  let mk (x : (Nat × Nat × Nat × Nat) × List (Nat × Point)) (policy phase : Nat) (c d : Int) : CutEntry :=
    { kind := if k.sent then .sentRead x.1.1 else .twRead x.1.1 x.1.2.1 x.1.2.2.1 (x.2.any fun y => y.2.pec)
      angle := angle, policy := policy, placed := true, off := c, len := d.toNat, start := q.floorAt angle c, stop := q.ceilAt angle (c + d)
      phase := phase, points := x.2.map (·.1) }
  let zentry : List CutEntry := if zoned.isEmpty then []
    else [{ kind := .zoneWrite, angle := angle, placed := true, off := -zlen, len := zlen.toNat, start := q.floorAt angle (-zlen), stop := angle
            points := zoned.flatMap fun x => x.2.map (·.1) }]
  let acc := { acc with units := acc.units ++ units, fail := acc.fail || long, entries := acc.entries ++ zentry }
  -- step 3
  let (acc, own) := near.foldl (fun (st : Placed × List (Int × Int)) x =>
    let d : Int := k.readLen x.1 x.2
    let occ := st.2 ++ foreign
    let wins : List Int := match ev with
      | none => []
      | some es => es.flatMap fun e => [-1, 0, 1].map fun o =>
          let a : Int := ((((e.1 : Int) + o * 65536 - angle : Int) : Rat) / q.r).ceil
          if e.2 then a else a - d - 1
    let cands := (-d) / 2 :: (occ.flatMap fun o => [o.1 - gap - d, o.2 + gap]) ++ wins
    let good := cands.filter fun c => freeAt occ gap d c && inWin c d
    match good with
    | [] => (st.1.failed, st.2)
    | c0 :: cs =>
      let best := cs.foldl (fun b c => if (2 * c + d).natAbs < (2 * b + d).natAbs ∨ ((2 * c + d).natAbs = (2 * b + d).natAbs ∧ c < b) then c else b) c0
      let risky := (x.2.filter fun y => served.any fun c => bitAt y.2.courses.toNat c && outOfKerf (2 * best + d) 0 (s.planKerf g c)).map (·.1)
      let ph := st.1.phase (divisorOf x.2)
      ({ st.1.next (divisorOf x.2) ph with entries := st.1.entries ++ [mk x 0 ph best d], risk := st.1.risk ++ risky }, st.2 ++ [(best, best + d)])) (acc, own0)
  -- the nearest place from a start on, forward or backward, that is free of other strikes' reads and open (R278)
  let seek (fwd : Bool) (c d : Int) : Option Int :=
    let edges : List Int := match ev with
      | none => []
      | some es => es.flatMap fun e => [-1, 0, 1].map fun o =>
          let a : Int := ((((e.1 : Int) + o * 65536 - angle : Int) : Rat) / q.r).ceil
          if e.2 then a else a - d - 1
    let cands := c :: foreign.map (fun o => if fwd then o.2 + gap else o.1 - gap - d) ++ edges
    (cands.filter fun x => (if fwd then decide (c ≤ x) else decide (x ≤ c)) && freeAt foreign gap d x && inWin x d).foldl
      (fun b x => match b with
        | none => some x
        | some y => if fwd then some (min x y) else some (max x y)) none
  -- step 4
  let (acc, own) := brack.foldl (fun (st : Placed × List (Int × Int)) x =>
    let d : Int := k.readLen x.1 x.2
    let lo := (st.2.filter fun o => decide (o.1 < 0)).foldl (fun a o => min a o.1) 0
    let hi := (st.2.filter fun o => decide (0 ≤ o.2)).foldl (fun a o => max a (o.2 + gap)) 0
    match seek false (lo - gap - d) d, seek true hi d with
    | some cb, some hi =>
      let ph := st.1.phase (divisorOf x.2)
      ({ st.1.next (divisorOf x.2) ph with entries := st.1.entries ++ [mk x 1 ph cb d, mk x 2 ph hi d] }, st.2 ++ [(cb, cb + d), (hi, hi + d)])
    | _, _ => (st.1.failed, st.2)) (acc, own)
  -- step 5
  let (acc, own) := zoned.foldl (fun (st : Placed × List (Int × Int)) x =>
    let d : Int := k.readLen x.1 x.2
    match seek true (st.2.foldl (fun a o => max a (o.2 + gap)) gap) d with
    | some c =>
      let ph := st.1.phase (divisorOf x.2)
      ({ st.1.next (divisorOf x.2) ph with entries := st.1.entries ++ [mk x 3 ph c d] }, st.2 ++ [(c, c + d)])
    | none => (st.1.failed, st.2)) (acc, own)
  -- step 7
  let res := q.reserve * groups.foldl (fun a x => max a (k.readLen x.1 x.2 + k.gap)) 0
  let last := own.foldl (fun a o => max a o.2) ((own.head?.map (·.2)).getD 0) + gap
  let r0 := q.floorAt angle last
  let r1 := q.ceilAt angle (last + res)
  let b0 := own.foldl (fun a o => min a (q.floorAt angle o.1)) r0
  if own.isEmpty then acc
  else
    { acc with entries := acc.entries ++ (if res = 0 then [] else [{ kind := .reserve, angle := angle, start := r0, stop := r1 }])
               blocks := acc.blocks ++ [(angle, b0, if res = 0 then q.ceilAt angle (last - gap) else r1)]
               reserves := acc.reserves ++ [(angle, if res = 0 then 0 else r1 - r0)] }

/-- The next of some angles after `a`, a cycle on where none follows. -/
def nextAfter (xs : List (Nat × Int)) (a : Nat) : Option Int :=
  match xs.find? fun x => decide (a < x.1) with
  | some x => some x.2
  | none => (xs.head?).map fun x => x.2 + 65536

/-- R277: the deadline of every read, and whether it is met. -/
def setDeadlines (g : Plan) (strikes : List (Nat × List Nat)) (breik : Bool) (a : Placed) : Placed :=
  let starts := a.blocks.map fun b => (b.1, b.2.1)
  let es := a.entries.map fun e =>
    if e.points.isEmpty ∨ e.kind = .zoneWrite then e
    else
      let res := ((a.reserves.find? fun r => decide (r.1 = e.angle)).map (·.2)).getD 0
      let d1 := (nextAfter starts e.angle).map fun x => x - res
      let own := strikes.filter fun x => e.points.any fun p => (tget {} g.points p).inAny x.2
      let d2 := if breik then none else nextAfter (own.map fun x => (x.1, (x.1 : Int))) e.angle
      { e with deadline := match d1, d2 with
          | some x, some y => some (min x y)
          | some x, none => some x
          | none, y => y }
  let late := es.any fun e => match e.deadline with
    | some d => decide (d < e.stop)
    | none => false
  { a with entries := es, fail := a.fail || late }

/-- R280: placed spans overlap, within the cycle or across its end. -/
def overlaps (bs : List (Nat × Int × Int)) : Bool :=
  let rec go : List (Nat × Int × Int) → Bool
    | x :: y :: r => decide (y.2.1 < x.2.2) || go (y :: r)
    | _ => false
  go bs || (match bs.head?, bs.getLast? with
    | some f, some l => decide (f.2.1 + 65536 < l.2.2)
    | _, _ => false)

/-- The port is planned: Breik with a map, SENT or two-wire in service, not fenced. -/
def State.planned (s : State) (p : Nat) : Bool :=
  if p < 64 then
    let a := s.awl p
    match bitsAt a.cfgReg.toNat 0 2 with
    | 1 => (a.life matches .service | .swapWait | .unstable)
    | 2 => decide (a.life ≠ .fenced)
    | _ => false
  else decide (bitsAt (s.tw (p - 64)).cfgReg.toNat 0 2 = 1) && (!(s.tw (p - 64)).fenced || (s.tw (p - 64)).returning.isSome)

/-- Compile one port's list (R274 to R280), leaving out the reads of `excl`. -/
def State.placePort (s : State) (g : Plan) (excl : List (List Nat)) (p : Nat) : Placed :=
  let q := s.rulesFor g
  let pts := g.used.filter fun x => decide (x.2.src = p)
  let ev := groupEvents g.pole (s.groupOf p)
  let a0 := s.awl p
  let a := { a0 with cfg := a0.cfgReg, sent := a0.sentReg }
  let breik := decide (p < 64) && decide (a.mode = 1)
  let strikes := g.strikes.filter fun x => pts.any fun y => y.2.inAny x.2
  let acc := strikes.foldl (fun acc x =>
    let mine := pts.filter fun y => y.2.inAny x.2
    if breik then placeBreik q g a ev excl x.1 mine acc
    else if p < 64 then
      if a.sentIdCount = 0 then acc
      else placeTw q s g p { sent := true, rate := 0, sentLen := a.sentLen } ev excl x.1 mine acc
    else placeTw q s g p { sent := false, rate := bitsAt (s.tw (p - 64)).cfgReg.toNat 2 2, sentLen := 0 } ev excl x.1 mine acc) {}
  let acc := setDeadlines g g.strikes breik acc
  { acc with fail := acc.fail || overlaps acc.blocks }

/-- Ports that hold a scheduled point and are planned. -/
def State.plannedPorts (s : State) (g : Plan) : List Nat :=
  (sortBy id ((g.used.filter fun x => decide (x.2.src < 128) && decide (x.2.courses ≠ 0)).map fun x => x.2.src).eraseDups).filter s.planned

/-- The first port that fails R280. -/
def State.failingPorts (s : State) (g : Plan) : List Nat :=
  (s.plannedPorts g).filter fun p => (s.placePort g [] p).fail

/-- Entries a dropped read would have had: a bracket is two (R263, R283). -/
def entriesOf (port : Nat) (key : List Nat) : Nat := if key.length = 5 ∧ key.getD 4 0 = 1 ∧ port < 128 then 2 else 1

/-- R283: drop the read whose highest PRIO is lowest, among equals the highest point index, until the port passes. -/
def State.placeDropping (s : State) (g : Plan) (p : Nat) : Nat → List (List Nat) → Placed × Nat
  | 0, excl => (s.placePort g excl p, (excl.map (entriesOf p)).sum)
  | fuel + 1, excl =>
    let a := s.placePort g excl p
    if !a.fail then (a, (excl.map (entriesOf p)).sum)
    else
      match a.units with
      | [] => (a, (excl.map (entriesOf p)).sum)
      | u :: us =>
        let worst := us.foldl (fun b x => if x.prio < b.prio ∨ (x.prio = b.prio ∧ b.top < x.top) then x else b) u
        s.placeDropping g p fuel (worst.key :: excl)

def Placed.list (a : Placed) (dropped : Nat) : CutList := { entries := sortBy (fun e => (e.start + 65536).toNat) a.entries, dropped := dropped }

/-! ### COMPILE_COMPLETE -/

def Change.slot : Change → Option Nat
  | .points x _ _ _ => x
  | .coefs x _ => x
  | .pole x _ => x
  | .courses x _ => x
  | .nominal _ => none
  | .plain => none

/-- Entries a change writes (R379). -/
def Change.count : Change → Nat
  | .points _ a b c => a.length + b.length + c.length
  | .coefs _ a => a.length
  | .pole _ a => a.length
  | .courses _ a => a.length
  | .nominal _ => 0
  | .plain => 0

/-- The table a change names in a completion (R379). -/
def Change.table : Change → Nat
  | .points _ _ _ _ => 0
  | .coefs _ _ => 3
  | .courses _ _ => 4
  | _ => 5

/-- Why a job's change is refused: status, table, port and entry at fault. -/
abbrev Refused := Nat × Nat × Option Nat × Option Nat

/-- The checks of a load once more, against the tables as they now will be: a change it was checked with may have
been refused (R15, R270, R297). [DEDUCED, log 44] -/
def State.recheck (s : State) (g : Plan) : Change → Option Refused
  | .points x ps is sl => (s.checkPoints (g.apply (.points x ps is sl)) ps sl).map fun f =>
      (f.1, f.2.1, if f.2.1 = 0 ∧ (tget {} (g.apply (.points x ps is sl)).points f.2.2).src < 128
        then some (tget {} (g.apply (.points x ps is sl)).points f.2.2).src else none, some f.2.2)
  | .coefs _ cs => (g.checkCoefs cs).map fun f => (f.1, f.2.1, none, some f.2.2)
  | .courses x rs => ((g.apply (.courses x rs)).bankBad).map fun i => (0x109, 4, none, some i)
  | _ => none

/-- Why the compile refuses a change: it fails its checks, or a port fails R280 because of it; a pole with which any
port fails is infeasible (R60, R282). [DEDUCED, log 44] -/
def State.refusal (s : State) (g : Plan) (c : Change) : Option Refused :=
  if c.slot.isNone then none
  else
    match s.recheck g c with
    | some f => some f
    | none =>
      let failing := s.failingPorts (g.apply c)
      let bad := if c.isPole then failing else failing.filter fun p => !(s.failingPorts g).contains p
      bad.head?.map fun p => (if c.isPole then 0x10F else 0x10A, c.table, some p, none)

/-- Take the changes in fetch order; a job whose change cannot be taken is refused (R282). -/
def State.takeFeasible (s : State) (g : Plan) : List Change → List Change × List (Change × Refused)
  | [] => ([], [])
  | c :: cs =>
    match s.refusal g c with
    | some f =>
      let (a, r) := s.takeFeasible g cs
      (a, (c, f) :: r)
    | none =>
      let (a, r) := s.takeFeasible (g.apply c) cs
      (c :: a, r)

/-- JOB_FAILED payload of a load: table, port and entry at fault (R379). -/
def loadFault (table : Nat) (port entry : Option Nat) : List Byte :=
  [BitVec.ofNat 8 table, BitVec.ofNat 8 (port.getD 0xFF), 0, 0] ++ leBytes 4 (entry.getD 0xFFFFFFFF)

/-- A job's change is refused (R60, R282). -/
def State.refuseChange (s : State) (c : Change) (f : Refused) : State :=
  match c.slot with
  | some x => s.complete x f.1 (loadFault f.2.1 f.2.2.1 f.2.2.2)
  | none => s

/-- Changes a manager has staged on this worker: its own compiles reckon with them (R458). [DEDUCED, log 71] -/
def State.stagedChanges (s : State) : List Change := s.aeloon.staged.filterMap (·.change)

/-- The lists for the tables that `before` and then `changes` leave in force, and whether entries were dropped (R283, R284). -/
def State.compiledFor (s : State) (before changes : List Change) : Compiled × Bool :=
  let g := (before ++ changes).foldl Plan.apply s.plan
  let placed := (s.plannedPorts g).map fun p => (p, s.placeDropping g p (s.placePort g [] p).units.length [])
  let lists := placed.map fun x => (x.1, x.2.1.list x.2.2)
  ({ changes := changes, lists := lists.filter fun x => decide (x.2 ≠ {})
     krisk := (placed.flatMap fun x => x.2.1.risk).eraseDups.length
     maps := (List.range 64).filter fun n => (s.awl n).waiting.isSome }, placed.any fun x => decide (0 < x.2.2))

/-- Where a finished compile waits: with the last one before it, which it replaces, unless both carry a pole; then it
takes the boundary after (R61, R62). [DESIGN CHOICE, log 140] -/
def State.queueCompiled (s : State) (took : List Change) (status : Bool → BitVec 2) : List Compiled :=
  let made (before changes : List Change) : Compiled :=
    let (m, dropped) := s.compiledFor before changes
    { m with last := status dropped }
  match s.scr.ready.reverse with
  | [] => [made [] took]
  | r :: rs =>
    let before := rs.reverse.flatMap (·.changes)
    if r.changes.any Change.isPole && took.any Change.isPole then s.scr.ready ++ [made (before ++ r.changes) took]
    else rs.reverse ++ [made before (r.changes ++ took)]

end Sys2Proof.Machine
end

