-- ==== Sys2Proof/Machine/Gap.lean ====
section
/-! DEFINITION. What starts a port's transactions: cut-list entries at their time (R267, R285, R286),
gap transactions in order (R287 to R290), capping writes, field jobs (R150, R266, R362 to R368), and
the events of alerts (R201 to R203), low-power idle (R204, R205), fences and unfences (R157 to R161,
R209, R210) and Cinch conversions (R252). -/
namespace Sys2Proof.Machine

/-! ### Cut-list entries -/

/-- The port's engine is free for a transaction of its own. -/
def State.engineFree (s : State) (p : Nat) : Bool :=
  if p < 64 then (s.awl p).canStart
  else
    let x := s.tw (p - 64)
    s.twServing (p - 64) && x.xfer.isNone && x.segFree && !x.lpi && !x.target && !x.watch

/-- A Zone Write that never starts has not completed in time (R220). -/
def State.zoneLate (s : State) (p : Nat) (e : CutEntry) : State := if e.kind = .zoneWrite then s.bklCount (p - 64) 22 else s

/-- An old entry is skipped (R285, R293). -/
def State.swapSkip (s : State) (p : Nat) (x : CutEntry × Nat) : State := ((s.scrCount p 1).zoneLate p x.1).failEntry x.1 x.2

/-- Skip an entry that no longer fits; a late read B counts nothing, a Zone Write, which has no deadline, ZONE_LATE
(R216, R220, R286, R290). -/
def State.skipEntry (s : State) (p : Nat) (e : CutEntry) (c : Nat) : State :=
  let s := if e.policy = 1 then s else if e.kind = .zoneWrite then s.zoneLate p e else s.scrCount p 0
  let s := if s.capDisplaced p e c then s.scrCount p 4 else s
  s.failEntry e c

/-- Start an entry whose port is free. At 125 ns a list compiled before reads extended frames too (R89). -/
def State.launchEntry (s : State) (p : Nat) (e : CutEntry) (c : Nat) : State :=
  match e.kind with
  | .roll ext => (s.closeRoll p).onAwl p fun a =>
      let ext := ext || a.fast
      a.send { use := .read e c, code := if ext then 2 else 1, pos := 1, kind := b2n ext, isRoll := true }
  | .pick pos ext => (s.closeRoll p).onAwl p fun a => a.send { use := .read e c, code := 3, pos := pos, kind := a.sendKind (b2n ext) }
  | .sentRead id => s.onAwl p fun a => a.spcTrigger s.now { use := .read e c, code := 8, pos := id }
  | .twRead addr cmd xfer pec =>
    if e.policy = 3 && (s.latchStop (p - 64) e c).isNone then s.failEntry e c
    else s.onTw (p - 64) fun x => { x with segFree := false, xfer := some (readXfer (.read e c) addr cmd xfer pec (s.maxRetry e.points) s.arbRetries) }
  | .zoneWrite => s.onTw (p - 64) fun x => { x with segFree := false, zoneStop := none, xfer := some (s.zoneXfer (p - 64) e c (s.maxRetry e.points)) }
  | _ => s

/-- The port can still run an entry of a Breik list: a SENT port none, one outside SERVICE none but, in UNSTABLE,
reads of positions within the prefix (R120, R137, R154). -/
def State.entryAlive (s : State) (p : Nat) (e : CutEntry) : Bool :=
  let a := s.awl p
  match e.kind with
  | .strikeSpan => decide (a.mode = 1)
  | .roll _ => decide (a.mode = 1) && decide (a.life = .service)
  | .pick pos _ => decide (a.mode = 1) && (decide (a.life = .service) || (decide (a.life = .unstable) && decide (pos ≤ a.pfx.toNat)))
  | .sentRead _ => decide (a.mode = 2)
  | _ => true

def State.markRan (s : State) (p idx c : Nat) : State := s.onPortQ p fun q => { q with ran := q.ran ++ [(idx, c)] }

/-- Reads of the list that come before `idx` of cycle `c` and have not been handled: those that no longer fit are
skipped now, those that the port's life rules out dropped, any other goes first (R137, R286). -/
def State.clearEarlier (s : State) (p idx c : Nat) : Bool × State :=
  let before := [c - 1, c].eraseDups.flatMap fun k => ((s.entriesLeft p k).filter fun x => decide (k < c ∨ x.2 < idx)).map fun x => (x.1, x.2, k)
  let dead := before.filter fun x => !s.entryAlive p x.1
  let gone := before.filter fun x => s.entryAlive p x.1 && (s.lateB x.1 x.2.2 || !s.entryFits x.1 x.2.2)
  let s := dead.foldl (fun s x => (s.markRan p x.2.1 x.2.2).failEntry x.1 x.2.2) s
  (decide (dead.length + gone.length < before.length), gone.foldl (fun s x => (s.markRan p x.2.1 x.2.2).skipEntry p x.1 x.2.2) s)

/-- A read of the list starts at its time, or is skipped (R285, R286). -/
def State.readStart (s : State) (p idx : Nat) (e : CutEntry) (c : Nat) (old : Bool) : State :=
  let (waits, s) := if old then (false, s) else s.clearEarlier p idx c
  let s := if 64 ≤ p then s.endLateRetries (p - 64) else s
  if !s.entryAlive p e then (s.markRan p idx c).failEntry e c
  else if old && !s.tailFits p e then (s.markRan p idx c).swapSkip p (e, c)
  else if s.lateB e c || !s.entryFits e c then (s.markRan p idx c).skipEntry p e c
  else if waits || s.warning || s.scr.paused then s
  else if !(s.windowOpen p || e.kind = .zoneWrite) then s
  else if 64 ≤ p ∧ (s.cappingReady p ∨ s.retryReady (p - 64)) then s
  else if p < 64 ∧ s.breikRetryReady p then s
  else if s.engineFree p then (s.markRan p idx c).launchEntry p e c else s

/-- CUT_LIST_ENTRY_START: entry `idx` of the port's list, or beyond it of the old list's remainder (R285),
starts at its time, or is skipped. A strike trigger goes out only on an idle port (R109, R110) and not
while strikes are shed (R52, R63). -/
def State.entryStart (s : State) (p idx : Nat) : State :=
  let list := s.listOf p (tget {} s.scr.lists p)
  let q := s.portQ p
  let item : Option (CutEntry × Int) := match list[idx]? with
    | some e => some (e, s.entryCycle e)
    | none => (q.tail[idx - list.length]?).map fun x => (x.1, (x.2 : Int))
  match item with
  | none => s
  | some (e, c) =>
    let old := decide (list.length ≤ idx)
    if c < 0 ∨ s.halterOn ∨ q.ran.contains (idx, c.toNat) ∨ (!old ∧ c < s.scr.swapCount) ∨ (!old ∧ !s.entryDue p e c.toNat) then s
    else if e.kind = .strikeSpan then
      let s := s.markRan p idx c.toNat
      if s.warning || s.shedFree || s.pole.waits || !s.engineFree p || !s.entryAlive p e then s
      else s.strikeTrigger p e.angle (s.wheel.instantOf s.now ((e.angle : Rat) + 65536 * ((c - s.wheel.cycle : Int) : Rat)))
    else s.readStart p idx e c.toNat old

/-! ### Field jobs -/

/-- The Breik command of a field job, and its planned length (R86, R89, R266, R362, R367). A PICK for a standard frame
at 125 ns, a raw one too, asks for the extended frame. [DESIGN CHOICE, log 135] -/
def State.awlJob (s : State) (n : Nat) (j : Job) : AwlCmd × Nat :=
  let p := s.awl n
  let pt := s.point j.pointIdx
  let pick (pos kind : Nat) : AwlCmd × Nat :=
    let kind := p.sendKind kind
    ({ use := .job j.slot, code := 3, pos := pos, kind := kind }, p.pickLen 3 kind)
  if p.mode = 2 then
    ({ use := .job j.slot, code := 8, pos := if j.opcode = opRawXfer then bitsAt (j.word 1) 16 7 else pt.addr }, p.sentLen)
  else if j.opcode = opReadNow then pick pt.addr (if pt.cmd = 2 then 1 else 0)
  else if j.opcode = opWriteTarget then
    let w2 := j.word 2
    ({ use := .job j.slot, code := 6, pos := pt.addr, kind := 3, wreg := bitsAt w2 0 8, wval := bitsAt w2 8 16, wmode := b2n (bitAt w2 24) },
     p.writeLen (b2n (bitAt w2 24)))
  else
    let pos := bitsAt (j.word 1) 16 7
    match bitsAt (j.word 1) 8 8 with
    | 3 => pick pos (bitsAt (j.word 1) 24 2)
    | 5 => ({ use := .job j.slot, code := 5, pos := pos, kind := 4 }, p.pickLen 5 1)
    | _ => ({ use := .job j.slot, code := 6, pos := pos, kind := 3, wreg := bitsAt (j.word 1) 24 8, wval := bitsAt (j.word 3) 0 16
              wmode := b2n (bitAt (j.word 3) 16) }, p.writeLen (b2n (bitAt (j.word 3) 16)))

/-- A job waits for a poll window: READ_NOW and RAW_XFER do, WRITE_TARGET does not (R54). -/
def State.jobGated (s : State) (p : Nat) (j : Job) : Bool :=
  !s.windowOpen p && (j.opcode = opReadNow || j.opcode = opRawXfer)

/-- The waiting job that may start now: of those in the port's places, else of those that wait in Foreman G (R54, R288,
R289). [DESIGN CHOICE, log 49, 134] -/
def State.nextOpenJob (s : State) (p : Nat) : Option Job :=
  let free (j : Job) : Bool := !s.jobGated p j && !s.jobBehind p j
  (s.jobPlaces p).find? free <|> (s.jobsInG p).find? free

/-- Start a job's transaction in a gap (R288, R289); a WRITE to a position in NV busy is held (R102). -/
def State.startJob (s : State) (p : Nat) (j : Job) : State :=
  if p < 64 then
    let (c, len) := s.awlJob p j
    if c.code = 6 ∧ (s.awl p).nvBusy.contains c.pos then
      ((s.unqueue p j.slot).awlCount p 15).onAwl p fun a => { a with heldWrites := a.heldWrites ++ [j.slot] }
    else if !s.fitsGap p len then s
    else
      let s := (((s.unqueue p j.slot).scrCount p 2).onJob j.slot fun j => { j with onWire := true }).closeRoll p
      if (s.awl p).mode = 2 then s.onAwl p fun a => a.spcTrigger s.now c
      else s.onAwl p fun a => a.send c
  else
    let x := s.twJob j false
    if !s.fitsGap p (s.jobSlot j) then s
    else
      (((s.unqueue p j.slot).scrCount p 2).onJob j.slot fun j => { j with onWire := true }).onTw (p - 64)
        fun t => { t with segFree := false, xfer := some x }

/-- The next of a port's capping writes, a ship write of Tally's before the rest (R290, R481). -/
def State.startCapping (s : State) (p : Nat) : State :=
  let go (s : State) (x : TwXfer) : State :=
    ((s.scrCount p 3).onPortQ p fun q => { q with capUntil := some (s.now + x.slot (s.tw (p - 64)).rate) }).onTw (p - 64) fun t => { t with segFree := false, xfer := some x }
  match (s.portQ p).ship, s.nextCapping p with
  | x :: rest, _ => go (s.onPortQ p fun q => { q with ship := rest }) x
  | [], some j => go ((s.unqueue p j.slot).onJob j.slot fun j => { j with onWire := true }) (s.twJob j true)
  | [], none => s

/-- The next alert read of a port: an input in service whose current port this is, the first of those left that is in
service (R202). [DESIGN CHOICE, log 37] -/
def State.alertInput (s : State) (m : Nat) : Option Nat :=
  (List.range 8).find? fun a =>
    let x := s.alertOf a
    x.pending && decide (x.ports.find? s.twServing = some m) && s.alertEnabled a && (s.alertPorts a).contains m

/-- An ARA read goes out on port `m`: the ports before it have been passed over. -/
def AlertSvc.ask (x : AlertSvc) (m : Nat) : AlertSvc :=
  { x with ports := x.ports.dropWhile (· != m), reads := (if x.ports.head? = some m then x.reads else 0) + 1 }

/-- A VOUT_MODE read that is due on a port (R261). [DESIGN CHOICE, log 49] -/
def State.vmodeDue (s : State) (m : Nat) : Option Nat :=
  (s.tab.vmode.find? fun x => decide (x.1 / 128 = 64 + m) && x.2.due).map fun x => x.1 % 128

/-- One identity PICK of a sweep (R143). -/
def State.sweepPick (s : State) (n : Nat) : State :=
  let p := s.awl n
  let pos := if p.chainLen.toNat < p.sweepPos then 1 else p.sweepPos
  if p.life = .service && decide (0 < p.sweepLeft) && decide (0 < p.chainLen.toNat) && s.windowOpen n && s.fitsGap n (p.pickLen 3 2) then
    (s.closeRoll n).onAwl n fun p => ({ p with sweepPos := pos + 1, sweepLeft := p.sweepLeft - 1 }).send { use := .sweep, code := 3, pos := pos, kind := 2 }
  else s

/-- GAP_TRANSACTION_START: retries, capping writes, alert service, jobs, VOUT_MODE reads and identity
sweeps, in that order (R287); under the brown-out warning only capping writes start (R552).
[DESIGN CHOICE, log 37, 49] -/
def State.gapStart (s : State) (p : Nat) : State :=
  if s.halterOn || !s.engineFree p then s
  else if s.warning then (if 64 ≤ p then s.startCapping p else s)
  else if p < 64 then
    if !(s.awl p).retries.isEmpty && !s.retryHeld p then s.breikRetry p
    else if (s.awl p).changeCause ≠ 0 then s
    else
      match s.nextOpenJob p with
      | some j => s.startJob p j
      | none => if (s.awl p).mode = 1 then s.sweepPick p else s
  else
    let m := p - 64
    if s.cappingReady p then s.startCapping p
    else if !(s.tw m).retries.isEmpty then s.startRetry m
    else
      match (if s.windowOpen p then s.alertInput m else none) with
      | some a =>
        let x : TwXfer := { use := .ara a, addr := 0xC, rlen := 1, pec := bitAt s.ports.alertCfg.toNat a, left := Config.alertRetries, arbLeft := s.arbRetries }
        if s.fitsGap p (x.slot (s.tw m).rate) then
          ((s.bklCount m 17).onAlert a fun y => y.ask m).onTw m fun t => { t with segFree := false, xfer := some x }
        else s
      | none =>
        match s.nextOpenJob p with
        | some j => s.startJob p j
        | none =>
          match (if s.windowOpen p then s.vmodeDue m else none) with
          | some target =>
            let x : TwXfer := { use := .vmode target, addr := target, tx := some [0x20], rlen := 1, pec := s.targetPec m target, arbLeft := s.arbRetries }
            if s.fitsGap p (x.slot (s.tw m).rate) then s.onTw m fun t => { t with segFree := false, xfer := some x } else s
          | none => s

/-- CAPPING_WRITE_START: ahead of everything else of its port, when no attempt is executing (R290). -/
def State.cappingStart (s : State) (p : Nat) : State :=
  if 64 ≤ p ∧ p < 128 ∧ s.engineFree p then s.startCapping p else s

/-! ### Field jobs: from their start to their port's queue -/

/-- FLAGS.FENCE lets the job start (R358). -/
def State.fenceFree (s : State) (j : Job) : Bool :=
  s.link.jobs.all fun k => !(decide (k.ring = j.ring) && decide (k.order < j.order) && !k.posted && !k.draining && (j.fence || k.fence))
    || decide (512 ≤ k.slot)

/-- The job in `slot` with this opcode, if it may start now. -/
def State.startable (s : State) (slot op : Nat) : Option Job :=
  match s.job? slot with
  | some j => if j.opcode = op && !j.started && !j.posted && !j.draining && s.fenceFree j then some j else none
  | none => none

/-- LEN of a two-wire WRITE_TARGET, as the point's XFER requires (R362). -/
def Point.lenOk (pt : Point) (len : Nat) : Bool :=
  match pt.xfer with
  | 0 => decide (len = 1)
  | 1 => decide (len = 2)
  | 2 => decide (len = 4)
  | 3 => decide (len = 8)
  | 4 => decide (1 ≤ len)
  | _ => decide (len = 1)

/-- PROTO, WLEN and RLEN as R365 and R367 allow for the port's mode. -/
def rawOk (port mode : Nat) (w : Nat → Nat) : Bool :=
  let proto := bitsAt (w 1) 8 8
  let wl := bitsAt (w 2) 0 8
  let rl := bitsAt (w 2) 8 8
  let pw (n : Nat) : Bool := decide (n = 1 ∨ n = 2 ∨ n = 4 ∨ n = 8)
  if port < 64 then
    let pos := bitsAt (w 1) 16 7
    if mode = 2 then decide (proto = 8) && decide (pos ≤ 3)
    else (decide (proto = 3) || decide (proto = 5) || decide (proto = 6)) && decide (1 ≤ pos ∧ pos ≤ 96)
  else
    match proto with
    | 0x40 => decide (wl = 0 ∧ rl = 0)
    | 0x41 => decide (wl = 0 ∧ rl = 0)
    | 0x42 => decide (wl = 0 ∧ rl = 0)
    | 0x43 => decide (wl = 0 ∧ rl = 1)
    | 0x44 => pw wl && decide (rl = 0)
    | 0x45 => decide (wl ≤ 1) && pw rl
    | 0x46 => decide (1 ≤ wl ∧ rl = 0)
    | 0x47 => decide (wl ≤ 1 ∧ 1 ≤ rl)
    | 0x48 => decide (wl = 2 ∧ rl = 2)
    | 0x49 => decide (1 ≤ wl ∧ 1 ≤ rl)
    | 0x4A => decide (3 ≤ wl ∧ rl = 0)
    | 0x4B => decide (rl = 0)
    | 0x4C => decide (1 ≤ rl)
    | _ => false

/-- Bytes a field job reads from host memory before it can go out (R362, R363). -/
def State.imageNeed (s : State) (j : Job) : Nat :=
  if j.opcode = opRawXfer then bitsAt (j.word 2) 0 8
  else if j.opcode = opWriteTarget ∧ 64 ≤ (s.point j.pointIdx).src then
    let n := bitsAt (j.word 2) 0 8
    if 8 < n then n else 0
  else 0

/-- The value in force of a local source, and when it was captured (R252, R266). -/
def State.localRead (s : State) (slot : Nat) (pt : Point) : State :=
  if pt.src = 128 then
    match s.ports.conv.find? fun x => decide (x.1 = pt.addr) with
    | none => s.finishRead slot none (leBytes 8 0)
    | some (_, code, at') =>
      let (y, s) := match pt.field 0 12 code with
        | some u => s.normalizeAt pt u
        | none => (none, s)
      s.finishRead slot (y.map fun v => { value := v, mid2 := 2 * at' }) (s.instantBytes (2 * at'))
  else if pt.src = 129 ∧ !s.stringConfigured pt.addr then s.failWire slot 0x201
  else
    let (y, s) := s.localReading pt
    let at' := s.localInstant pt
    s.finishRead slot (y.map fun v => { value := v, mid2 := 2 * at' }) (if at' = 0 then leBytes 8 0 else s.instantBytes (2 * at'))

/-- A field job on a Breik port in the life it finds (R150, R156). -/
def State.enqueueBreik (s : State) (n : Nat) (j : Job) : State :=
  let p := s.awl n
  let raw := j.opcode = opRawXfer
  let hold (s : State) : State := s.onAwl n fun p => { p with held := p.held ++ [j.slot] }
  let mark := s.mark j.pointIdx
  match p.life with
  | .service =>
    if raw then s.queueWire j.slot
    else if mark.absent then s.failWire j.slot 0x201
    else if !mark.verified then s.failWire j.slot 0x202
    else s.queueWire j.slot
  | .unstable =>
    if p.search.isSome ∨ p.prefixWait.isSome then (if raw then s.failWire j.slot 0x204 else hold s)
    else if raw ∨ mark.verified then s.queueWire j.slot
    else s.failWire j.slot 0x205
  | .fenced => s.failWire j.slot 0x206
  | _ => if raw then s.failWire j.slot 0x204 else hold s

/-- Hand a started field job whose bytes are in to its port (R150, R266, R288, R291, R380). -/
def State.enqueueField (s : State) (slot : Nat) : State :=
  match s.job? slot with
  | none => s
  | some j =>
    let raw := j.opcode = opRawXfer
    let pt := s.point j.pointIdx
    let p := s.jobPort j
    let mode := s.portMode p
    if s.halterOn then s.failWire slot 7
    else if !raw ∧ !pt.valid then s.failWire slot 0x200
    else if !raw ∧ j.opcode = opWriteTarget ∧ (128 ≤ p ∨ (p < 64 ∧ mode = 2)) then s.failWire slot 0x203
    else if 128 ≤ p then s.localRead slot pt
    else if mode = 0 then s.failWire slot 0x208
    else if s.portFenced p then s.failWire slot 0x206
    else if raw ∧ !rawOk p mode j.word then s.failWire slot 2
    else if p < 64 then
      if mode = 2 then s.queueWire slot
      else s.enqueueBreik p j
    else
      let len := bitsAt (j.word 2) 0 8
      if j.opcode = opWriteTarget ∧ !pt.lenOk len then s.failWire slot 2
      else if (s.rules.capWin : Int) < s.rules.au (s.jobSlot j) then s.failWire slot 0x209
      else s.queueWire slot

/-- READ_NOW, WRITE_TARGET and RAW_XFER start: they read their bytes first when they need some. -/
def State.startField (s : State) (slot op : Nat) : State :=
  match s.startable slot op with
  | none => s
  | some j =>
    let s := s.onJob slot fun j => { j with started := true }
    if 0 < s.imageNeed j ∧ !j.read then s else s.enqueueField slot

/-! ### Chain and port jobs (R150, R151, R158, R160) -/

def Job.portArg (j : Job) : Nat := bitsAt (j.word 1) 0 8

/-- Why a chain job cannot run on a port, if it cannot. -/
def State.chainRefusal (s : State) (p : Nat) : Option Nat :=
  if s.halterOn then some 7
  else if 128 ≤ p then some 2
  else if s.portMode p = 0 then some 0x208
  else if 64 ≤ p ∨ s.portMode p ≠ 1 then some 0x207
  else if s.portFenced p then some 0x206
  else none

def State.attachSearch (s : State) (n slot : Nat) : State := s.onAwl n fun p => { p with searchJobs := p.searchJobs ++ [slot] }

/-- [DESIGN CHOICE, log 48] -/
def State.chainSearch (s : State) (slot : Nat) : State :=
  match s.startable slot opChainSearch with
  | none => s
  | some j =>
    let s := s.onJob slot fun j => { j with started := true }
    let n := j.portArg
    match s.chainRefusal n with
    | some st => s.complete slot st
    | none =>
      let s := s.attachSearch n slot
      match (s.awl n).life with
      | .search => s
      | .swapWait => s
      | .unstable => (s.onAwl n fun p => { p with unstableExp := some s.fenceBase }).enterSearch n 1
      | .service => (s.onAwl n fun p => if p.changeCause = 0 then { p with changeCause := 1 } else p).settleChange n
      | _ => s.enterSearch n 1

def State.portReinit (s : State) (slot : Nat) : State :=
  match s.startable slot opPortReinit with
  | none => s
  | some j =>
    let s := s.onJob slot fun j => { j with started := true }
    let n := j.portArg
    match s.chainRefusal n with
    | some st => s.complete slot st
    | none => (((s.cutOffAwl n 0x204).onAwl n fun p => { p with seq := 0 }).attachSearch n slot).enterSearch n 0xB

def State.watching (s : State) (p : Nat) : Bool := if p < 64 then (s.awl p).watch else (s.tw (p - 64)).watch

/-- PORT_FENCE of a FENCED port: the cause becomes HOST, with no second event (R158). An unfence attempt that
still watches the lines has met a fence cause and fails now; a passed one of a two-wire port that waits for
its boundary is given up (R160, R161, R210). [DEDUCED, log 126] -/
def State.refence (s : State) (p : Nat) : State :=
  if s.watching p then s.fencePort p 4 0 true
  else if p < 64 then s.onAwl p fun a => { a with fenceCause := 4, nextAt := none }
  else
    let s' := (s.onTw (p - 64) fun a => { a with fenceCause := 4, nextAt := none, returning := none }).finishUnfence p 0x206
    if (s.tw (p - 64)).returning.isSome then s'.compilePlain else s'

def State.portFenceJob (s : State) (slot : Nat) : State :=
  match s.startable slot opPortFence with
  | none => s
  | some j =>
    let s := s.onJob slot fun j => { j with started := true }
    let p := j.portArg
    if 128 ≤ p then s.complete slot 2
    else if s.portMode p = 0 then s.complete slot 0x208
    else if s.portFenced p then (s.refence p).complete slot 0
    else (s.fencePort p 4 0).complete slot 0

/-- An unfence attempt watches the lines for 1 ms (R161, R210). PT_TW_STAT shows both lines high from its release of them
until its check reports otherwise. [DESIGN CHOICE, log 153] -/
def State.beginWatch (s : State) (p : Nat) (reset : Bool) : State :=
  if p < 64 then s.onAwl p fun a => { a with watch := true, nextAt := none, fenceExp := if reset then 0 else a.fenceExp }
  else s.onTw (p - 64) fun a => { a with watch := true, nextAt := none, scl := true, sda := true, fenceExp := if reset then 0 else a.fenceExp }

/-- The search or the return that follows a passed attempt is under way (R160). -/
def State.unfencing (s : State) (p : Nat) : Bool :=
  if p < 64 then
    (s.awl p).unfenced.isSome
  else (s.tw (p - 64)).returning.isSome

def State.portUnfenceJob (s : State) (slot : Nat) : State :=
  match s.startable slot opPortUnfence with
  | none => s
  | some j =>
    let s := s.onJob slot fun j => { j with started := true }
    let p := j.portArg
    let attach (s : State) : State := if p < 64 then s.onAwl p fun a => { a with unfenceJobs := a.unfenceJobs ++ [slot] }
      else s.onTw (p - 64) fun a => { a with unfenceJobs := a.unfenceJobs ++ [slot] }
    if s.halterOn then s.complete slot 7
    else if 128 ≤ p then s.complete slot 2
    else if s.portMode p = 0 then s.complete slot 0x208
    else if s.unfencing p then attach s
    else if s.portFenced p then attach (if s.watching p then s else s.beginWatch p true)
    else s.complete slot 0

/-- The instant of a port's next attempt has come (R155, R160). -/
def State.attemptDue (s : State) (p : Nat) : Bool :=
  (if p < 64 then (s.awl p).nextAt else (s.tw (p - 64)).nextAt).any fun t => decide (t ≤ s.now)

/-- UNFENCE_TIMER: the fence interval has passed, unless HOST fenced the port or AUTO is off (R160). -/
def State.unfenceTimer (s : State) (p : Nat) : State :=
  let cause := if p < 64 then (s.awl p).fenceCause else (s.tw (p - 64)).fenceCause
  if p < 128 ∧ s.portFenced p ∧ !s.watching p ∧ !s.unfencing p ∧ cause ≠ 4 ∧ s.fenceAuto ∧ !s.halterOn ∧ s.attemptDue p then s.beginWatch p false else s

/-- The two-wire port passed its line check: it serves again at the next boundary (R210). -/
def State.twReturns (s : State) (m : Nat) : State :=
  (s.onTw m fun t => { t with watch := false, sda := true, scl := true, returning := some (!t.unfenceJobs.isEmpty) }).compilePlain

/-- UNFENCE_LINE_CHECK_END (R161, R210). Lines that stayed high for the check have left the segment free (R182). -/
def State.lineCheckEnd (s : State) (p : Nat) (clkHigh dataHigh : Bool) : State :=
  if p < 64 then
    let a := s.awl p
    if !a.watch then s
    else if dataHigh then
      let byJob := !a.unfenceJobs.isEmpty
      if a.mode = 2 then
        let s := (s.onAwl p fun a => { a with watch := false, life := .off, nextAt := none }).compilePlain
        let s := s.post 0x021 p (unfencedPayload a.fenceCause.toNat byJob a.failedTries a.gen.toNat 2)
        s.finishUnfence p 0
      else (s.onAwl p fun a => { a with watch := false, unfenced := some byJob }).enterSearch p 8
    else (s.onAwl p fun a => { a with watch := false }).fencePort p a.fenceCause.toNat 0 true
  else
    let t := s.tw (p - 64)
    if !t.watch then s
    else
      let s := s.onTw (p - 64) fun t => { t with scl := clkHigh, sda := dataHigh }
      if clkHigh ∧ dataHigh then (s.onTw (p - 64) fun t => { t with segFree := true }).twReturns (p - 64)
      else if clkHigh then s
      else (s.onTw (p - 64) fun t => { t with watch := false }).fencePort p t.fenceCause.toNat 0 true

/-- A bus clear can be called for on a port in service: its segment is not free, as after entering service, a TIMEOUT
or a lost arbitration, also one whose winner addressed the Slovor, or it has a START or STOP to send (R207). -/
def State.clearCase (s : State) (m : Nat) : Bool :=
  let t := s.tw m
  let q := s.portQ (64 + m)
  s.twServing m && !t.lpi
    && (t.entered || t.xfer.isSome || !t.segFree || !t.retries.isEmpty || !q.jobs.isEmpty || !q.capping.isEmpty || !q.ship.isEmpty
      || (s.alertInput m).isSome || (s.vmodeDue m).isSome || !(s.upcoming (64 + m)).isEmpty)

/-- BUS_CLEAR: in service (R207, R208), or as the second half of an unfence attempt (R210). [DESIGN CHOICE, log 146] -/
def State.busClearEnd (s : State) (m pulses : Nat) (released : Bool) : State :=
  let t := s.tw m
  if t.fenced && t.watch then
    let s := s.bklCount m 19
    if released && decide (pulses ≤ 9) then s.twReturns m
    else (s.onTw m fun t => { t with watch := false }).fencePort (64 + m) t.fenceCause.toNat 0 true
  else if s.clearCase m then s.busClear m pulses released
  else s

/-- FENCE_INTERVAL_RESET: the port has stayed out of FENCED for 64 s (R160). -/
def State.intervalReset (s : State) (p : Nat) : State :=
  if s.portFenced p then s
  else if p < 64 then s.onAwl p fun a => { a with fenceExp := 0 }
  else s.onTw (p - 64) fun a => { a with fenceExp := 0 }

/-- FENCE_STUCK and FENCE_CHATTER on an Awl port in any life but OFF, or in SENT service (R157); one that
arises in an unfence attempt fails it (R161). [DESIGN CHOICE, log 112] -/
def State.fenceAwl (s : State) (n cause detail : Nat) : State :=
  let p := s.awl n
  if n < 64 ∧ p.mode ≠ 0 ∧ p.life ≠ .fenced ∧ (p.life ≠ .off ∨ p.mode = 2) ∧ !s.halterOn then s.fencePort n cause detail
  else if n < 64 ∧ p.life = .fenced ∧ p.watch ∧ !s.halterOn then s.fencePort n cause detail true
  else s

/-- FENCE_CHATTER: a 1 ms window with more falling edges than EDGES, or more short lows than GLITCHES; the
count that passed its limit is the detail (R157, R168). [DESIGN CHOICE, log 112] -/
def State.fenceChatter (s : State) (n edges glitches : Nat) : State :=
  let lim := s.ports.chainLimit.toNat
  if bitsAt lim 0 12 < edges then s.fenceAwl n 2 edges
  else if bitsAt lim 12 8 < glitches then s.fenceAwl n 2 glitches
  else s

/-- CLOCK_STUCK: the clock has been low for TIMEOUT + 10 ms, 10 ms of them after a TIMEOUT or with no transaction at
all (R209). -/
def State.clockStuck (s : State) (m lowUs : Nat) : State :=
  let t := s.tw m
  let late := match t.timeoutAt with
    | some x => decide (x + 10000 * us ≤ s.now)
    | none => false
  if m < 64 ∧ t.mode = 1 ∧ !t.fenced ∧ !s.halterOn ∧ t.xfer.isNone ∧ (late = true ∨ (bitsAt t.cfg.toNat 9 6 + 10) * 1000 ≤ lowUs) then
    (s.onTw m fun t => { t with scl := false }).fencePort (64 + m) 6 lowUs
  else s

/-! ### Alerts and low-power idle -/

def State.alertAssert (s : State) (a : Nat) : State :=
  let s := s.onAlert a fun x => { x with level := true }
  if (s.alertOf a).pending then s else s.alertStart a

/-- Service ends early when the input releases: a retry of an ARA read is given up, but an answer received is reported,
with its STATUS_WORD (R202). [DESIGN CHOICE, log 37] -/
def State.alertRelease (s : State) (a : Nat) : State :=
  let m := (s.alertOf a).ports.head?
  let s := s.onAlert a fun x => { x.done with level := false }
  match m with
  | some m => s.endLateRetries m
  | none => s

/-- ALERT_HOLDOFF: service starts again while the input stays asserted (R203). -/
def State.alertHoldoff (s : State) (a : Nat) : State :=
  let x := s.alertOf a
  if x.level && x.pending && x.ports.isEmpty then s.alertStart a else s

/-- LPI_ENTER: a gap of at least LPI_MIN ms with nothing queued, LPI_EN set (R204). -/
def State.lpiEnter (s : State) (m : Nat) : State :=
  let t := s.tw m
  let q := s.portQ (64 + m)
  if m < 64 ∧ s.twServing m ∧ t.lpiEn ∧ t.xfer.isNone ∧ !t.target ∧ t.retries.isEmpty ∧ q.jobs.isEmpty ∧ q.capping.isEmpty ∧ q.ship.isEmpty
      ∧ (s.alertInput m).isNone ∧ (s.vmodeDue m).isNone ∧ s.fitsGap (64 + m) (bitsAt t.cfg.toNat 24 4 * 1000 * us) then
    s.onTw m fun t => { t with lpi := true, waking := false }
  else s

/-- LPI_WAKE: a planned transaction, a job, a capping write or alert service wakes the engine (R204). -/
def State.lpiWake (s : State) (m : Nat) : State := s.onTw m fun t => if t.lpi then { t with waking := true } else t

/-- LPI_ADDRESS_MATCH: an address byte of the Slovor's is left NACKed and wakes the engine (R205). -/
def State.lpiMatch (s : State) (m : Nat) : State :=
  if (s.tw m).lpi then (s.bklCount m 16).onTw m fun t => { t with waking := true } else s

def State.lpiWakeDone (s : State) (m : Nat) : State :=
  s.onTw m fun t => if t.lpi && t.waking then { t with lpi := false, waking := false } else t

/-! ### Cinch telemetry points (R252) -/

/-- The conversion a strike takes: of those at and next to S the nearer, the later when equally near. -/
def nearerConv (at' : Nat) (prev : Option (Nat × Nat)) (cur : Nat × Nat) : Nat × Nat :=
  match prev with
  | some p => if p.2 ≤ at' && decide (at' - p.2 < cur.2 - at') then p else cur
  | none => cur

/-- A conversion reaches the Beam die: each strike whose point waits takes it when it lies nearest S, or the one
before it; a late one too (R315). [DEDUCED, log 122] -/
def State.cinchFeed (s : State) (ch code at' : Nat) : State :=
  let prev := (s.ports.conv.find? fun x => decide (x.1 = ch)).map (·.2)
  let s := s.onPorts fun p => { p with conv := tinsert p.conv ch (code, at') }
  s.openStrikes.foldl (fun s w =>
    let (angle, cycle, at1) := w
    if at1 < at' + convHalf then s.underStrike cycle fun s =>
      let pts := (s.tab.points.filter fun x => x.2.valid && decide (x.2.src = 128) && decide (x.2.addr = ch)).map (·.1)
      (pts.filter fun p => s.awaitedIn angle cycle p).foldl (fun s p =>
        s.captureConv angle cycle p (if at1 ≤ at' then nearerConv at1 prev (code, at') else (code, at'))) s
    else s) s

end Sys2Proof.Machine
end

