-- ==== Sys2Proof/Machine/Rail.lean ====
section
/-! DEFINITION. The Hitch rail (09): posting and taking a word under each mode (R397 to R401), bell
words (R403), epochs, aborts and orphans (R404 to R411), crossed posts (R412 to R415). -/
namespace Sys2Proof.Machine

def State.chan (s : State) (c : Nat) : Channel := tget {} s.rail.ch c
def State.onChan (s : State) (c : Nat) (f : Channel → Channel) : State :=
  if c < 16 then s.onRail fun r => { r with ch := tmod {} r.ch c f } else s

/-- Foreman G serves the channel (R394); else Foreman S. -/
def State.servedByG (s : State) (c : Nat) : Bool := decide (c < 8) || bitAt s.sill.c.toNat (3 + c)

/-- The host reaches the channel: the secure page only in a session (R393). -/
def State.chanOpen (s : State) (c : Nat) : Bool := decide (c < 8) || (decide (c < 16) && s.gate.session)

def State.hostEpochOf (s : State) (c : Nat) : BitVec 8 := if c < 8 then s.rail.hostEpoch else s.rail.hostSEpoch
def State.fwEpochOf (s : State) (c : Nat) : BitVec 8 := if s.servedByG c then s.rail.fgEpoch else s.rail.fsEpoch

/-- A bell bit sets when its mask bit is 1 and the compatibility bit is programmed (R403). -/
def State.ringBell (s : State) (b : Nat) : State :=
  if bitAt s.sill.c.toNat 9 && bitAt s.rail.bellMask.toNat b then
    s.onRail fun r => { r with bell := BitVec.ofNat 32 (setBit r.bell.toNat b true) }
  else s

/-- The inbound word is released: IN_FULL goes to 0, and CROSSED with it (R398, R412). -/
def State.releaseIn (s : State) (c : Nat) : State :=
  if (s.chan c).inb.full then
    (s.onChan c fun x => { x with inb := { x.inb with full := false, orphan := false, taken := false }, crossed := false }).ringBell (16 + c)
  else s

/-- The outbound word is released. -/
def State.releaseOut (s : State) (c : Nat) : State :=
  s.onChan c fun x => if x.outb.full then { x with outb := { x.outb with full := false, orphan := false }, crossed := false } else x

/-! ### The host's side -/

/-- A host write to HR_IN (R397). -/
def State.hrInWrite (s : State) (c : Nat) (v : Word) : State :=
  if !s.chanOpen c then s
  else if (s.chan c).inb.full then
    (s.onChan c fun x => { x with inReject := true }).onRail fun r => { r with cnt0 := satInc r.cnt0 }
  else s.onChan c fun x => { x with inb := { word := v, full := true, epoch := s.hostEpochOf c, postedAt := s.now }, ackValid := false }

/-- What a read of HR_OUT returns (R398). -/
def State.hrOutValue (s : State) (c : Nat) : Word :=
  if s.chanOpen c && (s.chan c).outb.full then (s.chan c).outb.word else 0

/-- A host read of HR_OUT: it releases a PLAIN word and an orphan (R398, R406). -/
def State.hrOutRead (s : State) (c : Nat) : State :=
  let x := s.chan c
  let s := { s with lastRead := s.hrOutValue c }
  if s.chanOpen c && x.outb.full && (!x.formal || x.outb.orphan) then s.releaseOut c else s

/-- A write to HR_ACK_OUT: taken in FORMAL mode for a word that is no orphan, else rejected (R399). -/
def State.hrAckOutWrite (s : State) (c : Nat) (code : BitVec 16) : State :=
  if !s.chanOpen c then s
  else
    let x := s.chan c
    if x.formal && x.outb.full && !x.outb.orphan then (s.releaseOut c).onChan c fun x => { x with fwAck := some code }
    else (s.onChan c fun x => { x with ackReject := true }).onRail fun r => { r with cnt1 := satInc r.cnt1 }

/-- A write to HR_CH_CFG: MODE under R401, MODE_REFUSED by writing 1. -/
def State.hrModeWrite (s : State) (c : Nat) (v : Word) : State :=
  if !s.chanOpen c then s
  else s.onChan c fun x =>
    let x := if bitAt v.toNat 2 then { x with modeRefused := false } else x
    let mode := bitAt v.toNat 0
    if mode == x.formal then x
    else if x.inb.full || x.outb.full then { x with modeRefused := true }
    else { x with formal := mode }

/-! ### The firmware's side -/

/-- The serving firmware reads the inbound word (R398, R406). -/
def State.firmwareRead (s : State) (c : Nat) : State :=
  let x := s.chan c
  if !x.inb.full then s
  else if !x.formal || x.inb.orphan then s.releaseIn c
  else s.onChan c fun x => { x with inb := { x.inb with taken := true } }

/-- The serving firmware acknowledges the inbound word (R398, R406). -/
def State.firmwareAck (s : State) (c : Nat) (code : BitVec 16) : State :=
  let x := s.chan c
  if !x.inb.full then s
  else if x.inb.orphan then s.releaseIn c
  else if x.formal then
    (s.releaseIn c).onChan c fun x => { x with ackCode := code, ackEpoch := s.fwEpochOf c, ackValid := true }
  else s

/-- The firmware posts an outbound word, only while OUT_FULL is 0 (R397). -/
def State.firmwarePost (s : State) (c : Nat) (v : Word) : State :=
  if c < 16 ∧ !(s.chan c).outb.full then
    (s.onChan c fun x => { x with outb := { word := v, full := true, epoch := s.fwEpochOf c, postedAt := s.now }, fwAck := none }).ringBell c
  else s

/-- The word the firmware takes from a channel to act on: posted, and no orphan, unless the firmware had read it before
its sender's reset (R406). -/
def State.serviceWord (s : State) (c : Nat) : Option Word :=
  let x := s.chan c
  if x.inb.full && (!x.inb.orphan || x.inb.taken) then some x.inb.word else none

/-- The firmware reads a word and answers it: in PLAIN mode the read releases it, in FORMAL mode the acknowledge does. -/
def State.serviceAnswer (s : State) (c code : Nat) : State := (s.firmwareRead c).firmwareAck c (BitVec.ofNat 16 code)

/-- CROSS_TIMEOUT: both words have waited, unacknowledged, in FORMAL mode, since the later post (R412, R415). -/
def State.crossTimeout (s : State) (c : Nat) : State :=
  let x := s.chan c
  if c < 16 ∧ x.formal ∧ x.inb.full ∧ x.outb.full ∧ !x.inb.orphan ∧ !x.outb.orphan ∧ !x.crossed ∧
      max x.inb.postedAt x.outb.postedAt + 256 * s.rail.crossTimeout.toNat ≤ s.now then
    let s := (s.onChan c fun x => { x with crossed := true }).onRail fun r => { r with cnt2 := satInc r.cnt2 }
    let word (w : Word) : List Byte := leBytes 4 (if c < 8 then w.toNat else 0)
    s.post 0x061 c (word x.inb.word ++ word x.outb.word ++ leBytes 2 s.rail.crossTimeout.toNat ++ [x.inb.epoch, x.outb.epoch])
  else s

/-! ### Resets of a party (R404 to R408) -/

/-- The host party of some channels is reset: outbound words are cleared, inbound words become orphans,
the mode returns to FORMAL. -/
def State.hostPartyReset (s : State) (cs : List Nat) : State :=
  cs.foldl (fun s c => s.onChan c fun x =>
    { x with fwAborted := x.fwAborted || x.outb.full
             outb := { x.outb with full := false, orphan := false }
             crossed := if x.outb.full then false else x.crossed
             inb := { x.inb with orphan := x.inb.full }, formal := true }) s

def lowChannels : List Nat := List.range 8
def secureChannels : List Nat := (List.range 8).map (· + 8)

/-- The host's secure party is reset (R404); the bells of its channels clear once no session is open (R403). -/
def State.secureHostReset (s : State) : State :=
  (s.onRail fun r => { r with hostSEpoch := r.hostSEpoch + 1, bell := if s.gate.session then r.bell else r.bell &&& 0x00FF00FF }).hostPartyReset secureChannels

/-- Foreman G or S restarts: inbound words it serves are aborted, its own words become orphans (R405, R406, R411). -/
def State.firmwareReset (s : State) (isG : Bool) : State :=
  let s := s.onRail fun r => if isG then { r with fgEpoch := r.fgEpoch + 1 } else { r with fsEpoch := r.fsEpoch + 1 }
  (List.range 16).foldl (fun s c =>
    if s.servedByG c != isG then s
    else
      let x := s.chan c
      let s := if x.inb.full then
          let s := ((s.releaseIn c).onChan c fun x => { x with aborted := true }).onRail fun r => { r with cnt3 := satInc r.cnt3 }
          s.post 0x060 c ([if isG then 1 else 2, BitVec.ofNat 8 (b2n x.formal), x.inb.epoch, s.fwEpochOf c]
            ++ leBytes 4 (if c < 8 then x.inb.word.toNat else 0) ++ [BitVec.ofNat 8 (b2n x.inb.taken)])
        else s
      s.onChan c fun x => { x with outb := { x.outb with orphan := x.outb.full }, formal := true, fwAck := none, fwAborted := false }) s

/-! ### Register values -/

def State.railStat (s : State) (base : Nat) : Word :=
  let bits (f : Channel → Bool) : Nat := (List.range 8).foldl (fun a i => a + (if f (s.chan (base + i)) then 2 ^ i else 0)) 0
  pack [(0, bits (·.outb.full)), (8, bits (·.inb.full)), (16, bits (·.ackValid)), (24, bits (·.crossed))]

def Channel.ackWord (x : Channel) : Word := pack [(0, x.ackCode.toNat), (16, x.ackEpoch.toNat), (31, b2n x.ackValid)]

def State.chanStat (s : State) (c : Nat) : Word :=
  let x := s.chan c
  pack [(0, b2n x.inb.full), (1, b2n x.outb.full), (2, b2n x.inb.orphan), (3, b2n x.outb.orphan), (4, b2n x.ackValid), (5, b2n x.crossed),
        (6, b2n x.inb.taken), (7, b2n x.aborted), (8, b2n x.inReject), (9, b2n x.ackReject), (16, x.inb.epoch.toNat), (24, x.outb.epoch.toNat)]

end Sys2Proof.Machine
end

