-- ==== Sys2Proof/Machine/Phase.lean ====
section
/-! DEFINITION. The phase wheel's parts that the cycle boundary and the edges share: the angle at any
instant (R21), the states and their events (R36 to R43), free-run (R22, R64), and the doorbell fetch
that a pole entry or the interval starts (R352). -/
namespace Sys2Proof.Machine

/-! ### The angle -/

/-- An angle difference wrapped into −32,768 to +32,767 (R31). -/
def wrap16 (d : Int) : Int := (d + 32768) % 65536 - 32768

/-- The wheel runs on from `t` at angle `a` with a new motion. -/
def Wheel.anchor (w : Wheel) (t : Nat) (a : Rat) (m : Motion) : Wheel := { w with anchorT := t, anchorA := a, motion := m }

/-- Anchor at the angle the wheel holds now. -/
def State.anchorNow (s : State) (m : Motion) : State := s.onWheel fun w => w.anchor s.now (w.angleRat s.now) m

/-! ### Sources and states -/

/-- The inputs a SEL listens to, the preferred first (R23): 0 ZXA, 1 ZXB, 5 ALP. -/
def Wheel.sources (w : Wheel) : List Nat :=
  match w.sel with
  | 0 => [0]
  | 1 => [1]
  | 2 => [0, 1]
  | 3 => [1, 0]
  | 5 => [5]
  | _ => []

def Wheel.input (w : Wheel) (i : Nat) : ZxInput := if i = 0 then w.a else if i = 1 then w.b else w.alp
def Wheel.onInput (w : Wheel) (i : Nat) (f : ZxInput → ZxInput) : Wheel :=
  if i = 0 then { w with a := f w.a } else if i = 1 then { w with b := f w.b } else { w with alp := f w.alp }

/-- PW_PERIOD of a frequency in mHz (R22). -/
def periodOf (mhz : Nat) : Nat := divRound 256000000000 mhz

/-- The frequency of the FREE state (R64). -/
def Wheel.freeMhz (w : Wheel) : Nat :=
  if w.sel = 4 then w.nominal.toNat else max 40000 (min 70000 w.nominal.toNat)

/-- PHASE_STATE (R43). [DESIGN CHOICE, log 21] -/
def State.postPhase (s : State) (prev : WheelState) (cause : Nat) (e : Int) : State :=
  s.post 0x030 0 ([BitVec.ofNat 8 s.wheelReported.code, BitVec.ofNat 8 prev.code, BitVec.ofNat 8 cause, BitVec.ofNat 8 s.wheel.active.toNat]
    ++ leBytes 4 s.wheel.period.toNat ++ leBytes 2 (toBits 16 e) ++ [BitVec.ofNat 8 s.wheel.missRun.toNat])

/-- RDY_PHASE (R39). [DESIGN CHOICE, log 21] -/
def State.phaseReady (s : State) : State := s.setReady 4 (decide (s.wheel.state = .locked) || decide (s.wheel.sel = 4))

/-- A change of the wheel's own state (R37, R43). [DESIGN CHOICE, log 15] -/
def State.setWheel (s : State) (st : WheelState) (cause : Nat) (e : Int) : State :=
  let prev := s.wheelReported
  if s.wheel.state = st then s
  else ((s.onWheel fun w => { w with state := st }).postPhase prev cause e).phaseReady

/-- Acquisition begins on the selected source, unless it is free-run (R37). -/
def State.beginAcq (s : State) : State :=
  s.onWheel fun w =>
    { w with acq := decide (w.sel ≠ 4), acqWait := false
             a := { w.a with acqEdges := [] }, b := { w.b with acqEdges := [] }, alp := { w.alp with acqEdges := [] } }

/-- The rate changes to the free-run frequency. -/
def State.freeRate (s : State) : State :=
  (s.anchorNow .run).onWheel fun w => { w with period := BitVec.ofNat 32 (periodOf w.freeMhz) }

/-- The wheel enters FREE (R37). -/
def State.toFree (s : State) : State :=
  ((s.freeRate).onWheel fun w => { w with holdLeft := 0, holdoverGood := 0, owed := none }).setWheel .free 3 0

/-! ### Doorbell fetches -/

/-- One read of the host half of the doorbell page begins (R56, R352). -/
def State.doorbellFetch (s : State) : State :=
  if s.linkActive then s.onLink fun l => { l with fetching := l.fetching + 1 } else s

end Sys2Proof.Machine
end

