-- ==== Sys2Proof/Machine/Host.lean ====
section
/-! DEFINITION. The host link (08): set-up and GO (R345 to R350), the doorbell page and descriptor
fetches (R351 to R357), the tests of R360, event records and MSI-X (R372 to R376), drains and
host-link resets (R386 to R390), and the power states (R341, R528). -/
namespace Sys2Proof.Machine

/-! ### Rings and queues -/

def State.ring (s : State) (j : Nat) : JobRing := tget {} s.link.rings j
def State.onRing (s : State) (j : Nat) (f : JobRing → JobRing) : State :=
  if j < 8 then s.onLink fun l => { l with rings := tmod {} l.rings j f } else s

/-- Base address of a ring or queue from its LO and HI registers. -/
def baseOf (lo hi : Word) : Nat := bitsAt lo.toNat 12 20 * 4096 + hi.toNat * 2 ^ 32

def JobRing.enabled (r : JobRing) : Bool := bitAt r.cfg.toNat 0
def JobRing.size (r : JobRing) : Nat := 2 ^ bitsAt r.cfg.toNat 1 4
def JobRing.burst (r : JobRing) : Nat := bitsAt r.cfg.toNat 5 5
def EvQueue.vector (q : EvQueue) : Nat := bitsAt q.cfg.toNat 5 5
def EvQueue.coalCnt (q : EvQueue) : Nat := bitsAt q.cfg.toNat 10 6
def EvQueue.coalTime (q : EvQueue) : Nat := bitsAt q.cfg.toNat 16 8
def SnapRing.enabled (r : SnapRing) : Bool := bitAt r.cfg.toNat 0
def SnapRing.buffers (r : SnapRing) : Nat := 2 ^ bitsAt r.cfg.toNat 1 4
def SnapRing.bufBytes (r : SnapRing) : Nat := bitsAt r.cfg.toNat 5 13 * 4096

def eight : List Nat := List.range 8

/-! ### GO (R346 to R350) -/

def State.doorbellBase (s : State) : Nat := baseOf s.link.dbLo s.link.dbHi

/-- GO_ERR: the first failure of the set-up, 0 for none (R346). An enabled queue counts as a ring. [DEDUCED, log 56] -/
def State.goCheck (s : State) : Nat :=
  if s.doorbellBase = 0 then 1
  else if !(eight.any fun q => (s.queue q).enabled) then 2
  else if (eight.any fun j => (s.ring j).enabled && decide (baseOf (s.ring j).lo (s.ring j).hi = 0))
      || (eight.any fun q => (s.queue q).enabled && decide (baseOf (s.queue q).lo (s.queue q).hi = 0))
      || (courseNumbers.any fun c => (s.snapRing c).enabled && decide (baseOf (s.snapRing c).lo (s.snapRing c).hi = 0)) then 3
  else if !s.link.bme then 4
  else 0

def State.draining (s : State) : Bool := s.link.jobs.any (·.draining)

/-- Host copies and rack snapshots of an earlier start are given up. [DESIGN CHOICE, log 58] -/
def State.dropHostCopies (s : State) : State :=
  s.onTack fun k => { k with courses := tmap {} (fun c => { c with copies := c.copies.filter (·.2), merges := [] }) k.courses }

/-- Completions held for a queue that the host has disabled since go to the lowest enabled one (R359, R375).
[DEDUCED, log 127] -/
def State.rerouteHeld (s : State) : State :=
  let off := eight.filter fun q => !(s.queue q).enabled
  let moved := off.flatMap fun q => (s.queue q).holdC
  if moved.isEmpty then s
  else
    let s := off.foldl (fun s q => s.onQueue q fun x => { x with holdC := [] }) s
    s.onQueue s.firstQueue fun x => { x with holdC := x.holdC ++ moved }

/-- The link starts: every index at 0 (R347). [DESIGN CHOICE, log 58] -/
def State.startLink (s : State) : State :=
  (s.dropHostCopies.rerouteHeld.onLink fun l => { l with
    running := true, startWait := false, fetching := 0, reads := [], wbDue := 0, wbLast := none, consecFails := 0
    rings := tmap {} (fun x => { x with ci := 0, err := 0, prod := 0 }) l.rings
    queues := tmap {} (fun x => { x with pi := 0, ci := 0, err := false, unsig := 0 }) l.queues
    snaps := tmap {} (fun x => { x with pi := 0, ci := 0 }) l.snaps }).flushHeld

/-- HL_GO_SET: GO is written 1, with Bus Master Enable as it stands (R346). [DEDUCED, log 56] -/
def State.goSet (s : State) (bme : Bool) : State :=
  let s := s.onLink fun l => { l with bme := bme }
  if s.link.go then s
  else
    let e := s.goCheck
    if e ≠ 0 then s.onLink fun l => { l with goErr := BitVec.ofNat 3 e }
    else
      let s := s.onLink fun l => { l with go := true, goErr := 0, quiesced := false }
      if s.draining then s.onLink fun l => { l with startWait := true } else s.startLink

/-- R349: fetching stops; DMA already begun completes. -/
def State.stopLink (s : State) : State :=
  s.parkEvents.onLink fun l => { (if l.running then l.markBegun else l) with go := false, running := false, startWait := false, wbDue := 0 }

def State.goClear (s : State) : State := if s.link.go then s.stopLink else s

/-- HL_QUIESCED: nothing more will reach host memory. -/
def State.quiesce (s : State) : State :=
  if s.link.go then s else s.onLink fun l => { l with quiesced := true, fetching := 0, reads := [] }

/-- BUS_MASTER_DISABLE (R350). -/
def State.busMasterOff (s : State) : State :=
  let s := s.onLink fun l => { l with bme := false }
  if s.link.go then s.stopLink.onLink fun l => { l with bmeLost := true } else s

/-! ### The doorbell page (R352 to R354) -/

/-- DOORBELL_FETCH_FAILED (R354). -/
def State.fetchFailed (s : State) : State :=
  if s.link.fetching = 0 then s
  else
    let s := s.onLink fun l => { l with fetching := l.fetching - 1, dbFails := satInc l.dbFails, consecFails := l.consecFails + 1 }
    if 16 ≤ s.link.consecFails ∧ s.link.go then s.stopLink.onLink fun l => { l with dbFail := true, consecFails := 0 } else s

/-- Jobs in flight, of this and earlier sessions (R358). -/
def State.jobsInFlight (s : State) : Nat := (s.link.jobs.filter fun j => decide (j.slot < 512)).length

/-- Jobs in flight and descriptors still to come. -/
def State.inFlight (s : State) : Nat :=
  s.jobsInFlight + s.link.reads.foldl (fun a r => a + r.n) 0

/-- The host half has come back: consumer indices of queues and snapshot rings (R372, R376, R383). -/
def State.takeIndices (s : State) (ws : List Nat) : State :=
  let ix (k : Nat) : BitVec 16 := BitVec.ofNat 16 (ws.getD k 0)
  let s := eight.foldl (fun s q => s.onQueue q fun x =>
    if !x.enabled then x
    else if x.size < countDiff x.pi (ix (8 + q)) then { x.park with ci := ix (8 + q), err := true }
    else { x with ci := ix (8 + q) }) s
  courseNumbers.foldl (fun s c => s.onSnapRing c fun r => if r.enabled then { r with ci := ix (16 + c) } else r) s

/-- Producer indices of the job rings: BAD_INDEX when one is too far ahead (R356). -/
def State.takeProducers (s : State) (ws : List Nat) : State :=
  eight.foldl (fun s j => s.onRing j fun r =>
    if r.enabled && decide (r.err = 0) then
      let p : BitVec 16 := BitVec.ofNat 16 (ws.getD j 0)
      if r.size < countDiff p r.ci then { r with prod := p, err := 1 } else { r with prod := p }
    else r) s

/-- Descriptors of a ring that a read has asked for, beyond its consumer index. -/
def State.asked (s : State) (j : Nat) : Nat := (s.link.reads.filter fun x => decide (x.ring = j) && !x.counted).foldl (fun a x => a + x.n) 0

/-- Descriptors of a ring that no read has asked for. -/
def State.unfetched (s : State) (j : Nat) : Nat :=
  let r := s.ring j
  if r.enabled ∧ r.err = 0 then countDiff r.prod r.ci - s.asked j else 0

/-- One round: up to BURST descriptors of each ring, split where the ring wraps (R357). -/
def State.fetchRound (s : State) : State :=
  eight.foldl (fun s j =>
    let r := s.ring j
    let n := min (min r.burst (s.unfetched j)) (512 - s.inFlight)
    if n = 0 then s
    else
      let at' := (r.ci.toNat + s.asked j) % r.size
      let first := min n (r.size - at')
      s.onLink fun l => { l with reads := l.reads ++ [{ ring := j, n := first, fetch := l.fetchNo }]
        ++ (if first < n then [{ ring := j, n := n - first, fetch := l.fetchNo }] else []) }) s

/-- Rounds until no ring holds unfetched descriptors or 512 jobs are in flight. -/
def State.fetchRounds (s : State) : Nat → State
  | 0 => s
  | k + 1 => if (eight.any fun j => decide (0 < s.unfetched j)) ∧ s.inFlight < 512 then s.fetchRound.fetchRounds k else s

/-- Every descriptor read that a fetch started has returned: its write-back is due (R353). -/
def State.fetchBack (s : State) (k : Nat) : State :=
  if s.link.running && s.link.reads.all (fun r => r.back || decide (r.fetch ≠ k)) then s.onLink fun l => { l with wbDue := l.wbDue + 1 } else s

/-- DOORBELL_FETCH_DONE (R357); descriptors are fetched once Foreman G is ready (R530), and while the link may read host
memory (R341). -/
def State.fetchDone (s : State) (ws : List Nat) : State :=
  if s.link.fetching = 0 then s
  else
    let s := s.onLink fun l => { l with fetching := l.fetching - 1, consecFails := 0, fetchNo := l.fetchNo + 1 }
    if !s.link.running then s
    else
      let s := s.takeIndices ws
      (if bitAt s.core.ready.toNat 2 && s.linkActive then (s.takeProducers ws).fetchRounds 512 else s).fetchBack s.link.fetchNo

/-- The values of the upper half: indices of rings, queues and snapshot rings, and BOOT_ID (R351). -/
def State.upperHalf (s : State) : List Nat :=
  (eight.map fun j => (s.ring j).ci.toNat) ++ (eight.map fun q => (s.queue q).pi.toNat)
    ++ (courseNumbers.map fun c => (s.snapRing c).pi.toNat) ++ [s.core.bootId.toNat]

/-- DOORBELL_WRITE_BACK (R353): once per fetch, and only when a value has changed. [DESIGN CHOICE, log 57] -/
def State.writeBack (s : State) : State :=
  if !s.linkActive || decide (s.link.wbDue = 0) then s
  else
    let v := s.upperHalf
    let s := s.onLink fun l => { l with wbDue := l.wbDue - 1 }
    if s.link.wbLast = some v then s
    else
      let s := s.onLink fun l => { l with wbLast := some v, wbCount := l.wbCount + 1 }
      s.writeHost (s.doorbellBase + 0x800) ((v ++ [s.link.wbCount.toNat]).flatMap (leBytes 4))

/-! ### Acceptance (R358 to R362) -/

/-- Every word of a list of word numbers is zero. -/
def zeroWords (w : Nat → Nat) (ks : List Nat) : Bool := ks.all fun k => decide (w k = 0)

def wordsFrom (k : Nat) : List Nat := (List.range (16 - k)).map (· + k)

/-- R362: every reserved word and field zero, every field within its range: LEN of a WRITE_TARGET by its point, of a point
that cannot be written only what both layouts share (R380); PROTO, WLEN and RLEN by the port (R365, R367), while it is on. -/
def State.descOk (s : State) (op : Nat) (w : Nat → Nat) : Bool :=
  let port := decide (bitsAt (w 1) 0 8 < 128) && decide (w 1 < 256)
  match op with
  | 0x00 => zeroWords w (wordsFrom 1)
  | 0x01 => decide (w 1 = 0) && decide (w 2 % 8 = 0) && decide (16 ≤ w 4 ∧ w 4 ≤ 1048576) && zeroWords w (wordsFrom 5)
  | 0x02 =>
    let n := bitsAt (w 1) 16 13
    decide (bitsAt (w 1) 12 4 = 0) && decide (bitsAt (w 1) 29 3 = 0) && decide (1 ≤ n ∧ n ≤ 4096)
      && decide (bitsAt (w 1) 0 12 + n ≤ 4096) && zeroWords w (wordsFrom 4)
  | 0x03 => decide (1 ≤ w 1 ∧ w 1 < 65536) && zeroWords w (wordsFrom 4)
  | 0x04 => decide (1 ≤ w 1 ∧ w 1 ≤ 256) && zeroWords w (wordsFrom 4)
  | 0x08 => decide (w 1 < 2 ^ 20) && !bitAt (w 1) 15 && zeroWords w (wordsFrom 2)
  | 0x09 =>
    let pt := s.point (bitsAt (w 1) 0 15)
    decide (w 1 < 2 ^ 20) && !bitAt (w 1) 15 && decide (w 3 = 0) && zeroWords w (wordsFrom 8) && decide (w 2 < 2 ^ 25)
      && (if !pt.valid || decide (128 ≤ pt.src) || (decide (pt.src < 64) && decide (s.portMode pt.src = 2)) then true
          else if pt.src < 64 then zeroWords w [4, 5, 6, 7]
          else decide (w 2 < 256) && pt.lenOk (bitsAt (w 2) 0 8))
  | 0x0A => decide (bitsAt (w 1) 0 8 < 128) && decide (bitsAt (w 1) 23 1 = 0) && decide (w 2 < 2 ^ 20) && decide (w 3 < 2 ^ 17)
      && zeroWords w (wordsFrom 8)
      && ((decide (bitsAt (w 1) 0 8 < 64) && decide (s.portMode (bitsAt (w 1) 0 8) = 0)) || rawOk (bitsAt (w 1) 0 8) (s.portMode (bitsAt (w 1) 0 8)) w)
  | 0x10 => port && zeroWords w (wordsFrom 2)
  | 0x11 => port && zeroWords w (wordsFrom 2)
  | 0x12 => port && zeroWords w (wordsFrom 2)
  | 0x13 => port && zeroWords w (wordsFrom 2)
  | 0x18 => zeroWords w (wordsFrom 1)
  | 0x19 => decide (w 1 = 0) && decide (w 2 % 64 = 0) && decide (w 4 % 64 = 0) && decide (64 ≤ w 4 ∧ w 4 ≤ 4194304) && zeroWords w (wordsFrom 5)
  | 0x1A => decide (w 1 < 256) && decide (bitsAt (w 1) 4 2 ≠ 3) && (!bitAt (w 1) 7 || decide (w 3 = 0)) && zeroWords w (wordsFrom 8)
  | 0x20 => decide (w 1 < 65536) && zeroWords w (wordsFrom 2)
  | 0x28 => decide (w 1 < 65536) && decide (bitsAt (w 1) 5 2 = 0)
      && (if bitAt (w 1) 7 then decide (bitsAt (w 1) 0 5 = 0) else decide (1 ≤ bitsAt (w 1) 0 5))
  | 0x30 =>
    let base := decide (bitsAt (w 1) 13 19 = 0)
    match bitsAt (w 1) 0 8 with
    | 1 => base && zeroWords w (wordsFrom 4)
    | 3 => base && decide (bitsAt (w 4) 12 4 = 0) && decide (bitsAt (w 4) 29 3 = 0)
        && decide (1 ≤ bitsAt (w 4) 16 13 ∧ bitsAt (w 4) 0 12 + bitsAt (w 4) 16 13 ≤ 4096) && zeroWords w (wordsFrom 5)
    | 5 => base && zeroWords w (wordsFrom 4)
    | _ => base && zeroWords w (wordsFrom 2)
  | 0x38 => decide (w 1 < 2) && decide (w 4 < 2 ^ 18) && decide (w 5 < 2 ^ 19) && zeroWords w (wordsFrom 6)
  | 0x39 => decide (w 1 < 2) && zeroWords w (wordsFrom 2)
  | _ => false

/-- A configuration job, which a worker takes from its manager only (R6). -/
def isConfigJob (op : Nat) (w1 : Nat) : Bool :=
  op = 1 || op = 2 || op = 3 || op = 4 || (op = 0x30 && decide (bitsAt w1 0 8 ≠ 4))

def needsField (op : Nat) : Bool := op = 8 || op = 9 || op = 0xA || op = 0x10 || op = 0x11 || op = 0x13

/-- The status of tests 2 to 6 of R360, if one applies; a reserved SUBCMD of TALLY_CMD fails beside them (R490).
[DESIGN CHOICE, log 59] -/
def State.rejection (s : State) (w0 : Nat) (w : Nat → Nat) : Option Nat :=
  let op := bitsAt w0 0 8
  if bitsAt w0 12 4 ≠ 0 ∨ !s.descOk op w then some 2
  else if s.isWorker && isConfigJob op (w 1) then some 4
  else if op = 0x28 ∧ !s.isManager then some 5
  else if (op = 0x38 ∨ op = 0x39) ∧ !s.gate.session then some 6
  else if s.halterOn && needsField op then some 7
  else if op = 0x30 ∧ (bitsAt (w 1) 0 8 = 0 ∨ 7 < bitsAt (w 1) 0 8) then some 0x603
  else none

/-- The payload of a job that fails before it starts (R379). -/
def State.rejectPayload (s : State) (j : Job) : List Byte :=
  match j.opcode with
  | 1 => [0, 0xFF, 0, 0, 0xFF, 0xFF, 0xFF, 0xFF]
  | 2 => [3, 0xFF, 0, 0, 0xFF, 0xFF, 0xFF, 0xFF]
  | 3 => [4, 0xFF, 0, 0, 0xFF, 0xFF, 0xFF, 0xFF]
  | 4 => [5, 0xFF, 0, 0, 0xFF, 0xFF, 0xFF, 0xFF]
  | 9 => if (s.point j.pointIdx).src < 64 then [0, 0, 0xFF] else []
  | 0x20 => leBytes 2 (bitsAt (j.word 1) 0 16)
  | _ => []

/-- DETAIL of a push to one node (R460). [DESIGN CHOICE, log 95] -/
def pushDetail (all : Bool) (node inner : Nat) : Nat := if all then 0 else node + 256 * inner

/-- A WORKER_PUSH takes its place in fetch order, with the workers it addresses (R459, R460). -/
def State.queuePush (s : State) (j : Job) : State :=
  let all := bitAt (j.word 1) 7
  let nodes := if all then (s.aeloon.nodes.filter fun x => x.2.joined).map (·.1) else [bitsAt (j.word 1) 0 5]
  { s with aeloon := { s.aeloon with pushes := s.aeloon.pushes ++
    [({ slot := j.slot, inner := bitsAt (j.word 1) 8 8, all := all, nodes := nodes } : Push)] } }

/-- A fetched descriptor is accepted or rejected by the first test of R360 that applies. -/
def State.acceptDesc (s : State) (ring : Nat) (ws : List Nat) : State :=
  let w0 := ws.getD 0 0 % 2 ^ 32
  let slot := bitsAt w0 23 9
  if (s.job? slot).isSome then
    (s.countRun (bitsAt w0 0 8)).postCompletion (BitVec.ofNat 32 w0) none 1 0 []
  else
    let op := bitsAt w0 0 8
    let s := if op = 0x38 ∨ op = 0x39 then { s with gate := { s.gate with activeAt := s.now } } else s
    let j : Job := { slot := slot, w0 := BitVec.ofNat 32 w0, words := (ws.drop 1).take 15, ring := ring, order := s.link.nextOrder }
    let rej := s.rejection w0 j.word
    let s := s.onLink fun l => { l with jobs := l.jobs ++ [j], nextOrder := l.nextOrder + 1 }
    match rej with
    | some st => s.complete slot st (s.rejectPayload j)
    | none => if op = 0x28 then s.queuePush j else s

/-- Mark the first read of a ring that is still out. -/
def markRead (ring : Nat) (ok : Bool) (descs : List (List Nat)) : List DescRead → List DescRead
  | [] => []
  | r :: rs => if r.ring = ring ∧ !r.back then { r with back := true, ok := ok, descs := descs } :: rs else r :: markRead ring ok descs rs

/-- Take the reads at the front that have returned, in fetch order. -/
def State.takeReads (s : State) : Nat → State
  | 0 => s
  | k + 1 =>
    match s.link.reads with
    | r :: rs =>
      if !r.back then s
      else
        let s := s.onLink fun l => { l with reads := rs }
        let s :=
          if (s.ring r.ring).err = 2 then s
          else if !r.ok then s.onRing r.ring fun x => { x with err := 2 }
          else
            ((List.range r.n).map fun i => r.descs.getD i []).foldl (fun s d => s.acceptDesc r.ring d) s
        s.takeReads k
    | [] => s

/-- The reads of a ring that are back in ring order, up to one that failed, are counted; so many descriptors (R353). -/
def countReads (ring : Nat) : List DescRead → List DescRead × Nat
  | [] => ([], 0)
  | r :: rs =>
    if r.ring ≠ ring then let (t, n) := countReads ring rs; (r :: t, n)
    else if !r.back || !r.ok then (r :: rs, 0)
    else let (t, n) := countReads ring rs; ({ r with counted := true } :: t, if r.counted then n else r.n + n)

/-- The consumer index of a ring passes the descriptors that have been read in full (R353). -/
def State.advanceRing (s : State) (ring : Nat) : State :=
  let (rs, n) := countReads ring s.link.reads
  (s.onLink fun l => { l with reads := rs }).onRing ring fun x => { x with ci := x.ci + BitVec.ofNat 16 n }

/-- DESCRIPTOR_READ_DONE (R353, R356, R360). -/
def State.descriptorsRead (s : State) (ring : Nat) (ok : Bool) (descs : List (List Nat)) : State :=
  match s.link.reads.find? fun r => decide (r.ring = ring) && !r.back with
  | some r =>
    let s := (s.onLink fun l => { l with reads := markRead ring ok descs l.reads })
    let s := ((if (s.ring ring).err = 2 then s else s.advanceRing ring).fetchBack r.fetch)
    s.takeReads s.link.reads.length
  | none => s

/-! ### Event records and MSI-X (R372 to R376, R392) -/

/-- The 32 bytes of a record (R373). -/
def recordBytes (q : EvQueue) (e : Ev) : List Byte :=
  let phase := b2n (decide (q.pi.toNat / q.size % 2 = 0))
  leBytes 2 (e.code % 4096 + 16384 * b2n q.loss + 32768 * phase) ++ leBytes 2 e.src ++ leBytes 2 e.status ++ leBytes 2 e.detail
    ++ leBytes 8 e.time ++ payload16 e.payload

/-- EVENT_RECORD_WRITE: the first event that waits for its record (R375, R385, R624). -/
def State.writeRecord (s : State) (q : Nat) : State :=
  let x := s.queue q
  if !s.linkActive || !x.open' then s
  else
    match x.waiting with
    | [] => s
    | e :: _ =>
      let s := s.writeHost (baseOf x.lo x.hi + x.pi.toNat % x.size * 32) (recordBytes x e)
      let s := match e.slot with
        | some k => s.dropJob k
        | none => s
      let s := s.onQueue q fun x => { x.dropFirst with pi := x.pi + 1, loss := false, unsig := x.unsig + 1 }
      if x.coalTime = 0 ∨ x.coalCnt ≤ x.unsig + 1 then (s.onQueue q fun x => { x with unsig := 0 }).sendMsix x.vector else s

/-- MSI_X_COALESCE_TIMEOUT (R374). -/
def State.coalesceTimeout (s : State) (q : Nat) : State :=
  if 0 < (s.queue q).unsig then (s.onQueue q fun x => { x with unsig := 0 }).sendMsix (s.queue q).vector else s

/-! ### Drains and host-link resets (R387, R388) -/

/-- DRAIN_COMPLETE. -/
def State.drainComplete (s : State) : State :=
  if !s.draining ∧ s.link.startWait then s.startLink else s

/-- The change was carried by a host job. -/
def Change.fromHost (c : Change) : Bool :=
  match c with
  | .points (some n) _ _ _ => decide (n < 512)
  | .coefs (some n) _ => decide (n < 512)
  | .pole (some n) _ => decide (n < 512)
  | .courses (some n) _ => decide (n < 512)
  | _ => false

/-- Withdraw the changes of a set that are not in force; lists compiled with them are discarded and a
new compile starts without them (R388). -/
def State.withdraw (s : State) (out : Change → Bool) : State :=
  let hitReady := s.scr.ready.any fun r => r.changes.any out
  let hitRun := s.scr.compiling && (hitReady || s.scr.running.any out)
  let keep (cs : List Change) : List Change := cs.filter fun c => !out c
  let s := s.onScr fun c => { c with gathered := keep c.gathered }
  let s := if hitRun then s.onScr fun c => { c with compiling := false, running := [], basis := none, gathered := keep c.running ++ c.gathered } else s
  let s := if hitReady then s.onScr fun c => { c with ready := [], gathered := c.ready.flatMap (fun r => keep r.changes) ++ c.gathered } else s
  if hitReady || hitRun then s.requestCompile .plain else s

/-- The job's work goes on through a drain: an attempt on the wire, or a firmware write (R388, R578). -/
def State.drainsOn (s : State) (j : Job) : Bool :=
  !j.posted && (j.onWire || (decide (s.fw.running = some j.slot) && (j.read || decide (j.opcode = 0x39))))

/-- Take jobs off every list of a port that holds them, their retries with them (R370, R388). -/
def State.unlist (s : State) (gone : Nat → Bool) : State :=
  let out (l : List Nat) : List Nat := l.filter fun x => !gone x
  s.onPorts fun p => { p with
    q := tmap {} (fun x => { x with jobs := out x.jobs, capping := out x.capping }) p.q
    awl := tmap {} (fun x => { x with searchJobs := out x.searchJobs, prefixWait := x.prefixWait.map fun w => { w with jobs := out w.jobs }, held := out x.held, heldWrites := out x.heldWrites, unfenceJobs := out x.unfenceJobs,
                                      retries := x.retries.filter fun r => match r.use with
                                        | .job k => !gone k
                                        | _ => true }) p.awl
    tw := tmap {} (fun x => { x with unfenceJobs := out x.unfenceJobs,
                                     retries := x.retries.filter fun r => match r.use with
                                       | .job k _ => !gone k
                                       | _ => true }) p.tw }

/-- A push whose job is gone: no slot names it any more, and the next superframe ends it (R388, R458). -/
def Push.orphan (p : Push) : Push := { p with slot := 1024 + p.num.toNat }

/-- Every job of the session ends: those that execute drain, the rest are dropped without a record. -/
def State.drainJobs (s : State) : State :=
  let gone := (s.link.jobs.filter fun j => decide (j.slot < 512) && !s.drainsOn j).map (·.slot)
  let out (l : List Nat) : List Nat := l.filter fun x => !gone.contains x
  let s := s.onLink fun l => { l with jobs := (l.jobs.filter fun j => !gone.contains j.slot).map fun j =>
    if j.slot < 512 then { j with draining := true, aborters := [] } else j }
  let s := s.unlist gone.contains
  let s := s.onTrace fun k => { k with freezeJobs := out k.freezeJobs, copySlots := out k.copySlots }
  let s := s.onStitch fun u => { u with waiting := out u.waiting, units := u.units.filter fun x => match x.2 with
    | some (k, _) => !gone.contains k
    | none => false }
  let s := { s with fw := { s.fw with waiting := out s.fw.waiting }, tally := { s.tally with cmds := s.tally.cmds.filter fun c => decide (512 ≤ c.slot) } }
  let s := { s with aeloon := { s.aeloon with pushes := s.aeloon.pushes.map fun (p : Push) => if gone.contains p.slot then p.orphan else p } }
  s.withdraw Change.fromHost

/-- HL_ registers and the MSI-X table at their reset values; jobs in flight and host memory stand. -/
def Link.afterReset (l : Link) : Link :=
  { jobs := l.jobs, nextOrder := l.nextOrder, mem := l.mem, sent := l.sent, linkUp := l.linkUp, perst := l.perst, wakeN := l.wakeN
    pmeEn := l.pmeEn, pmeStatus := l.pmeStatus, msixOn := l.msixOn, msixMask := l.msixMask, maxRead := l.maxRead }

end Sys2Proof.Machine
end

