-- ==== Sys2Proof/Machine/Load.lean ====
section
/-! DEFINITION. Jobs that load tables or command Tally: their start (R625), the image they read once
(R363), its checks (R60, R256, R270, R296, R364, R468, R489), and TALLY_CMD (R488). -/
namespace Sys2Proof.Machine

/-- A job starts: it reads its image next (R363, R625). -/
def State.startRead (s : State) (slot op : Nat) : State :=
  match s.startable slot op with
  | none => s
  | some _ => s.onJob slot fun j => { j with started := true }

/-- JOB_NOP completes when it starts (R362). -/
def State.jobNop (s : State) (slot : Nat) : State :=
  match s.startable slot 0 with
  | none => s
  | some _ => (s.onJob slot fun j => { j with started := true }).complete slot 0

/-- Number the entries of an image from FIRST. -/
def numbered {α : Type} (first : Nat) (xs : List α) : List (Nat × α) := xs.zipIdx.map fun x => (first + x.2, x.1)

/-- The first entry an optional decoding fails on. -/
def firstBad {α β : Type} (f : α → Option β) (xs : List (Nat × α)) : Option Nat :=
  (xs.find? fun x => (f x.2).isNone).map (·.1)

def okOnly {α β : Type} (f : α → Option β) (xs : List (Nat × α)) : List (Nat × β) :=
  xs.filterMap fun x => (f x.2).map fun y => (x.1, y)

/-- Status, table, port and entry of a load that fails. -/
abbrev LoadFault := Nat × Nat × Option Nat × Option Nat

/-- The port a point entry names by its SRC is the port at fault with it (R379). [DEDUCED, log 45] -/
def portOf (src : Nat) : Option Nat := if src < 128 then some src else none

/-- A POINT_LOAD image (R270, R364): the change it makes, or its first fault. -/
def State.readPoints (s : State) (slot : Nat) (ws : List Nat) (len : Nat) : LoadFault ⊕ Change :=
  let ws := ws.take (len / 4)
  let badImage : LoadFault ⊕ Change := let f := imageFault ws.length [] ws; .inl (3, f.1, none, f.2)
  if len % 8 ≠ 0 then badImage
  else
    match parseRuns ws.length ws with
    | none => badImage
    | some runs =>
      if runsClash runs then badImage
      else
        let table (k : Nat) : List (Nat × List Nat) := (runs.filter fun r => decide (r.table = k)).flatMap fun r => numbered r.first r.entries
        let ids : List (Nat × Quad) := (table 1).map fun x => (x.1, BitVec.ofNat 64 (wordAt x.2 0 + 2 ^ 32 * wordAt x.2 1))
        let sl := okOnly decodeSlack (table 2)
        let raw := okOnly decodePoint (table 0)
        let g0 := s.planNext.apply (.points none raw ids sl)
        let entryOk (x : Nat × List Nat) : Bool := match decodePoint x.2 with
          | some p => !p.valid || s.transactionOk (s.placePoint g0 p)
          | none => false
        let bad := (((table 0).find? fun x => !entryOk x).map fun x => ((0x100, 0, portOf (bitsAt (wordAt x.2 0) 0 8), some x.1) : LoadFault))
          <|> ((firstBad decodeSlack (table 2)).map fun i => (0x100, 2, none, some i))
        match bad with
        | some f => .inl f
        | none =>
          let pts := raw.map fun x => (x.1, s.placePoint g0 x.2)
          let c : Change := .points (some slot) pts ids sl
          let g := s.planNext.apply c
          match s.checkPoints g pts sl with
          | some (st, t, i) => .inl (st, t, if t = 0 then portOf (tget {} g.points i).src else none, some i)
          | none => .inr c

/-- A COEF_LOAD image (R256). -/
def State.readCoefs (s : State) (slot first count : Nat) (ws : List Nat) : LoadFault ⊕ Change :=
  let sets := (numbered first (chunk 4 count ws)).map fun x => (x.1, decodeCoef x.2)
  match s.plan.checkCoefs sets with
  | some (st, t, i) => .inl (st, t, none, some i)
  | none => .inr (.coefs (some slot) sets)

/-- A COURSE_SET image (R296). -/
def State.readCourses (s : State) (slot mask : Nat) (ws : List Nat) : LoadFault ⊕ Change :=
  let cs := courseNumbers.filter fun c => bitAt mask c
  let recs := cs.zip (chunk 4 cs.length ws)
  match firstBad s.decodeCourse recs with
  | some i => .inl (0x10B, 4, none, some i)
  | none =>
    let c : Change := .courses (some slot) (okOnly s.decodeCourse recs)
    match (s.planNext.apply c).bankBad with
    | some i => .inl (0x109, 4, none, some i)
    | none => .inr c

/-- A POLE_LOAD image (R60), its conditions in the table's order. [DESIGN CHOICE, log 137] -/
def State.readPole (s : State) (slot count : Nat) (ws : List Nat) : LoadFault ⊕ Change :=
  let es := numbered 0 (chunk 2 count ws)
  match firstBad decodePole es with
  | some i => .inl (0x10C, 5, none, some i)
  | none =>
    let es := (okOnly decodePole es).map (·.2)
    match s.checkPole es with
    | some st => .inl (st, 5, none, none)
    | none => .inr (.pole (some slot) es)

/-- The change of a load job from its words and image, whatever its source (R457). -/
def State.readLoad (s : State) (op slot : Nat) (w : Nat → Nat) (data : List Byte) : LoadFault ⊕ Change :=
  let ws := wordsOf data
  match op with
  | 1 => s.readPoints slot ws (w 4)
  | 2 => s.readCoefs slot (bitsAt (w 1) 0 12) (bitsAt (w 1) 16 13) ws
  | 3 => s.readCourses slot (bitsAt (w 1) 0 16) ws
  | _ => s.readPole slot (bitsAt (w 1) 0 9) ws

/-- A load's image is taken: it fails and changes nothing, or starts its compile (R271, R281). -/
def State.takeLoad (s : State) (j : Job) : State :=
  let s := s.onJob j.slot fun j => { j with taken := true }
  match s.readLoad j.opcode j.slot j.word j.image with
  | .inl (st, t, p, i) => s.complete j.slot st (loadFault t p i)
  | .inr c => s.requestCompile c

/-- POINT_LOAD, COEF_LOAD, COURSE_SET and POLE_LOAD. -/
def Job.isTable (j : Job) : Bool := decide (1 ≤ j.opcode ∧ j.opcode ≤ 4) && decide (j.slot < 512)

/-- The load that comes next in fetch order, if its image is in: changes take effect in that order, whatever order
their images arrive in (R62, R282, R297, R385). -/
def State.nextLoad (s : State) : Option Job :=
  let open' := s.link.jobs.filter fun j => j.isTable && !j.taken && !j.posted && !j.draining && !j.aborted
  match open'.foldl (fun (b : Option Job) j => match b with
    | some k => if j.order < k.order then some j else b
    | none => some j) none with
  | some j => if j.read then some j else none
  | none => none

/-- Take the loads whose turn has come. -/
def State.takeLoads (s : State) : Nat → State
  | 0 => s
  | k + 1 => match s.nextLoad with
    | some j => (s.takeLoad j).takeLoads k
    | none => s

/-- Loads that waited for an earlier one are taken. [DEDUCED, log 141] -/
def State.settleLoads (s : State) : State := s.takeLoads s.link.jobs.length

/-! ### TALLY_CMD (R488 to R490) -/

def Job.sub (j : Job) : Nat := bitsAt (j.word 1) 0 8
def Job.str (j : Job) : Nat := bitsAt (j.word 1) 8 5

/-- The job reads an image: a load, a field job with bytes to fetch, STRING_SET, OCV_LOAD, FW_STAGE when its turn has come or it was aborted, a push. -/
def State.wantsImage (s : State) (j : Job) : Bool :=
  (1 ≤ j.opcode && decide (j.opcode ≤ 4))
  || ((j.opcode = opWriteTarget || j.opcode = opRawXfer) && decide (0 < s.imageNeed j))
  || (j.opcode = 0x30 && (j.sub = 1 || j.sub = 3))
  || (j.opcode = 0x38 && (decide (s.fw.running = some j.slot) || j.aborted))
  || j.opcode = 0x28

/-- The one read of the job's bytes is out (R363). -/
def State.readingImage (s : State) (j : Job) : Bool := j.started && !j.read && !j.posted && !j.draining && s.wantsImage j

/-- The job in `slot` if it is this TALLY_CMD and may start. [DESIGN CHOICE, log 59] -/
def State.tallyStart (s : State) (slot sub : Nat) : Option Job :=
  match s.startable slot 0x30 with
  | some j => if j.sub = sub then some j else none
  | none => none

/-- The strings configured once the waiting commands are in force. -/
def State.stringNext (s : State) (i : Nat) : Bool :=
  s.tally.cmds.foldl (fun b c => match c with
    | .set _ k _ => b || decide (k = i)
    | .clear _ k => b && decide (k ≠ i)
    | _ => b) (s.stringConfigured i)

/-- The command waits for the next boundary. [DESIGN CHOICE, log 54] -/
def State.queueTally (s : State) (c : TallyCmd) : State := s.onTally fun t => { t with cmds := t.cmds ++ [c] }

/-- A subcommand without an image: refused for a string that is not configured, as `known` judges it. -/
def State.tallyPlain (s : State) (slot sub : Nat) (f : State → Job → State) (known : State → Nat → Bool := State.stringNext) : State :=
  match s.tallyStart slot sub with
  | none => s
  | some j =>
    let s := s.onJob slot fun j => { j with started := true }
    if known s j.str then f s j else s.complete slot 0x601

def State.stringClear (s : State) (slot : Nat) : State := s.tallyPlain slot 2 fun s j => s.queueTally (.clear slot j.str)

/-- READ answers at once, for a string that is configured now (R488). -/
def State.tallyReadOut (s : State) (slot : Nat) : State :=
  s.tallyPlain slot 4 (known := State.stringConfigured) fun s j =>
    match s.string j.str with
    | none => s.complete slot 0x601
    | some b =>
      s.complete slot 0 (leBytes 4 (bits32Of b.soc) ++ leBytes 4 (bits32Of b.unc) ++ leBytes 4 (bits32Of b.cLrn)
        ++ [BitVec.ofNat 8 b.stateCode, BitVec.ofNat 8 b.flags, BitVec.ofNat 8 (min 255 b.learned), BitVec.ofNat 8 (min 255 b.rejected)])

/-- A finite binary32 value, or a free one where the word holds none. [DESIGN CHOICE, log 53] -/
def State.finite32 (s : State) (v : Nat) : Rat × State :=
  match ratOf32 v with
  | some r => (r, s)
  | none => let (n, s) := s.takeFree; ((n : Rat), s)

/-- [DESIGN CHOICE, log 53] -/
def State.socSet (s : State) (slot : Nat) : State :=
  s.tallyPlain slot 5 fun s j =>
    let (soc, s) := s.finite32 (j.word 2)
    let (u, s) := s.finite32 (j.word 3)
    s.queueTally (.soc slot j.str soc u)

def State.learnReset (s : State) (slot : Nat) : State := s.tallyPlain slot 6 fun s j => s.queueTally (.learnReset slot j.str)

/-- LEDGER_SYNC changes nothing that would wait for a boundary: the commit falls due now, and the job completes
(R484, R488). [DESIGN CHOICE, log 54] -/
def State.ledgerSync (s : State) (slot : Nat) : State :=
  s.tallyPlain slot 7 (known := State.stringConfigured) fun s j =>
    if s.ledgerDown then s.complete slot 0x604 else (s.commit j.str 5).complete slot 0

/-- The definitions of all strings once the waiting commands are in force. -/
def State.stringDefsNext (s : State) : List StringDef :=
  (stringNumbers.filterMap fun i =>
    s.tally.cmds.foldl (fun d c => match c with
      | .set _ k x => if k = i then some x else d
      | .clear _ k => if k = i then none else d
      | _ => d) ((s.string i).map (·.cfg)))

/-- A STRING_SET record or an OCV_LOAD image is in (R468, R489). -/
def State.tallyImage (s : State) (j : Job) (data : List Byte) : State :=
  if j.sub = 1 then
    match s.parseString (padTo 320 data) with
    | .inl off => s.complete j.slot 0x600 [] off
    | .inr d => s.queueTally (.set j.slot j.str d)
  else
    let first := bitsAt (j.word 4) 0 12
    let ws := (wordsOf data).take (bitsAt (j.word 4) 16 13)
    let ocv := ws.zipIdx.foldl (fun m x => tset 0 m (first + x.2) (BitVec.ofNat 32 x.1)) s.ocvNext
    if (ws.any fun w => decide (10000 < bitsAt w 16 16)) || (s.stringDefsNext.any fun d => !ocvAscends ocv d.ocvBase d.ocvCount) then
      s.complete j.slot 0x602
    else s.queueTally (.ocv j.slot first ws)

/-- STRING_SET and OCV_LOAD read their record or image first. -/
def State.tallyRead (s : State) (slot sub : Nat) : State :=
  match s.tallyStart slot sub with
  | none => s
  | some j =>
    let s := s.onJob slot fun j => { j with started := true }
    if j.read then s.tallyImage j j.image else s

end Sys2Proof.Machine
end

