-- ==== Sys2Proof/Machine/Stitch.lean ====
section
/-! DEFINITION. The pooled Stitch units (05): profiles (R238, R246), the STITCH_RUN job (R240 to R245),
and the BAR2 window its source may lie in (R338). -/
namespace Sys2Proof.Machine

/-! ### Profiles -/

/-- The registers of a fixed profile, with its fold source (R238, R246). -/
def fixedProfile (p : Nat) : Profile :=
  let of (c : Crc) (fold : Nat) : Profile :=
    { cfg := pack [(0, c.width), (6, b2n c.refin), (7, b2n c.refout), (8, fold), (11, b2n c.aug)]
      poly := BitVec.ofNat 32 c.poly, init := BitVec.ofNat 32 c.init, xor := BitVec.ofNat 32 c.xorout }
  match p with
  | 0 => of breik8 3
  | 1 => of breik16 3
  | 2 => of sent4 0
  | 3 => of sent4Legacy 0
  | 4 => of sent6 0
  | 5 => of pec8 0
  | 6 => of crc32 5
  | _ => of crc32c 5

def State.profile (s : State) (p : Nat) : Profile := if p < 8 then fixedProfile p else tget {} s.stitch.profiles p

def Profile.width (p : Profile) : Nat := bitsAt p.cfg.toNat 0 6
def Profile.refin (p : Profile) : Bool := bitAt p.cfg.toNat 6
def Profile.crc (p : Profile) : Crc :=
  let w := p.width
  { width := w, poly := p.poly.toNat % 2 ^ w, init := p.init.toNat % 2 ^ w, refin := p.refin, refout := bitAt p.cfg.toNat 7
    xorout := p.xor.toNat % 2 ^ w, aug := bitAt p.cfg.toNat 11 }

/-- Bytes of the check field (R225). -/
def Profile.checkLen (p : Profile) : Nat := (p.width + 7) / 8

/-- The fold bytes of a profile's source and the FOLD word (R226, R240). -/
def foldBytes (code fold : Nat) : List Byte :=
  let b (lo : Nat) : Byte := BitVec.ofNat 8 (bitsAt fold lo 8)
  match code with
  | 1 => [b 0]
  | 2 => [b 8]
  | 3 => [b 0, b 8]
  | 4 => [BitVec.ofNat 8 (2 * bitsAt fold 16 8)]
  | 5 => foldK fold
  | _ => []

/-- The check field of a value: least significant byte first under REFIN, else most significant first (R225). -/
def Profile.field (p : Profile) (v : Nat) : List Byte := if p.refin then leBytes p.checkLen v else beBytes p.checkLen v
def Profile.readField (p : Profile) (bs : List Byte) : Nat := if p.refin then leNat bs else beNat bs

/-! ### BAR2 (R338) -/

/-- One byte of the BAR2 window. -/
def State.bar2 (s : State) (off : Nat) : Byte :=
  if off < 0x100000 then (s.bank (off / 8)).bytes.getD (off % 8) 0
  else if off < 0x100800 then
    let c := (off - 0x100000) / 128
    ((s.course c).header (bitAt off 6)).getD (off % 64) 0
  else if 0x400000 ≤ off ∧ off < 0x800000 then tget 0 s.tack.trace.mem (off - 0x400000)
  else 0

def State.bar2Bytes (s : State) (off n : Nat) : List Byte := (List.range n).map fun i => s.bar2 (off + i)

/-! ### STITCH_RUN -/

def Job.stitchOp (j : Job) : Nat := bitsAt (j.word 1) 4 2
def Job.fromBar2 (j : Job) : Bool := bitAt (j.word 1) 7

/-- The first failure of R242, without reading the source. With all four units failed every run ends UNIT_FAILED (R236). -/
def State.stitchFault (s : State) (j : Job) : Option Nat :=
  let p := bitsAt (j.word 1) 0 4
  let len := j.word 4
  if [4, 5, 6, 7].all fun u => bitAt s.stitch.failed.toNat u then some 0x405
  else if (8 ≤ p ∧ (s.profile p).width = 0) ∨ p = 2 ∨ p = 3 ∨ p = 4 then some 0x402
  else if len = 0 ∨ 4194304 < len ∨ (j.stitchOp = 1 ∧ len ≤ (s.profile p).checkLen) then some 0x403
  else if j.fromBar2 ∧ 0x800000 < j.word 2 + len then some 0x404
  else if j.stitchOp = 3 then some 2
  else none

def State.stitchUnit (s : State) (u : Nat) : Option (Nat × Profile) := tget none s.stitch.units u

/-- The first free unit among 4 to 7 (R244). -/
def State.freeUnit (s : State) : Option Nat :=
  [4, 5, 6, 7].find? fun u => !bitAt s.stitch.failed.toNat u && (s.stitchUnit u).isNone

/-- The fetch order of the job in a slot. -/
def State.orderOf (s : State) (slot : Nat) : Nat := ((s.job? slot).map (·.order)).getD 0

/-- A waiting job takes its place in the order of fetch (R244). -/
def State.queueStitch (s : State) (slot : Nat) : List Nat → List Nat
  | [] => [slot]
  | k :: ks => if s.orderOf k < s.orderOf slot then k :: s.queueStitch slot ks else slot :: k :: ks

/-- A job takes a unit, or waits for one (R244). -/
def State.stitchTake (s : State) (slot : Nat) : State :=
  match s.job? slot with
  | none => s
  | some j =>
    match s.stitchFault j with
    | some st => s.complete slot st []
    | none =>
      match s.freeUnit with
      | some u => s.onStitch fun x => { x with units := tset none x.units u (some (slot, s.profile (bitsAt (j.word 1) 0 4))) }
      | none => s.onStitch fun x => { x with waiting := s.queueStitch slot x.waiting }

/-- The STITCH_RUN jobs fetched before one that may start and have not, in fetch order. -/
def State.stitchBefore (s : State) (j : Job) : List Nat :=
  (sortBy (·.order) (s.link.jobs.filter fun k => decide (k.order < j.order) && (s.startable k.slot 0x1A).isSome)).map (·.slot)

/-- The STITCH_RUN job starts; jobs fetched before it have taken their units first (R244). -/
def State.stitchRun (s : State) (slot : Nat) : State :=
  match s.startable slot 0x1A with
  | none => s
  | some j => (s.stitchBefore j ++ [slot]).foldl (fun s k => (s.onJob k fun j => { j with started := true }).stitchTake k) s

/-- While a unit is free, the waiting jobs take one in turn; one that faults leaves it to the next (R244). -/
def State.stitchFill (s : State) : List Nat → State
  | [] => s
  | k :: ks => if s.freeUnit.isSome then ((s.onStitch fun x => { x with waiting := ks }).stitchTake k).stitchFill ks else s

/-- A unit is free again. -/
def State.stitchNext (s : State) : State := s.stitchFill s.stitch.waiting

/-- The result of a run over the bytes read (R241, R243). -/
def State.stitchResult (s : State) (u : Nat) (j : Job) (p : Profile) (data : List Byte) : State :=
  let fold := if bitAt (j.word 1) 6 then [] else foldBytes (bitsAt p.cfg.toNat 8 3) (j.word 5)
  let n := if j.stitchOp = 1 then data.length - p.checkLen else data.length
  let v := crcBytes p.crc (fold ++ data.take n)
  let unit : Byte := BitVec.ofNat 8 u
  if j.stitchOp = 1 then
    let got := p.readField (data.drop n)
    if got = v then s.complete j.slot 0 (leBytes 4 v ++ leBytes 4 n ++ [unit])
    else (s.onStitch fun x => { x with mismatch := satInc x.mismatch }).complete j.slot 0x401 (leBytes 4 v ++ leBytes 4 got ++ [unit])
  else
    let s := if j.stitchOp = 2 then s.writeHost (j.word 6 + j.word 7 * 2 ^ 32) (p.field v) else s
    s.complete j.slot 0 (leBytes 4 v ++ leBytes 4 n ++ [unit])

/-- STITCH_RUN_COMPLETE: a unit has read its source, from host memory, where requests may be made (R345), or from BAR2,
or the read failed (R242 to R245).
[DESIGN CHOICE, log 60] -/
def State.stitchComplete (s : State) (u : Nat) (ok : Bool) (data : List Byte) : State :=
  match s.stitchUnit u with
  | none => s
  | some (slot, p) =>
    if (s.job? slot).any fun j => !j.aborted && !j.fromBar2 && !s.readOpen j then s
    else
    let s := s.onStitch fun x => { x with units := tset none x.units u none }
    let s := match s.job? slot with
      | none => s
      | some j =>
        if j.aborted then s.complete slot 8 []
        else if !ok ∧ !j.fromBar2 then s.complete slot 0xC []
        else s.stitchResult u j p (if j.fromBar2 then s.bar2Bytes (j.word 2) (j.word 4) else padTo (j.word 4) data)
    s.stitchNext

/-- Unit 3 has failed: the fault records written since the Beam die left reset are no records, and the ring that a copy
was restored into is empty (R236). [DESIGN CHOICE, log 155] -/
def State.undoRecords (s : State) : State :=
  let s := match s.mram.atExit with
    | some h => { s with mram := { s.mram with faults := h.faults, histSeq := h.seq, histSlot := h.slot, histAny := h.any
                                               unreported := h.unreported, atExit := none } }
    | none => s
  let s := s.onStitch fun x => { x with ledgerFail := 0, faultFail := 0 }
  if s.core.restored && decide (s.tack.trace.state = 2) then
    (s.onTrace fun k => { k with mem := [], entries := [], wptr := 0, state := 0, cause := 0 }).onCore fun c => { c with restored := false }
  else s

/-- STITCH_SELFTEST_DONE (R236): the unit is marked failed or takes work; units 0 and 1 keep RDY_AELOON
at 0, unit 2 RDY_STORE, unit 3 RDY_TALLY and the records of MRAM. -/
def State.stitchSelftest (s : State) (u : Nat) (pass : Bool) : State :=
  if 8 ≤ u then s
  else
    let s := s.onStitch fun x => { x with tested := x.tested ||| BitVec.ofNat 8 (2 ^ u)
                                          failed := if pass then x.failed else x.failed ||| BitVec.ofNat 8 (2 ^ u) }
    if pass then (if u = 3 then { s with mram := { s.mram with atExit := none } } else s)
    else if u < 2 then s.setReady 6 false
    else if u = 2 then s.setReady 3 false
    else if u = 3 then (s.setReady 7 false).undoRecords
    else s

end Sys2Proof.Machine
end

