-- ==== Sys2Proof/Machine/Mram.lean ====
section
/-! DEFINITION. The fault-record region of MRAM (R556 to R559): fault-history records and the
brown-out copy, each checked by unit 3 with its offset as fold. -/
namespace Sys2Proof.Machine

def State.onMram (s : State) (f : Mram → Mram) : State := { s with mram := f s.mram }

def State.faultBytes (s : State) (off n : Nat) : List Byte := (List.range n).map fun i => tget 0 s.mram.faults (off + i)
def State.putFaults (s : State) (off : Nat) (bs : List Byte) : State :=
  s.onMram fun m => { m with faults := bs.zipIdx.foldl (fun t x => tset 0 t (off + x.2) x.1) m.faults }

/-- A record with its check over bytes 0 to 59, the offset as fold (R227). -/
def sealRecord (off : Nat) (bs : List Byte) : List Byte := bs ++ leBytes 4 (check32c off bs)
def sealedOk (off : Nat) (bs : List Byte) : Bool := decide (check32c off (bs.take 60) = leAt bs 60 4)

/-- Unit 3 has failed its self-test: no fault record is written (R236). [DESIGN CHOICE, log 7, 64, 107] -/
def State.writeHistory (s : State) (kind : Nat) (payload : List Byte) : State :=
  if s.ledgerDown then s
  else
    let seq := (s.mram.histSeq + 1) % 2 ^ 32
    let slot := if s.mram.histAny then (s.mram.histSlot + 1) % 1024 else 0
    let off := 64 * slot
    let stamp := if s.pole.ran then s.stamp else 0
    let bs := leBytes 4 seq ++ [BitVec.ofNat 8 kind, 0, 0, 0] ++ leBytes 4 s.core.bootId.toNat ++ leBytes 8 stamp
      ++ leBytes 4 ((s.now - s.core.cinchResetAt) / 256000000) ++ padTo 16 payload ++ List.replicate 20 0
    (s.putFaults off (sealRecord off bs)).onMram fun m =>
      { m with histSeq := seq, histSlot := slot, histAny := true, unreported := m.unreported + 1 }

/-- The Beam die reads the history slots as it leaves reset, each record checked by unit 3: the next one goes after the
highest valid SEQ, and one that fails its check is counted (R237, R556). A slot that holds nothing is no record.
[DESIGN CHOICE, log 155] -/
def State.scanHistory (s : State) : State :=
  let slots := ((s.mram.faults.map fun x => x.1 / 64).filter fun k => decide (k < 1024)).eraseDups
  let good := slots.filter fun k => sealedOk (64 * k) (s.faultBytes (64 * k) 64)
  let seq (k : Nat) : Nat := leNat (s.faultBytes (64 * k) 4)
  let s := s.onStitch fun u => { u with faultFail := satAdd u.faultFail (slots.length - good.length) }
  s.onMram fun m =>
    let m := match good with
      | [] => { m with histAny := false, histSeq := 0, histSlot := 0 }
      | k :: ks => let best := ks.foldl (fun b k => if seq b < seq k then k else b) k
                   { m with histAny := true, histSeq := seq best, histSlot := best }
    { m with atExit := some { faults := m.faults, seq := m.histSeq, slot := m.histSlot, any := m.histAny, unreported := m.unreported } }

/-! ### The brown-out copy (R337, R553, R558, R559) -/

def copyOff : Nat := 0x10000
def copyMax : Nat := 196544

def State.copyHeader (s : State) : List Byte := s.faultBytes copyOff 64

/-- Entry bytes of the copy. -/
def State.copyEntries (s : State) : List Byte := s.faultBytes (copyOff + 64) (leAt s.copyHeader 32 4)

/-- The copy in MRAM is valid: header and entries pass their checks. -/
def State.copyValid (s : State) : Bool :=
  let h := s.copyHeader
  decide (leAt h 4 1 = 1) && sealedOk copyOff h && decide (leAt h 32 4 ≤ copyMax)
    && decide (check32c (copyOff + 64) s.copyEntries = leAt h 36 4)

def State.copyCollected (s : State) : Bool := bitAt (leAt s.copyHeader 5 1) 0

/-- The newest complete entries that fit, oldest of them first, and the ring offset of the first. -/
def newestEntries (es : List (Nat × Nat)) : List (Nat × Nat) :=
  (es.reverse.foldl (fun (st : List (Nat × Nat) × Nat × Bool) e =>
    if st.2.2 ∧ st.2.1 + e.2 ≤ copyMax then (e :: st.1, st.2.1 + e.2, true) else (st.1, st.2.1, false)) ([], 0, true)).1

def Trace.bytesOf (k : Trace) (e : Nat × Nat) : List Byte := (List.range e.2).map fun i => tget 0 k.mem (e.1 + i)

/-- The copy starts: its SEQ word is zeroed, and its header and entries are those of the freeze (R337, R553 step 1,
R558). Without unit 3 there is no copy (R236). -/
def State.startCopy (s : State) : State :=
  if s.ledgerDown then s
  else
    let k := s.tack.trace
    let es := newestEntries k.entries
    let data := es.flatMap k.bytesOf
    let seq := (leAt s.copyHeader 0 4 + 1) % 2 ^ 32
    let h := leBytes 4 seq ++ [1, 0, 0, 0] ++ leBytes 4 s.core.bootId.toNat ++ leBytes 8 s.stamp
      ++ leBytes 4 k.oldest ++ leBytes 4 k.wptr.toNat ++ leBytes 4 ((es.head?.map (·.1)).getD k.wptr.toNat) ++ leBytes 4 data.length
      ++ leBytes 4 (check32c (copyOff + 64) data) ++ leBytes 2 s.power.vinCode ++ List.replicate 18 0
    { s with power := { s.power with copying := true, copyHead := h, copyBody := data } }.putFaults copyOff [0, 0, 0, 0]

/-- BROWNOUT_COPY_DONE: entries, header and SEQ are written (R553, R558), with a history record (R557)
whose payload the manual does not give. [DESIGN CHOICE, log 63] -/
def State.finishCopy (s : State) : State :=
  if !s.power.copying then s
  else
    let p := s.power
    let s := { s with power := { s.power with copying := false, copyDone := true } }
    let (v, s) := s.takeFree
    ((s.putFaults (copyOff + 64) p.copyBody).putFaults copyOff (sealRecord copyOff p.copyHead)).writeHistory 5 (leBytes 16 v)

/-- Split restored bytes into entries, each with its length (R330): pads by their length word, marks 64
bytes, snapshots by their RECORDS. -/
def splitEntries : Nat → Nat → List Byte → List (Nat × Nat)
  | 0, _, _ => []
  | fuel + 1, off, bs =>
    if bs.isEmpty then []
    else
      let b0 := leAt bs 0 1
      let len := if b0 = 0x80 then 64 else if b0 = 0x81 then max 64 (leAt bs 4 4) else (64 + 8 * leAt bs 24 4 + 63) / 64 * 64
      (off, len) :: splitEntries fuel (off + len) (bs.drop len)

/-- R559: a valid copy not collected is restored into the ring, which freezes with cause BROWN_OUT. -/
def State.restoreCopy (s : State) : State :=
  if s.ledgerDown then s
  else if s.copyValid && !s.copyCollected then
    let data := s.copyEntries
    let es := splitEntries (data.length / 64) 0 data
    let s := s.onTrace fun k =>
      { (({ k with mem := [], entries := [] } : Trace).put 0 data) with
        entries := es, wptr := BitVec.ofNat 22 data.length, state := 2, cause := 2, trigRule := 255, trigCourse := 0 }
    { s with core := { s.core with restored := true } }
  else
    let bad := b2n (!sealedOk copyOff s.copyHeader) + b2n (sealedOk copyOff s.copyHeader && !s.copyValid)
    s.onStitch fun u => { u with faultFail := satAdd u.faultFail bad }

/-- The header is rewritten with COLLECTED set (R559). -/
def State.collectCopy (s : State) : State :=
  if s.core.restored && s.copyValid && !s.copyCollected && !s.ledgerDown then
    let h := s.copyHeader.take 60
    let h := h.take 5 ++ [1] ++ h.drop 6
    s.putFaults copyOff (sealRecord copyOff h)
  else s

/-! ### Re-arming (R334) -/

/-- A TRACE_COPY runs (CS_TR_STAT.COPYING). -/
def Trace.copying (k : Trace) : Bool := !k.copySlots.isEmpty

def State.rearmRing (s : State) : State :=
  if s.tack.trace.state = 2 then
    (s.onTrace fun k => { k with state := 0, rearm := false }).collectCopy
  else s.onTrace fun k => { k with rearm := false }

/-- CS_TR_REARM: at once, or when a running TRACE_COPY completes. -/
def State.csRearm (s : State) : State :=
  if s.tack.trace.copying then s.onTrace fun k => { k with rearm := true } else s.rearmRing

/-- A re-arm that was held takes effect once no TRACE_COPY runs (R334). -/
def State.settleRearm (s : State) : State :=
  if s.tack.trace.rearm && !s.tack.trace.copying then s.rearmRing else s

end Sys2Proof.Machine
end

