-- ==== Sys2Proof/Machine/Fields.lean ====
section
/-! DEFINITION. Fields of registers: instances of an array of registers (R593), halves of 64-bit values,
and which fields of a written word take effect (R17). -/
namespace Sys2Proof.Machine

/-- Instance of a register at `base + stride * k`, `k` below `n` (R593). -/
def inst (base stride n off : Nat) : Option Nat :=
  if base ≤ off ∧ off < base + stride * n ∧ (off - base) % stride = 0 then some ((off - base) / stride) else none

/-- Bits of a predicate over `k` from 0 to 31. -/
def bits32 (f : Nat → Bool) : Word := BitVec.ofNat 32 ((List.range 32).foldl (fun a k => a + (if f k then 2 ^ k else 0)) 0)

/-- The half of a 64-bit value: `hi` picks bits 63 to 32. -/
def halfOf (v : Quad) (hi : Nat) : Word := BitVec.ofNat 32 (bitsAt v.toNat (32 * hi) 32)

def clearHalf (v : Quad) (hi : Nat) : Quad := if hi = 0 then v &&& 0xFFFFFFFF00000000 else v &&& 0x00000000FFFFFFFF

/-- A field of a register: lowest bit, width, and the values it takes; any other value is ignored. -/
abbrev FieldSpec := Nat × Nat × (Nat → Bool)

def any : Nat → Bool := fun _ => true
def range (lo hi : Nat) : Nat → Bool := fun x => decide (lo ≤ x ∧ x ≤ hi)

/-- The register after a write: each field takes its value or keeps the old one; the rest reads zero. -/
def takeFields (old v : Word) (fs : List FieldSpec) : Word :=
  pack (fs.map fun f => (f.1, if f.2.2 (bitsAt v.toNat f.1 f.2.1) then bitsAt v.toNat f.1 f.2.1 else bitsAt old.toNat f.1 f.2.1))

def putHalf (v : Quad) (hi : Nat) (w : Word) : Quad :=
  clearHalf v hi ||| BitVec.ofNat 64 (w.toNat * 2 ^ (32 * hi))

end Sys2Proof.Machine
end

