-- ==== Sys2Proof/Machine/PortWrites.lean ====
section
/-! DEFINITION. Writes of the PW_ page, PW_CTRL excepted, and of the PT_ page: what a host writes there,
and what a manager sets on a worker with REG_SET (R6, R456). -/
namespace Sys2Proof.Machine

/-- A write of PW_NOMINAL (R64): under SEL 0b100 it waits for its own compile, which each write starts or joins. -/
def State.writePwNominal (s : State) (v : Word) : State :=
  let f := bitsAt v.toNat 0 20
  if f < 1000 ∨ 1000000 < f then s
  else if s.wheel.sel = 4 then (s.onWheel fun w => { w with nominalReg := BitVec.ofNat 20 f }).requestCompile (.nominal (BitVec.ofNat 20 f))
  else s.onWheel fun w => { w with nominalReg := BitVec.ofNat 20 f, nominalWait := some (BitVec.ofNat 20 f) }

/-! ### PW_ (R66) -/

/-- A write of the PW_ page, PW_CTRL excepted. -/
def State.writePw (s : State) (o : Nat) (v : Word) : State :=
  match o with
  | 0x04 => s.writePwNominal v
  | 0x08 => s.onWheel fun w => { w with glitch := takeFields w.glitch v [(0, 8, range 1 255), (8, 8, range 1 255)] }
  | 0x0C => s.onWheel fun w => { w with a := { w.a with offset := v.setWidth 16 } }
  | 0x10 => s.onWheel fun w => { w with b := { w.b with offset := v.setWidth 16 } }
  | 0x44 => s.onWheel fun w => { w with evtThr := BitVec.ofNat 12 (max 65 (bitsAt v.toNat 0 12)) }
  | _ => s

/-! ### PT_ (R129, R130, R170, R171, R174, R222, R292) -/

/-- PT_MAP_SEL: the selected entry of the map in force is latched (R171). INDEX is that of the identity list in force;
every position of a completed search is verified, a DUPLICATE one too; in UNSTABLE only positions 1 to k of the
prefix map in force are. [DEDUCED, log 87; DESIGN CHOICE, log 131, 142] -/
def State.writeMapSel (s : State) (v : Word) : State :=
  let n := bitsAt v.toNat 0 6
  let pos := bitsAt v.toNat 8 7
  let a := s.awl n
  let e := if 1 ≤ pos ∧ pos ≤ a.chainLen.toNat then a.map[pos - 1]? else none
  let info : Word := match e with
    | none => 0
    | some id =>
      pack [(0, (s.identIndex id).getD 0), (13, b2n (s.identIndex id).isSome),
            (14, b2n (decide (a.life ≠ .unstable) || decide (pos ≤ a.pfx.toNat))), (15, b2n (decide (1 < (positionsOf a.map id).length))), (16, 1)]
  let id : Quad := e.getD 0
  s.onPorts fun p => { p with mapSel := pack [(0, n), (8, pos)], mapLo := halfOf id 0, mapHi := halfOf id 1, mapInfo := info }

/-- PT_PGRPi: a compile starts, and the value takes effect at the next boundary (R292). -/
def State.writePgrp (s : State) (i : Nat) (v : Word) : State :=
  (s.onScr fun c => { c with pgrpReg := tset 0 c.pgrpReg i (v &&& 0x8F8F8F8F) }).compilePlain

/-- PT_AWL_CFG: a change of MODE or TICK starts a compile (R130); a port that failed its self-test keeps
MODE 0 (R128). -/
def State.writeAwlCfg (s : State) (n : Nat) (v : Word) : State :=
  let a := s.awl n
  let w := takeFields a.cfgReg v [(0, 2, fun m => decide (m ≤ 2) && !a.selfTest), (2, 3, range 0 4), (5, 6, range 1 63), (11, 4, range 1 10)]
  let s := s.onAwl n fun a => { a with cfgReg := w }
  if bitsAt w.toNat 0 5 = bitsAt a.cfgReg.toNat 0 5 then s else s.compilePlain

/-- PT_AWL_SENT: a changed value starts a compile (R130, R281, R594). [DEDUCED, log 87] -/
def State.writeAwlSent (s : State) (n : Nat) (v : Word) : State :=
  let a := s.awl n
  let w := takeFields a.sentReg v [(0, 3, range 1 6), (3, 1, any), (4, 1, any), (5, 2, range 0 2), (7, 3, range 0 4), (10, 6, any), (16, 5, any), (21, 7, range 3 90)]
  let s := s.onAwl n fun a => { a with sentReg := w }
  if w = a.sentReg then s else s.compilePlain

/-- PT_TW_CFG: a change of MODE or RATE starts a compile (R174). -/
def State.writeTwCfg (s : State) (m : Nat) (v : Word) : State :=
  let t := s.tw m
  let w := takeFields t.cfgReg v [(0, 2, fun x => decide (x ≤ 1) && !t.selfTest), (2, 2, range 0 2), (4, 5, any), (9, 6, range 25 35), (15, 1, any),
                                  (16, 7, any), (23, 1, any), (24, 4, range 1 15)]
  let s := s.onTw m fun t => { t with cfgReg := w }
  if bitsAt w.toNat 0 4 = bitsAt t.cfgReg.toNat 0 4 then s else s.compilePlain

/-- PT_FENCE_CFG: CAP is held against BASE as it stands after the write. [DEDUCED, log 87] -/
def fenceFields (old v : Word) : Word :=
  let base := if bitsAt v.toNat 0 3 = 7 then bitsAt old.toNat 0 3 else bitsAt v.toNat 0 3
  takeFields old v [(0, 3, range 0 6), (3, 3, range base 6), (6, 1, any)]

def State.writeAwl (s : State) (n k : Nat) (v : Word) : State :=
  match k with
  | 0 => s.writeAwlCfg n v
  | 1 => s.onAwl n fun a => { a with alertSeen := a.alertSeen && !bitAt v.toNat 15, nvBusySeen := a.nvBusySeen && !bitAt v.toNat 16 }
  | 3 => s.writeAwlSent n v
  | _ => s

def State.writeTw (s : State) (m k : Nat) (v : Word) : State :=
  match k with
  | 0 => s.writeTwCfg m v
  | 2 => if bitAt v.toNat 31 then s.onTw m fun t => { t with arb := t.arb &&& 0x7FFFFFFF } else s
  | 3 => s.onTw m fun t => { t with zoneReg := takeFields t.zoneReg v [(0, 8, any), (8, 2, range 0 2), (10, 16, any), (26, 1, any)] }
  | _ => s

/-- PT_ALERT_STAT: UNCLAIMED clears by writing 1. -/
def State.writeAlertStat (s : State) (v : Word) : State :=
  (List.range 8).foldl (fun s a => if bitAt v.toNat (16 + a) then s.onAlert a fun x => { x with unclaimed := false } else s) s

def State.writePt (s : State) (o : Nat) (v : Word) : State :=
  let ports (f : Ports → Ports) := s.onPorts f
  match o with
  | 0x080 => s.onScr fun c => { c with cfgReg := takeFields c.cfgReg v [(0, 3, any), (4, 16, range 256 65535), (20, 8, range 1 255)] }
  | 0x088 => s.onScr fun c => { c with cntSel := takeFields c.cntSel v [(0, 8, range 0 128), (8, 5, any)] }
  | 0x090 => s.onScr fun c => { c with psel := v.setWidth 7 }
  | 0x100 => ports fun p => { p with awlCntSel := takeFields 0 v [(0, 6, any), (8, 5, any)] }
  | 0x110 => ports fun p => { p with chainCfgReg := takeFields p.chainCfgReg v [(0, 8, any), (8, 4, range 1 15), (12, 8, range 2 128)] }
  | 0x114 => ports fun p => { p with chainLimitReg := takeFields p.chainLimitReg v [(0, 12, range 256 4095), (12, 8, range 1 255)] }
  | 0x118 => ports fun p => { p with fenceCfgReg := fenceFields p.fenceCfgReg v }
  | 0x124 => s.writeMapSel v
  | 0x140 => ports fun p => { p with bklCntSel := takeFields 0 v [(0, 6, any), (8, 5, any)] }
  | 0x150 => ports fun p => { p with bklCfgReg := takeFields p.bklCfgReg v [(0, 10, range 10 800), (10, 4, range 1 15), (14, 5, any), (19, 8, range 1 255)] }
  | 0x154 => ports fun p => { p with zoneAddrReg := takeFields 0 v [(0, 7, any), (8, 7, any)] }
  | 0x1A0 => ports fun p => { p with alertCfgReg := v &&& 0xFFFFFF }
  | 0x1A4 => s.writeAlertStat v
  | _ =>
    match inst 0 4 32 o, inst 0x160 4 16 o, inst 0x400 4 256 o, inst 0xC00 4 256 o with
    | some i, _, _, _ => s.writePgrp i v
    | _, some k, _, _ => ports fun p => { p with alertBindReg := tmod 0 p.alertBindReg (k / 2) fun q => putHalf q (k % 2) v }
    | _, _, some k, _ => s.writeAwl (k / 4) (k % 4) v
    | _, _, _, some k => s.writeTw (k / 4) (k % 4) v
    | _, _, _, _ => s

end Sys2Proof.Machine
end

