-- ==== Sys2Proof/Machine/Staged.lean ====
section
/-! DEFINITION. A worker's staged pushes, in its compiles and at the boundary of their commit cycle (R457, R458), and the
end of a compile (R281). -/
namespace Sys2Proof.Machine

def State.onAeloon (s : State) (f : Aeloon → Aeloon) : State := { s with aeloon := f s.aeloon }

/-- Put bytes that came at an offset into a list of parts; a repeat is harmless (R441). -/
def addPart (ps : List (Nat × List Byte)) (off : Nat) (bs : List Byte) : List (Nat × List Byte) :=
  if ps.any fun p => decide (p.1 = off) && decide (bs.length ≤ p.2.length) then ps
  else insertBy (·.1) (off, bs) (ps.filter fun p => decide (p.1 ≠ off))

/-- The bytes in from the start, without a gap. -/
def joinParts (ps : List (Nat × List Byte)) : List Byte :=
  ps.foldl (fun acc p => if p.1 ≤ acc.length then acc ++ p.2.drop (acc.length - p.1) else acc) []

/-- REG_SET reaches the PW_ page, PW_CTRL excepted, and the PT_ page (R456). -/
def regSetOk (off : Nat) : Bool := (decide (0x4000 < off) && decide (off < 0x6000)) && decide (off % 4 = 0)

/-- One REG_SET pair, under the rules of its register. [DEDUCED, log 90] -/
def State.regSet (s : State) (off : Nat) (v : Word) : State :=
  if off / 4096 = 4 then s.writePw (off % 4096) v else s.writePt (off % 4096) v

/-- The registers as a manager's staged REG_SETs will leave them (R458). -/
def State.withStagedRegs (s : State) : State :=
  (s.aeloon.staged.flatMap (·.regs)).foldl (fun s r => s.regSet r.1 (BitVec.ofNat 32 r.2)) s

/-- The state as the running compile reads it: registers and ports as they stood when it started (R281), with what is
staged (R458). -/
def State.compileView (s : State) : State :=
  (match s.scr.basis with
  | some b => { s with scr := { s.scr with pgrpReg := b.pgrp, cfgReg := b.cfg }, wheel := { s.wheel with ctrl := b.ctrl }
                       ports := { s.ports with awl := b.awl, tw := b.tw } }
  | none => s).withStagedRegs

/-- The running compile ends (R281 to R284): its lists wait for a boundary, and the next compile starts. -/
def State.compileComplete (s : State) : State :=
  if !s.scr.compiling then s
  else
    let v := s.compileView
    let base := (s.readyChanges ++ s.stagedChanges).foldl Plan.apply s.plan
    let (took, refused) := v.takeFeasible base s.scr.running
    let status (dropped : Bool) : BitVec 2 := if !refused.isEmpty then 2 else if dropped then 3 else 1
    let ready := v.queueCompiled took status
    let s1 := s.onScr fun c => { c with
      compiling := false, running := [], basis := none, ready := ready, last := (ready.getLast?.map (·.last)).getD 0
      lastTime := BitVec.ofNat 12 (min 4095 ((s.now - c.compileStart) / 2560))
      done := satInc c.done, refused := satAdd c.refused refused.length }
    (refused.foldl (fun s x => s.refuseChange x.1 x.2) s1).startCompile

/-- The commit of a staged push is due: the count has reached its cycle. -/
def Staged.due (x : Staged) (count : Nat) : Bool := match x.commit with
  | some c => decide ((count + 2 ^ 32 - c % 2 ^ 32) % 2 ^ 32 < 2 ^ 31)
  | none => false

/-- Nothing of the push awaits a commit any more. -/
def Staged.settled (x : Staged) : Staged := { x with waits := false, change := none, regs := [], commit := none }

/-- The staged pushes whose cycle has come take effect at this boundary with the cut lists compiled for them: REG_SET pairs
under the rules of their registers, other changes as a compile's; the lists of the boundaries after are compiled anew
(R456, R457). [DEDUCED, log 71, 90] -/
def State.commitStaged (s : State) : State :=
  let due := s.aeloon.staged.filter fun x => x.waits && x.due s.wheel.count.toNat
  if due.isEmpty then s
  else
    let s := due.foldl (fun s x => if x.change.isSome then s
      else (x.regs.foldl (fun s r => s.regSet r.1 (BitVec.ofNat 32 r.2)) s).complete (512 + x.num) 0) s
    let changes := due.filterMap (·.change)
    let s := s.onAeloon fun a => { a with staged := a.staged.map fun x => if x.waits && x.due s.wheel.count.toNat then x.settled else x }
    let first := (s.scr.ready.head?.map (·.changes)).getD [] ++ changes
    let (ready, _) := (first :: (s.scr.ready.drop 1).map (·.changes)).foldl (fun (st : List Compiled × List Change) cs =>
      let (made, dropped) := s.compiledFor st.2 cs
      (st.1 ++ [{ made with last := if dropped then 3 else 1 }], st.2 ++ cs)) ([], [])
    s.onScr fun c => { c with ready := ready }

end Sys2Proof.Machine
end

