-- ==== Sys2Proof/Machine/Copy.lean ====
section
/-! DEFINITION. Where a snapshot goes once it is published: the block check (R316), the host ring
(R319, R384), the uplink (R450), the rack snapshot (R322 to R326), the trace ring's jobs (R332, R335),
and ABORT (R370, R371). -/
namespace Sys2Proof.Machine

/-! ### The block check and what it starts -/

/-- Unit 2 has failed its self-test: no block is checked, as it is published or as it is merged (R234, R236). -/
def State.checkDown (s : State) : Bool := bitAt s.stitch.failed.toNat 2

/-- A published half: its header copy, and the records it names. -/
def State.halfHeader (s : State) (c : Nat) (half : Bool) : List Byte := (s.course c).header half
def State.halfRecords (s : State) (c : Nat) (half : Bool) : List Rec :=
  let k := s.course c
  s.records (k.halfCfg half).base half (leAt (k.header half) 24 4)

/-- Replace bytes of a header. -/
def patch (h : List Byte) (off : Nat) (bs : List Byte) : List Byte := h.take off ++ bs ++ h.drop (off + bs.length)

/-- The header with its check (R316) over the records, the sequence as fold. -/
def checkedHeader (h : List Byte) (rs : List Rec) : List Byte :=
  patch (patch h 2 [BitVec.ofNat 8 (setBit (leAt h 2 1) 7 true)]) 52 (leBytes 4 (check32c (leAt h 4 4) (recBytes rs)))

/-- Buffers of a course's ring taken and not free: written ones, copies under way and open racks (R383). -/
def State.ringUsed (s : State) (c : Nat) : Nat :=
  let r := s.snapRing c
  let k := s.course c
  countDiff r.pi r.ci + (k.copies.filter fun x => !x.2).length + k.merges.length

/-- A host copy of so many bytes falls due: skipped and counted, or a buffer is taken; the address and
index of the buffer (R384). Nothing is copied while the link may make no request (R349). -/
def State.takeBuffer (s : State) (c bytes : Nat) : Option (Nat × Nat) × State :=
  let r := s.snapRing c
  if !s.linkActive then (none, s)
  else if !r.enabled ∨ r.buffers ≤ s.ringUsed c then (none, s.onSnapRing c fun r => { r with full := satInc r.full })
  else if r.bufBytes < bytes then (none, s.onSnapRing c fun r => { r with small := satInc r.small })
  else
    let i := r.pi.toNat + (s.ringUsed c - countDiff r.pi r.ci)
    (some (baseOf r.lo r.hi + i % r.buffers * r.bufBytes, i % 65536), s)

/-- Points of a course in a node's pushed configuration (R322). -/
def ANode.records (n : ANode) (c : Nat) : Nat := (pointsOf n.points c).length

/-- Worker slices of a rack snapshot: node, offset in the buffer, records (R322). -/
def State.rackParts (s : State) (c start : Nat) : List (Nat × Nat × Nat) :=
  ((s.aeloon.nodes.filter fun x => decide (0 < x.2.records c)).foldl (fun (st : List (Nat × Nat × Nat) × Nat) x =>
    (st.1 ++ [(x.1, st.2, x.2.records c)], st.2 + 64 + 8 * x.2.records c)) ([], start)).1

/-- Node 0's slice opens the rack snapshot of a merged course. -/
def State.openRack (s : State) (c : Nat) (half : Bool) (h : List Byte) (rs : List Rec) : State :=
  let start := 64 + 8 * rs.length
  let parts := s.rackParts c start
  let total := parts.foldl (fun a p => a + 64 + 8 * p.2.2) start
  match s.takeBuffer c total with
  | (none, s) => s
  | (some (addr, i), s) =>
    let s := s.writeBegun (addr + 64) (recBytes rs)
    let stamp := leAt h 8 8
    s.onCourse c fun k => { k with merges := k.merges ++
      [{ count := stamp / 65536, angle := stamp % 65536, seq := leAt h 4 4, half := half, addr := addr, index := i,
         expected := (k.halfJoined half).filter (fun n => parts.any fun p => decide (p.1 = n)),
         parts := parts, consistent := bitAt (leAt h 2 1) 0, header := some h }] }

/-- The uplink copy begins, of a snapshot published while this worker was joined (R449, R450). -/
def State.startUplink (s : State) (c : Nat) (half : Bool) (h : List Byte) (rs : List Rec) : State :=
  if s.uplinkOpen && (s.course c).halfUp half then
    let s := { s with aeloon := { s.aeloon with uplinks := s.aeloon.uplinks ++ [({ course := c, half := half, seq := leAt h 4 4, bytes := h ++ recBytes rs } : Uplink)] } }
    s.onCourse c fun k => { k with copies := k.copies ++ [(half, true)] }
  else s

/-! ### Host copies -/

/-- The payload of SNAPSHOT_PUBLISHED (R327); `h` is node 0's header. -/
def publishedPayload (index : Nat) (half : Bool) (h : List Byte) : List Byte :=
  leBytes 4 (leAt h 4 4) ++ [BitVec.ofNat 8 (leAt h 2 1), BitVec.ofNat 8 (leAt h 3 1)]
    ++ leBytes 2 (min 65535 (leAt h 24 4)) ++ leBytes 4 index ++ [BitVec.ofNat 8 (b2n half), BitVec.ofNat 8 (leAt h 60 1)]

/-- SNAPSHOT_PUBLISHED waits, ahead of a KERF_MISS, for every output of its half (R314), where the ring is enabled
(R378). -/
def State.queuePublished (s : State) (c index : Nat) (half : Bool) (h : List Byte) : State :=
  if (s.snapRing c).enabled then s.onCourse c fun k => { k with postDue := (half, 0x010, publishedPayload index half h) :: k.postDue }
  else s

/-- SNAPSHOT_PUBLISHED of a rack snapshot (R324, R327). -/
def State.postPublished (s : State) (c index : Nat) (half : Bool) (h : List Byte) : State :=
  if (s.snapRing c).enabled then s.postCourse c 0x010 (publishedPayload index half h) else s

/-- Take the first host copy of a list. -/
def dropHostCopy : List (Bool × Bool) → List (Bool × Bool)
  | [] => []
  | x :: xs => if x.2 then x :: dropHostCopy xs else xs

/-- SNAPSHOT_COPY_DONE: records, then header, then the index, and the event once every output is complete (R314,
R319, R384). -/
def State.copyDone (s : State) (c : Nat) : State :=
  match (s.course c).copies.find? fun x => !x.2 with
  | none => s
  | some (half, _) =>
    if !s.dmaOpen then (s.onCourse c fun k => { k with copies := dropHostCopy k.copies }).releasePosts c
    else
      let r := s.snapRing c
      let h := s.halfHeader c half
      let addr := baseOf r.lo r.hi + r.pi.toNat % r.buffers * r.bufBytes
      let s := (s.writeBegun (addr + 64) (recBytes (s.halfRecords c half))).writeBegun addr h
      let s := s.onCourse c fun k => { k with copies := dropHostCopy k.copies }
      let s := s.onSnapRing c fun r => { r with pi := r.pi + 1 }
      (s.queuePublished c r.pi.toNat half h).releasePosts c

/-! ### Rack snapshots (R322 to R326) -/

/-- The record of an absent node's point (R325). -/
def absentRec : Rec := neverRead true

/-- A header for a worker slice that did not come: the fields R325 gives, the rest left open. [DESIGN CHOICE, log 61] -/
def State.emptyHeader (s : State) (m : Merge) (c n slices flag records : Nat) : List Byte × State :=
  let (v, s) := s.takeFree
  let free (k : Nat) : Nat := v / 2 ^ (32 * k) % 2 ^ 32
  let flags := setBit (setBit 0 3 true) flag true
  let base := [BitVec.ofNat 8 c, BitVec.ofNat 8 n, BitVec.ofNat 8 flags, BitVec.ofNat 8 slices] ++ leBytes 4 m.seq
    ++ leBytes 8 (stampOf m.count m.angle) ++ leBytes 8 (free 0 + 2 ^ 32 * free 1) ++ leBytes 4 records ++ leBytes 4 (free 2)
    ++ leBytes 4 0 ++ leBytes 2 0 ++ leBytes 2 0 ++ leBytes 2 records ++ leBytes 2 0 ++ leBytes 2 (free 3) ++ leBytes 2 (free 4)
    ++ leBytes 4 (free 5) ++ leBytes 4 0 ++ leBytes 4 (free 6) ++ [BitVec.ofNat 8 (free 7), 0, 0, 0]
  (checkedHeader base (List.replicate records absentRec), s)

/-- The slice of a node at completion: in already, missing where the worker was joined at the strike, absent with its
records where it was not (R325, R447). -/
def State.closePart (s : State) (c : Nat) (m : Merge) (p : Nat × Nat × Nat) : State :=
  if m.arrived.contains p.1 || s.checkDown then s
  else
    let here := m.expected.contains p.1
    let n := if here then 0 else p.2.2
    let (h, s) := s.emptyHeader m c p.1 (m.parts.length + 1) (if here then 5 else 6) n
    let s := if here then s.onCourse c fun k => { k with missing := satInc k.missing } else s
    let s := if here then s else s.writeBegun (m.addr + p.2.1 + 64) (recBytes (List.replicate n absentRec))
    s.writeBegun (m.addr + p.2.1) h

/-- A slice that has come in part, of a rack snapshot that has completed: its bytes are discarded (R451). It is late
once its last byte would be in (R325). [DESIGN CHOICE, log 156] -/
def SliceIn.discard (x : SliceIn) (m : Merge) : SliceIn :=
  let bs := joinParts x.parts
  if x.done || decide (bs.length < 28) || decide (leAt bs 8 8 ≠ stampOf m.count m.angle) || decide (64 + 8 * leAt bs 24 4 ≤ bs.length) then x
  else { x with done := true, parts := [], lost := some (64 + 8 * leAt bs 24 4) }

/-- Every worker's part of a slice of a completed rack snapshot goes (R451). -/
def State.discardSlices (s : State) (c : Nat) (m : Merge) : State :=
  s.onAeloon fun a => { a with nodes := tmap {} (fun x => { x with slices := tmod {} x.slices c fun y => y.discard m }) a.nodes }

/-- The oldest rack snapshot of a course completes with a cause (R324, R326). [DESIGN CHOICE, log 61] -/
def State.completeRack (s : State) (c cause : Nat) : State :=
  match (s.course c).merges with
  | [] => s
  | m :: rest =>
    let s := (s.onCourse c fun k => { k with merges := rest }).discardSlices c m
    if !s.dmaOpen then s.releasePosts c
    else
      let s := m.parts.foldl (fun s p => s.closePart c m p) s
      let whole := m.expected.all fun n => m.arrived.contains n
      let h := m.header.getD []
      let flags := setBit (setBit (leAt h 2 1) 3 true) 4 (whole && m.consistent)
      let h := patch (patch h 2 [BitVec.ofNat 8 flags, BitVec.ofNat 8 (m.parts.length + 1)]) 60 [BitVec.ofNat 8 cause]
      let s := s.writeBegun m.addr h
      let s := s.onSnapRing c fun r => { r with pi := r.pi + 1 }
      (s.postPublished c m.index m.half h).releasePosts c

/-- Racks complete in order while every expected slice of the oldest is in. -/
def State.rackCheck (s : State) (c : Nat) : Nat → State
  | 0 => s
  | k + 1 =>
    match (s.course c).merges with
    | m :: _ => if m.expected.all fun n => m.arrived.contains n then (s.completeRack c 4).rackCheck c k else s
    | [] => s

/-- MERGE_WAIT_EXPIRY: the oldest rack snapshot completes, and with it those behind it that are whole (R324). -/
def State.mergeExpiry (s : State) (c : Nat) : State := (s.completeRack c 5).rackCheck c 64

/-- The records of a slice of an open rack snapshot that have come so far (R452); none where no block can be checked (R236). -/
def State.sliceRecords (s : State) (n c : Nat) (bytes : List Byte) : State :=
  if bytes.length ≤ 64 || !s.dmaOpen || s.checkDown then s
  else
    match (s.course c).merges.find? fun m => decide (stampOf m.count m.angle = leAt bytes 8 8) && !m.arrived.contains n with
    | none => s
    | some m =>
      match m.parts.find? fun p => decide (p.1 = n) && decide (leAt bytes 24 4 = p.2.2) with
      | none => s
      | some p => s.writeBegun (m.addr + p.2.1 + 64) (bytes.drop 64)

/-- A worker slice is complete (R322, R323, R325): written with its rewritten header, or late. -/
def State.sliceArrived (s : State) (n c : Nat) (bytes : List Byte) : State :=
  let stamp := leAt bytes 8 8
  let fits (m : Merge) : Bool := decide (stampOf m.count m.angle = stamp) && m.parts.any fun p => decide (p.1 = n) && decide (bytes.length = 64 + 8 * p.2.2)
  match (s.course c).merges.find? fits with
  | some m =>
    if !s.dmaOpen || s.checkDown || m.arrived.contains n then s
    else
      match m.parts.find? fun p => decide (p.1 = n) with
      | none => s
      | some p =>
        let recs := bytes.drop 64
        let h := bytes.take 64
        let flags := setBit (setBit (setBit (leAt h 2 1) 3 true) 4 false) 7 true
        let h' := patch (patch (patch h 2 [BitVec.ofNat 8 flags, BitVec.ofNat 8 (m.parts.length + 1)]) 4 (leBytes 4 m.seq)) 52 (leBytes 4 (check32c m.seq recs))
        let s := (s.writeBegun (m.addr + p.2.1 + 64) recs).writeBegun (m.addr + p.2.1) h'
        let good := bitAt (leAt h 2 1) 0
        let s := s.onCourse c fun k => { k with merges := k.merges.map fun x =>
          if x.seq = m.seq then { x with arrived := n :: x.arrived, consistent := x.consistent && (good || !x.expected.contains n) } else x }
        s.rackCheck c 64
  | none => s.onCourse c fun k => { k with lateSlices := satInc k.lateSlices }

/-! ### A block check ends -/

/-- The oldest snapshot that waits for its block check: its header is complete; the trace entry is written and the
copies start, as the set-up of its strike has them (R298, R316, R319, R331). A rack that expects no slice is whole (R324). -/
def State.checkOne (s : State) : State :=
  match s.tack.checkQ with
  | [] => s
  | (c, half) :: rest =>
    let s := s.onTack fun k => { k with checkQ := rest }
    if s.checkDown then s
    else
      let rs := s.halfRecords c half
      let h := checkedHeader (s.halfHeader c half) rs
      let s := s.onCourse c fun k => k.setHeader half h
      let g := (s.course c).halfCfg half
      let s := if g.traced then s.traceSnapshot (h ++ recBytes rs) else s
      let s := if g.toUplink then s.startUplink c half h rs else s
      if !g.toHost then s
      else if g.merged && s.isManager then (s.openRack c half h rs).rackCheck c 64
      else
        match s.takeBuffer c (64 + 8 * rs.length) with
        | (none, s) => s
        | (some _, s) => s.onCourse c fun k => { k with copies := k.copies ++ [(half, false)] }

/-- BLOCK_CHECK_READY; a KERF_MISS that waits for no copy follows (R314). -/
def State.blockCheck (s : State) : State := s.checkOne.releasePosts ((s.tack.checkQ.map (·.1)).headD 0)

/-! ### Trace jobs -/

/-- TRACE_FREEZE: a host trigger; the job completes when the ring freezes (R332). -/
def State.traceFreezeJob (s : State) (slot : Nat) : State :=
  match s.startable slot 0x18 with
  | none => s
  | some _ =>
    let s := s.onJob slot fun j => { j with started := true }
    if s.tack.trace.state = 2 then (s.traceTrigger 3 255 0).complete slot 0
    else (s.onTrace fun k => { k with freezeJobs := k.freezeJobs ++ [slot] }).traceTrigger 3 255 0

/-- TRACE_COPY: only of a frozen ring (R335); no rule holds one back while another runs (R625). -/
def State.traceCopyJob (s : State) (slot : Nat) : State :=
  match s.startable slot 0x19 with
  | none => s
  | some _ =>
    if s.tack.trace.state ≠ 2 then (s.onJob slot fun j => { j with started := true }).complete slot 0x400
    else (s.onJob slot fun j => { j with started := true }).onTrace fun k => { k with copySlots := k.copySlots ++ [slot] }

/-- Whole entries within so many bytes. -/
def entriesWithin : Nat → List (Nat × Nat) → Nat
  | _, [] => 0
  | n, e :: es => if e.2 ≤ n then 1 + entriesWithin (n - e.2) es else 0

/-- TRACE_COPY_DONE: the ring from its oldest entry, up to MAXLEN; an aborted copy stops at a 4 KiB
boundary of its destination (R335, R370, R379). Copies end in the order they started; a REARM held back takes effect
after the last (R334). [DESIGN CHOICE, log 62] -/
def State.traceCopyDone (s : State) : State :=
  let k := s.tack.trace
  match k.copySlots with
  | [] => s
  | slot :: rest =>
    let s := s.onTrace fun k => { k with copySlots := rest }
    match s.job? slot with
    | none => s.settleRearm
    | some j =>
      let all := (k.entries.flatMap k.bytesOf).take (j.word 4)
      let dst := j.word 2 + j.word 3 * 2 ^ 32
      let (n, s) := if j.aborted then
          let (v, s) := s.takeFree
          let first := 4096 - dst % 4096
          (min all.length (first + 4096 * (v % 1024)), s)
        else (all.length, s)
      let s := if j.begun then s.writeBegun dst (all.take n) else s.writeHost dst (all.take n)
      (s.complete slot (if j.aborted then 8 else 0) (leBytes 4 n ++ leBytes 4 k.oldest ++ leBytes 4 (entriesWithin n k.entries))).settleRearm

/-! ### ABORT -/

/-- A job ends with ABORTED: its payload is a failed job's (R379), and DETAIL that of a push (R460). -/
def State.endAborted (s : State) (j : Job) : State :=
  if j.isWire then s.failWire j.slot 8
  else if j.opcode = 0x28 then s.complete j.slot 8 [] (pushDetail (bitAt (j.word 1) 7) (bitsAt (j.word 1) 0 5) (bitsAt (j.word 1) 8 8))
  else s.complete j.slot 8 (s.rejectPayload j)

/-- The victim ends with ABORTED and the ABORT with JOB_DONE after it (R371). -/
def State.abortNow (s : State) (v : Job) (slot : Nat) : State :=
  (s.onJob v.slot fun j => { j with aborters := j.aborters ++ [slot] }).endAborted v

/-- The victim ends later; the ABORT waits for it. -/
def State.abortLater (s : State) (victim slot : Nat) : State :=
  s.onJob victim fun j => { j with aborted := true, aborters := j.aborters ++ [slot] }

/-- Loads and WORKER_PUSH: only while they still read their image. -/
def Job.isLoad (j : Job) : Bool := (1 ≤ j.opcode && decide (j.opcode ≤ 4)) || decide (j.opcode = 0x28)

/-- R370 by the victim's kind; one that still reads its bytes ends when the read has returned (R371). -/
def State.abortVictim (s : State) (slot : Nat) (v : Job) (payload : List Byte) : State :=
  let fail (s : State) (st : Nat) : State := s.complete slot st payload
  if v.posted then
    if v.status = 8 then s.complete slot 0 (payload ++ leBytes 2 8) else fail s 0xA
  else if v.aborted then s.abortLater v.slot slot
  else if v.isLoad then
    if v.read then fail s 0xA
    else if s.readingImage v then (s.abortLater v.slot slot).settleLoads
    else (s.abortNow v slot).settleLoads
  else if v.isWire then
    if v.onWire || s.readingImage v then s.abortLater v.slot slot else (s.unlist (· == v.slot)).abortNow v slot
  else if v.opcode = 0x10 then (s.unlist (· == v.slot)).abortNow v slot
  else if v.opcode = 0x18 then
    let others := s.tack.trace.freezeJobs.filter (· != v.slot)
    let back := decide (s.tack.trace.state = 1 ∧ s.tack.trace.cause = 3) && others.isEmpty
    let s := s.onTrace fun k => { k with freezeJobs := others, state := if back then 0 else k.state, cause := if back then k.lastCause else k.cause }
    s.abortNow v slot
  else if v.opcode = 0x19 then
    if s.tack.trace.copySlots.contains v.slot then s.abortLater v.slot slot
    else s.abortNow v slot
  else if v.opcode = 0x1A then
    if s.stitch.units.any fun x => (x.2.map (·.1)) == some v.slot then s.abortLater v.slot slot
    else
      let s := s.onStitch fun u => { u with waiting := u.waiting.filter (· != v.slot) }
      s.abortNow v slot
  else if v.opcode = 0x38 then
    let mine := decide (s.fw.running = some v.slot)
    let s := { s with fw := { s.fw with begun := if mine then false else s.fw.begun, running := if mine then none else s.fw.running,
                                        paused := s.fw.paused && !mine,
                                        waiting := s.fw.waiting.filter (· != v.slot) } }
    if mine && !v.read then s.abortLater v.slot slot else s.abortNow v slot
  else fail s 0xB

/-- The ABORT job starts (R370, R371). -/
def State.abortJob (s : State) (slot : Nat) : State :=
  match s.startable slot 0x20 with
  | none => s
  | some j =>
    let s := s.onJob slot fun j => { j with started := true }
    let tag := bitsAt (j.word 1) 0 16
    match s.link.jobs.find? fun v => decide (v.slot < 512) && decide (v.slot ≠ slot) && decide (v.tag = tag) with
    | none => if j.tag = tag then s.complete slot 0xB (leBytes 2 tag) else s.complete slot 9 (leBytes 2 tag)
    | some v => s.abortVictim slot v (leBytes 2 tag)

end Sys2Proof.Machine
end

