-- ==== Sys2Proof/Machine/Cinch.lean ====
section
/-! DEFINITION. Cinch (12): the settings of Sill group P (R494, R497), the power entry's states (R498
to R509), the FET model (R510, R514), faults and restart (R512, R513), and its events (R522). Voltages
are in µV, instants in ticks of 256 MHz. -/
namespace Sys2Proof.Machine

def State.onCinch (s : State) (f : Cinch → Cinch) : State := { s with cinch := f s.cinch }

/-! ### Settings (R494, R495) -/

/-- A field of CN_SPk (R523), as read at the last Cinch reset. -/
def State.sp (s : State) (k lo n : Nat) : Nat := bitsAt (s.sill.p.getD k 0).toNat lo n

def State.rshunt (s : State) : Nat := 50 * (s.sp 0 0 8 + 1)
def State.vlim (s : State) : Nat := if 51 ≤ s.sp 0 8 6 then 60000 else 10000 + 1000 * s.sp 0 8 6
/-- FT_RATIO in halves. -/
def State.ftRatio2 (s : State) : Nat := if 6 ≤ s.sp 0 14 3 then 8 else 3 + s.sp 0 14 3
def State.uvOn (s : State) : Nat := 30000000 + 100000 * s.sp 0 17 8
def State.uvHys (s : State) : Nat := 500000 * (s.sp 0 25 4 + 1)
def State.ovLimit (s : State) : Nat := if 151 ≤ s.sp 1 0 8 then 60000000 else 75000000 - 100000 * s.sp 1 0 8
def State.tAmb (s : State) : Nat := if 86 ≤ s.sp 1 8 7 then 0 else 85 - s.sp 1 8 7
def State.tjTrip (s : State) : Nat := if 51 ≤ s.sp 1 15 6 then 175 else 125 + s.sp 1 15 6
def State.tfTrip (s : State) : Nat := if 51 ≤ s.sp 1 21 6 then 150 else 100 + s.sp 1 21 6
def State.tRst (s : State) : Nat := 60 + s.sp 3 0 6
def State.vdsPg (s : State) : Nat := 250000 + 50000 * s.sp 3 15 4
def State.pchDv (s : State) : Nat := 2000000 + 500000 * s.sp 3 19 4
/-- µV per ms. -/
def State.pchDvdt (s : State) : Nat := 50000 * (s.sp 3 23 4 + 1)
def State.pchEmax (s : State) : Rat := ((s.sp 4 0 6 + 1 : Nat) : Rat) / 4
/-- Seconds. -/
def State.pchCool (s : State) : Nat := 16 - s.sp 4 11 4
def State.autoRetry (s : State) : Bool := decide (s.sp 4 18 1 = 1)
def State.retryMin (s : State) : Nat := seconds (2 ^ s.sp 4 19 3)
def State.retryCnt (s : State) : Nat := s.sp 4 22 3
/-- A TFET sensor is fitted. -/
def State.tfetFitted (s : State) : Bool := decide (s.sp 4 25 2 = 1 ∨ s.sp 4 25 2 = 2)

/-- GATE_I in µA: RAMP raises GATE at this current over the gate capacitance, which is the card's (R506). -/
def State.gateMicroamps (s : State) : Nat := 10 * (s.sp 3 11 4 + 1)
/-- TMEM_TAU in seconds (R514). -/
def State.tmemTau (s : State) : Nat := 64 - s.sp 5 0 6

/-- PCH_TMAX, T_GRISE and FS_TIME, in ticks. -/
def State.pchTmax (s : State) : Nat := 10 * ms * (s.sp 4 6 5 + 1)
def State.gateRise (s : State) : Nat := (if 19 ≤ s.sp 3 6 5 then 1 else 20 - s.sp 3 6 5) * ms
def State.shortTime (s : State) : Nat := seconds (2 ^ s.sp 4 15 3) / 2

/-- The built-in model set is in use (R495). -/
def State.builtIn (s : State) : Bool := decide ((s.sill.p.getD 2 0).toNat = 0)

/-- RTH1, TAU1, RTH2 and TAU2 in K/W and seconds. [DESIGN CHOICE, log 115] -/
def State.fetModel (s : State) : Rat × Rat × Rat × Rat :=
  if s.builtIn then (1, 1 / 1000, 40, 10)
  else
    let n (lo : Nat) : Rat := ((max 1 (s.sp 2 lo 8) : Nat) : Rat)
    (n 0 / 100, n 8 * 50 / 1000000, n 16 / 4, n 24 / 4)

/-- The current limit in force (R497, R516). -/
def State.limitNow (s : State) : Nat :=
  let soft := s.cinch.soft.toNat
  if soft = 0 then s.vlim else min s.vlim (max (250 * soft) 5000)

/-- The model temperature (R510), °C. -/
def State.tModel (s : State) : Rat := (s.tAmb : Rat) + s.cinch.dt1 + s.cinch.dt2

/-! ### Telemetry codes (R251) -/

/-- The latest conversion code of a channel. -/
def State.convCode (s : State) (ch : Nat) : Nat := ((s.ports.conv.find? fun x => decide (x.1 = ch)).map fun x => x.2.1).getD 0

/-- The measured TFET temperature. -/
def State.tfetTemp (s : State) : Rat := cinchValue 4 (s.convCode 4)

/-- A temperature's code, 1/16 °C from −50 °C. -/
def tempCode (t : Rat) : Nat := min 4095 (max 0 ((t + 50) * 16).floor).toNat

/-- The sense code, 40 µV signed. -/
def senseCode (v : Int) : Nat := toBits 12 (max (-2048) (min 2047 (v / 40)))

/-- Peak sense of the last 100 µs. -/
def Cinch.peak (c : Cinch) (now : Nat) : Int :=
  (c.senses.filter fun x => decide (now ≤ x.1 + 100 * us)).foldl (fun a x => max a x.2) c.sense

/-! ### States -/

def Entry.code : Entry → Nat
  | .unseated => 0 | .seating => 1 | .wait => 2 | .precharge => 3 | .ramp => 4
  | .on => 5 | .limit => 6 | .faultWait => 7 | .latched => 8 | .lockout => 9

/-- PRECHARGE to LIMIT: GATE or PCH_G is driven. -/
def Entry.drives : Entry → Bool
  | .precharge => true | .ramp => true | .on => true | .limit => true | _ => false

/-- A state is entered, with what the timers of R500, R506 to R508 and R512 count from. -/
def Cinch.enter (c : Cinch) (now : Nat) (e : Entry) : Cinch :=
  if c.st = e then c
  else { c with
    st := e, stAt := now
    onAt := if e = .on || e = .limit then some (c.onAt.getD now) else none
    rampTicks := if e = .limit then c.rampTicks + (if c.st = .ramp then now - c.stAt else 0) else if c.st = .limit && e = .ramp then c.rampTicks else 0
    offAt := if c.st.drives && !e.drives then now else c.offAt }

/-- The thermal part of R513. -/
def State.coolEnough (s : State) : Bool :=
  decide (s.tModel < ((max s.tRst (s.tAmb + 5) : Nat) : Rat))
    && (!s.tfetFitted || s.cinch.tfetBad || decide (s.tfetTemp < (s.tRst : Rat)))

/-- Ticks of RETRY_MIN still to run. -/
def State.retryLeft (s : State) : Nat := match s.cinch.holdFrom with
  | some t => t + s.retryMin - s.now
  | none => 0

/-- Ticks of the spacing of R505 still to run. -/
def State.coolLeft (s : State) : Nat := match s.cinch.pchStart with
  | some t => if s.cinch.st = .precharge then 0 else t + (((seconds s.pchCool : Nat) : Rat) * s.cinch.pchEnergy / s.pchEmax).ceil.toNat - s.now
  | none => 0

/-- The conditions of R501 that hold the power entry in WAIT, bit 0 UV to bit 6 VOUT_HIGH. [DEDUCED, log 65] -/
def State.why (s : State) : Nat :=
  let c := s.cinch
  packNat [(0, b2n (decide (c.vin < s.uvOn))), (1, b2n (c.ovHit && decide (s.ovLimit < c.vin + 1000000))),
    (2, b2n (c.holdFrom.isSome && !s.coolEnough)), (3, b2n (decide (0 < s.retryLeft))), (4, b2n (decide (0 < s.coolLeft))),
    (5, b2n !c.loadOn), (6, b2n (decide (9 * c.vin ≤ 10 * c.vout)))]

/-- CN_STAT.WHY: what holds WAIT, while it lasts; 0 in every other state, as at reset (R501, R523).
[DEDUCED, log 65] -/
def State.whyShown (s : State) : Nat := if s.cinch.st = .wait then s.why else 0

/-- CINCH_STATE (R522). [DESIGN CHOICE, log 67] -/
def State.postEntry (s : State) (prev : Entry) : State :=
  let c := s.cinch
  let flags := packNat [(0, b2n c.pg), (1, b2n c.flt), (2, b2n c.loadOn), (3, b2n (decide (s.limitNow < s.vlim)))]
  (s.post 0x041 0 ([BitVec.ofNat 8 c.st.code, BitVec.ofNat 8 prev.code, BitVec.ofNat 8 s.whyShown, BitVec.ofNat 8 flags]
    ++ leBytes 2 (s.convCode 0) ++ leBytes 2 (s.convCode 1) ++ leBytes 2 (s.convCode 2) ++ leBytes 2 (tempCode s.tModel)
    ++ [c.suppressed])).onCinch fun c => { c with suppressed := 0 }

/-- A pre-charge that ends, however it ends, is the last one: CN_PCH_LAST takes its energy and length (R504). -/
def State.endPrecharge (s : State) : State :=
  s.onCinch fun c => if c.st = .precharge then { c with pchEnergy := c.pchRun, pchTicks := s.now - c.pchStart.getD s.now, limiting := false } else c

/-- A state change, with its event. -/
def State.toEntry (s : State) (e : Entry) : State :=
  let prev := s.cinch.st
  if prev = e then s
  else
    let s := s.endPrecharge.onCinch fun c =>
      { (c.enter s.now e) with
        pg := if e = .on then c.pg else false, pch := c.pch && e.drives, limiting := false
        quit := if prev.drives && !e.drives then some (s.now, prev) else c.quit }
    s.postEntry prev

/-- An entry to or exit from LIMIT: posted at most once each per 100 ms (R520). -/
def State.toLimit (s : State) (e : Entry) : State :=
  let prev := s.cinch.st
  let last := if e = .limit then s.cinch.limitIn else s.cinch.limitOut
  let s := s.onCinch fun c => { (c.enter s.now e) with back := if e = .limit then prev else c.back, pg := false, limiting := decide (e = .limit) }
  if match last with | some t => decide (s.now < t + 25600000) | none => false then
    s.onCinch fun c => { c with suppressed := satInc c.suppressed }
  else
    (s.onCinch fun c => if e = .limit then { c with limitIn := some s.now } else { c with limitOut := some s.now }).postEntry prev

/-! ### Faults (R512, R522) -/

/-- The state a trip ends: the one that drives, or the one a removal, VIN or LOAD_ON has ended in this same 1 µs
step (R520). -/
def State.tripping (s : State) : Option Entry :=
  let st := s.cinch.st
  if st.drives then some st
  else match s.cinch.quit with
    | some (t, e) => if t / us = s.now / us && (st = .wait || st = .unseated) then some e else none
    | none => none

/-- A trip of R504 or R509 may act. -/
def State.mayTrip (s : State) : Bool := s.tripping.isSome

/-- Where a fault leads (R512), the count including it. [DESIGN CHOICE, log 66] -/
def State.faultNext (s : State) (code consec : Nat) : Entry :=
  if code = 6 ∨ code = 7 then .lockout
  else if code = 8 then .latched
  else if s.autoRetry && (decide (s.retryCnt = 0) || decide (consec < s.retryCnt)) then .faultWait
  else .latched

def Cinch.countFault (c : Cinch) (code : Nat) : Cinch :=
  match code with
  | 1 => { c with overload := satInc c.overload }
  | 2 => { c with fastTrip := satInc c.fastTrip }
  | 3 => { c with tfetHot := satInc c.tfetHot }
  | 4 => { c with pchCnt := satInc c.pchCnt }
  | 5 => { c with pchCnt := satInc c.pchCnt }
  | 8 => { c with halterTrip := satInc c.halterTrip }
  | _ => { c with gateFs := satInc c.gateFs }

/-- A fault: recorded, counted, posted; it freezes the trace ring and stands in the fault history (R512, R332, R557).
A trip that meets a removal leaves UNSEATED, one that meets a stop of VIN or LOAD_ON takes its place (R520); a
HALTER_TRIP in a fault state leaves the fault in force and its RETRY_MIN standing (R555).
[DESIGN CHOICE, log 66] -/
def State.cinchFault (s : State) (code : Nat) : State :=
  let prev := if code ≤ 5 || code = 8 then s.tripping.getD s.cinch.st else s.cinch.st
  let consec := min 255 (s.cinch.consec + 1)
  let keeps := code = 8 && (prev = .faultWait || prev = .latched || prev = .lockout)
  let stays := keeps || (s.tripping.isSome && s.cinch.st = .unseated)
  let next := if stays then s.cinch.st else s.faultNext code consec
  let peak := senseCode (s.cinch.peak s.now)
  let s := s.endPrecharge.onCinch fun c =>
    { ((c.countFault code).enter s.now next) with
      fault := BitVec.ofNat 4 code, faultState := BitVec.ofNat 4 prev.code, faultPeak := BitVec.ofNat 12 peak
      consec := consec, pg := false, pch := false, limiting := false
      flt := c.flt || !stays, holdFrom := if keeps then c.holdFrom else some s.now
      unrecorded := c.unrecorded || !s.core.up }
  let outcome := match next with
    | .faultWait => 0 | .lockout => 2 | _ => 1
  let left := if next = .faultWait then min 0xFFFE (s.retryLeft / 25600000) else 0xFFFF
  let payload : List Byte := [BitVec.ofNat 8 code, BitVec.ofNat 8 prev.code, BitVec.ofNat 8 outcome, BitVec.ofNat 8 consec]
    ++ leBytes 2 (s.convCode 0) ++ leBytes 2 (s.convCode 1) ++ leBytes 2 peak ++ leBytes 2 (tempCode s.tModel)
    ++ leBytes 2 (s.convCode 4) ++ leBytes 2 left
  let s := s.post 0x040 0 payload
  let s := if s.core.up then s.writeHistory 4 payload else s
  let s := if bitAt s.tack.trace.ctrl.toNat 16 && s.core.up then s.traceTrigger 1 255 0 else s
  s.postEntry prev

/-- A fault recorded only in CN_FAULT enters the history at the next boot (R557); what CN_FAULT does not hold is open.
[DESIGN CHOICE, log 63] -/
def State.recordOldFault (s : State) : State :=
  if !s.cinch.unrecorded then s
  else
    let c := s.cinch
    let (v, s) := s.takeFree
    let s := s.writeHistory 4 ([BitVec.ofNat 8 c.fault.toNat, BitVec.ofNat 8 c.faultState.toNat, BitVec.ofNat 8 v, BitVec.ofNat 8 c.consec]
      ++ leBytes 4 (v / 256) ++ leBytes 2 c.faultPeak.toNat ++ leBytes 6 (v / 2 ^ 40))
    s.onCinch fun c => { c with unrecorded := false }

/-! ### Seating and the supply -/

/-- SEAT_N goes low (R500). -/
def State.seatAssert (s : State) : State :=
  let s := s.onCinch fun c => { c with seatLow := true }
  if s.cinch.st = .unseated then s.toEntry .seating else s

/-- SEAT_N has been low for SEAT_DB (R500). -/
def State.seatDebounced (s : State) : State :=
  if s.cinch.st = .seating && s.cinch.seatLow && decide (s.cinch.stAt + s.cinch.seatDb.toNat * ms ≤ s.now) then s.toEntry .wait else s

/-- SEAT_N is high for 10 µs (R502); LOCKOUT is kept (R520). -/
def State.seatRemoved (s : State) : State :=
  let s := s.onCinch fun c => { c with seatLow := false }
  if s.cinch.st = .lockout then s else (s.onCinch fun c => { c with flt := false }).toEntry .unseated

/-- VIN as measured now, and whether it has exceeded OV (R497). -/
def State.noteVin (s : State) (vin : Nat) : State :=
  s.onCinch fun c => { c with vin := vin, ovHit := if s.ovLimit < vin then true else if vin + 1000000 ≤ s.ovLimit then false else c.ovHit }

/-- VIN lies outside the range in which the load may stay on (R497). [DEDUCED, log 65] -/
def State.vinStops (s : State) : Bool := decide (s.cinch.vin + s.uvHys < s.uvOn) || decide (s.ovLimit < s.cinch.vin)

/-- VIN_OUT_OF_RANGE: the load stops without a fault (R500). -/
def State.vinCheck (s : State) (vin : Nat) : State :=
  let s := s.noteVin vin
  if s.vinStops && s.cinch.st.drives then s.toEntry .wait else s

/-! ### Pre-charge, ramp, power-good -/

/-- PRECHARGE_START (R501, R505). -/
def State.prechargeStart (s : State) (vin vout : Nat) : State :=
  let s := (s.noteVin vin).onCinch fun c => { c with vout := vout }
  if s.cinch.st = .wait && decide (s.why = 0) then
    (s.onCinch fun c => { c with pchStart := some s.now, pchRun := 0, holdFrom := none, pch := true }).toEntry .precharge
  else s

/-- PRECHARGE_DONE: gap and slope have held (R503); the slope is in µV per ms. -/
def State.prechargeDone (s : State) (vin vout slope : Nat) : State :=
  let s := (s.noteVin vin).onCinch fun c => { c with vout := vout }
  if s.cinch.st = .precharge && decide (vin ≤ vout + s.pchDv) && decide (slope < s.pchDvdt) then s.toEntry .ramp else s

/-- PCH_ENERGY, and PCH_TIME after PCH_TMAX (R504): the energy fault is reported first. -/
def State.pchEnergyTrip (s : State) : State :=
  if s.tripping = some .precharge && decide (s.pchEmax < s.cinch.pchRun) then s.cinchFault 4 else s
def State.pchTimeTrip (s : State) : State :=
  if s.tripping = some .precharge && (s.cinch.pchStart.any fun t => decide (t + s.pchTmax ≤ s.now)) then s.cinchFault (if s.pchEmax < s.cinch.pchRun then 4 else 5) else s

/-- RAMP_COMPLETE: VGS has reached 10 V (R506). -/
def State.rampComplete (s : State) : State := if s.cinch.st = .ramp then s.toEntry .on else s

/-- GATE_FAIL: T_GRISE has been counted in RAMP, the time in which the limit regulates left out (R507). -/
def State.gateFail (s : State) : State :=
  if s.cinch.st = .ramp && decide (s.gateRise ≤ s.cinch.rampTicks + (s.now - s.cinch.stAt)) then s.cinchFault 6 else s

/-- PG_ASSERT (R499, R506). -/
def State.pgAssert (s : State) (vds : Nat) : State :=
  if s.cinch.st = .on && decide (vds < s.vdsPg) then
    s.onCinch fun c => { c with pg := true, pch := false, flt := false, vds := vds }
  else s
def State.pgDeassert (s : State) : State := s.onCinch fun c => { c with pg := if c.st = .on then false else c.pg }
/-- PG_LATE: 100 ms after entry to ON (R506). -/
def State.pgIsLate (s : State) : State := s.onCinch fun c => if c.st = .on ∧ !c.pg ∧ c.stAt + 100 * ms ≤ s.now then { c with pgLate := true } else c

/-! ### Limit and trips (R500, R503, R509) -/

/-- LIMIT_ENTER: in PRECHARGE the limit regulates PCH_G and the state stays (R503). -/
def State.limitEnter (s : State) (sense : Nat) : State :=
  if sense < s.limitNow then s
  else
    let s := s.onCinch fun c => { c with sense := sense }
    match s.cinch.st with
    | .precharge => s.onCinch fun c => { c with limiting := true }
    | .ramp => (s.onCinch fun c => { c with limitEntries := satInc c.limitEntries }).toLimit .limit
    | .on => (s.onCinch fun c => { c with limitEntries := satInc c.limitEntries }).toLimit .limit
    | _ => s

/-- LIMIT_EXIT: below 0.95 V_L for 50 µs, back to where it came from. -/
def State.limitExit (s : State) (sense : Nat) : State :=
  if 95 * s.limitNow ≤ 100 * sense then s
  else
    let s := s.onCinch fun c => { c with sense := sense }
    match s.cinch.st with
    | .precharge => s.onCinch fun c => { c with limiting := false }
    | .limit => s.toLimit s.cinch.back
    | _ => s

/-- The fast-trip threshold is reached (R497). -/
def State.fastOver (s : State) (sense : Int) : Bool := decide (((s.ftRatio2 * s.vlim : Nat) : Int) ≤ 2 * sense)

def State.fastTripEvent (s : State) (sense : Nat) : State :=
  if s.mayTrip && s.fastOver sense then (s.onCinch fun c => { c with sense := sense }).cinchFault 2 else s

/-- OVERLOAD; a fast trip in the same step is reported instead (R509). -/
def State.overloadEvent (s : State) : State :=
  if s.mayTrip && decide ((s.tjTrip : Rat) ≤ s.tModel) then s.cinchFault (if s.fastOver s.cinch.sense then 2 else 1) else s

/-- TFET_HOT; FAST_TRIP and OVERLOAD in the same step are reported instead (R509). -/
def State.tfetHotEvent (s : State) : State :=
  if s.mayTrip && s.tfetFitted && !s.cinch.tfetBad && decide ((s.tfTrip : Rat) ≤ s.tfetTemp) then
    s.cinchFault (if s.fastOver s.cinch.sense then 2 else if (s.tjTrip : Rat) ≤ s.tModel then 1 else 3)
  else s

/-- FET_SHORT, in any state with both gates off but LOCKOUT, no sooner than FS_TIME after they went off (R508). -/
def State.fetShortEvent (s : State) (vin vout : Nat) : State :=
  let s := (s.noteVin vin).onCinch fun c => { c with vout := vout }
  if s.cinch.st.drives || s.cinch.st = .lockout || decide (s.now < s.cinch.offAt + s.shortTime) then s
  else if 9 * vin ≤ 10 * vout then s.cinchFault 7 else s

/-! ### The FET model (R510, R511, R514) -/

/-- One 1 µs step, with the pre-charge energy of R504 and the discharge of TMEM through TMEM_TAU (R514).
[DESIGN CHOICE, logs 115, 161] -/
def State.fetStep (s : State) (vds : Nat) (sense : Int) (vin vout : Nat) : State :=
  let (r1, t1, r2, t2) := s.fetModel
  let amps : Rat := (sense : Rat) / s.rshunt
  let p : Rat := (vds : Rat) / 1000000 * (if amps < 0 then -amps else amps)
  let step (d r t : Rat) : Rat := max 0 (d + (p - d / r) / 1000000 / (t / r))
  let s := s.noteVin vin
  s.onCinch fun c => { c with
    vds := vds, vout := vout, sense := sense
    senses := ((s.now, sense) :: c.senses).filter fun x => decide (s.now ≤ x.1 + 100 * us)
    dt1 := step c.dt1 r1 t1, dt2 := step c.dt2 r2 t2
    tmem := c.tmem - c.tmem / s.tmemTau / 1000000
    pchRun := if c.st = .precharge then c.pchRun + ((vin : Int) - vout : Int) / 1000000 * amps / 1000000 else c.pchRun }

/-- TMEM_REFRESH (R514). -/
def State.tmemRefresh (s : State) : State := s.onCinch fun c => { c with tmem := min (5 / 2) ((c.dt1 + c.dt2) / 50) }

/-- MODEL_LOW (R511). -/
def State.modelLowEvent (s : State) : State :=
  if s.tfetFitted && !s.cinch.tfetBad && decide (s.tModel + 15 < s.tfetTemp) then
    s.onCinch fun c => { c with modelLow := true, modelLowCnt := satInc c.modelLowCnt }
  else s

/-- A conversion: TFET out of range is bad (R511); the points that wait take it (R252). -/
def State.cinchConvert (s : State) (ch code at' : Nat) : State :=
  let code := if ch = 4 ∧ !s.tfetFitted then 0 else code % 4096
  let s := if ch = 4 ∧ s.tfetFitted then
      s.onCinch fun c => { c with tfetBad := decide (cinchValue 4 code < -55) || decide (200 < cinchValue 4 code) }
    else s
  s.cinchFeed ch code at'

/-! ### Restart and host control (R513, R516 to R518) -/

/-- RESTART_CONDITION_MET: on to WAIT, where the condition of R513 goes on holding the entry (R501). -/
def State.restartMet (s : State) : State :=
  if s.cinch.st = .faultWait && s.coolEnough && decide (s.retryLeft = 0) then s.toEntry .wait else s

/-- FAULT_COUNT_RESET: 60 s of continuous ON or LIMIT (R512). -/
def State.faultCountReset (s : State) : State :=
  if s.cinch.onAt.any fun t => decide (t + seconds 60 ≤ s.now) then s.onCinch fun c => { c with consec := 0 } else s

/-- A write of CN_CTRL (R517). -/
def State.writeCnCtrl (s : State) (v : Word) : State :=
  let db := bitsAt v.toNat 8 8
  let s := s.onCinch fun c => { c with loadOn := bitAt v.toNat 0, seatDb := if 10 ≤ db ∧ db ≤ 200 then BitVec.ofNat 8 db else c.seatDb }
  if !s.cinch.loadOn && s.cinch.st.drives then s.toEntry .wait else s

/-- A write of CN_SOFT (R516). -/
def State.writeCnSoft (s : State) (v : Word) : State := s.onCinch fun c => { c with soft := BitVec.ofNat 8 v.toNat }

/-- A write of CN_CLEAR (R518), which is activity of an open session (R577). -/
def State.writeCnClear (s : State) (v : Word) : State :=
  if !s.gate.session then s
  else
    let s := { s with gate := { s.gate with activeAt := s.now } }
    if bitAt v.toNat 0 && s.cinch.st = .latched then s.toEntry .faultWait else s

end Sys2Proof.Machine
end

