-- ==== Sys2Proof/Machine/Report.lean ====
section
/-! DEFINITION. The start-up report on channel 0 (R533, R534), and the host's reset of its party there (R404). -/
namespace Sys2Proof.Machine

/-- Word `k` of the report (R533). -/
def State.reportWord (s : State) (k : Nat) : Word :=
  let item (n v : Nat) : Word := BitVec.ofNat 32 (n * 2 ^ 24 + v % 2 ^ 24)
  match k with
  | 0 => item 1 s.core.bootId.toNat
  | 1 => item 2 (packNat [(0, s.core.resetCause.toNat), (8, min 15 s.halter.run)])
  | 2 => item 3 (packNat [(0, s.fw.version.toNat), (16, b2n s.fw.image), (17, b2n s.fw.fallback)])
  | 3 => item 4 s.core.selftest.toNat
  | 4 => item 5 (min 65535 s.mram.unreported)
  | 5 => item 6 (packNat [(0, b2n (s.copyValid && !s.copyCollected)), (1, b2n s.core.restored)])
  | 6 => item 7 (packNat [(0, s.cinch.fault.toNat), (4, s.cinch.st.code)])
  | _ => item 0xF 7

/-- Foreman G posts the word of the report that is due, once the word before it is gone (R397, R533). -/
def State.postReport (s : State) : State :=
  match s.core.report with
  | some k =>
    if k < 8 ∧ bitAt s.core.ready.toNat 2 ∧ !(s.chan 0).outb.full then (s.firmwarePost 0 (s.reportWord k)).onCore fun c => { c with reportOut := true } else s
  | none => s

/-- The report starts again from its first word, behind a word that still stands in HR_OUT (R534). -/
def State.restartReport (s : State) : State :=
  if bitAt s.core.ready.toNat 2 then (s.onCore fun c => { c with report := some 0, reportOut := false }).postReport else s

/-- FIRMWARE_POST_OUT on a rail channel: channel 0 carries the report while it is due. -/
def State.firmwareOut (s : State) (c : Nat) (v : Word) : State :=
  if c = 0 ∧ (s.core.report.any fun k => decide (k < 8)) ∧ bitAt s.core.ready.toNat 2 then s.postReport else s.firmwarePost c v

/-- A host write of HR_ACK_OUT; on channel 0 the next word of the report is posted, after DONE for the last one
(R399, R533, R534). [DESIGN CHOICE, log 82] -/
def State.hostAck (s : State) (c : Nat) (code : BitVec 16) : State :=
  let x := s.chan c
  let taken := s.chanOpen c && x.formal && x.outb.full && !x.outb.orphan
  let s := s.hrAckOutWrite c code
  if taken && decide (c = 0) then
    let mine := s.core.reportOut
    let s := s.onCore fun q => { q with reportOut := false }
    match s.core.report with
    | some k =>
      if mine && decide (code = 0) then
        let s := s.onCore fun q => { q with report := some (min 8 (k + 1)) }
        (if k = 7 then s.onMram fun m => { m with unreported := 0 } else s).postReport
      else s.postReport
    | none => s
  else s

/-- The host declares itself, or is reset as, a new party on channels 0 to 7 (R404); Foreman G then
posts the start-up report again from its first word (R534). -/
def State.hostBump (s : State) : State :=
  ((s.onRail fun r => { r with hostEpoch := r.hostEpoch + 1 }).hostPartyReset lowChannels).restartReport

end Sys2Proof.Machine
end

