-- ==== Sys2Proof/Machine/Power.lean ====
section
/-! DEFINITION. The host link's resets and power states (R341, R387 to R389, R528), with what they do
to a secure session (R577) and to the rail's host parties (R404). -/
namespace Sys2Proof.Machine

def State.onGate (s : State) (f : Gate → Gate) : State := { s with gate := f s.gate }

/-- The secure host party is reset; the words of a recovery are discarded (R404, R588). [DESIGN CHOICE, log 73] -/
def State.secureReset (s : State) : State := (s.onGate fun g => { g with recovery := none }).secureHostReset

/-- An open session ends (R577). -/
def State.closeSession (s : State) : State :=
  if s.gate.session then (s.onGate fun g => { g with state := 0 }).secureReset else s

/-- What PERST_N, hot reset, link disable, link down and FLR do alike (R387, R388, R404). [DESIGN CHOICE, log 11, 58] -/
def State.resetLink (s : State) : State :=
  (s.drainJobs.settleRearm.dropHostCopies.onLink Link.afterReset).hostBump.secureReset

/-- HOST_LINK_RESET: 0 PERST_N asserted, 1 hot reset, 2 link disable, 3 link down. PERST_N and hot reset
also close a session (R389). [DESIGN CHOICE, log 73] -/
def State.hostLinkReset (s : State) (kind : Nat) : State :=
  let went := s.link.go
  let s := if kind ≤ 1 ∧ s.gate.session then s.onGate fun g => { g with state := 0 } else s
  let s := s.resetLink.onLink fun l => { l with linkLost := went, linkUp := false, perst := if kind = 0 then true else l.perst }
  s.setReady 5 false

/-- FUNCTION_LEVEL_RESET (R387, R389). -/
def State.functionReset (s : State) : State :=
  (if s.gate.session then s.onGate fun g => { g with state := 0 } else s).resetLink

/-- LINK_UP: L0 with the data link layer active (R528), which PERST_N prevents. -/
def State.linkIsUp (s : State) : State :=
  if s.link.perst then s else (s.onLink fun l => { l with linkUp := true }).setReady 5 true

/-- D3HOT_ENTRY, with PME_En as the host has set it (R341). -/
def State.enterD3 (s : State) (pmeEn : Bool) : State :=
  s.parkEvents.onLink fun l => { (if l.running then l.markBegun else l) with d3hot := true, pmeEn := pmeEn }

/-- D3HOT_EXIT: requests to host memory resume, and what waited goes out. -/
def State.leaveD3 (s : State) : State := (s.onLink fun l => { l with d3hot := false }).flushHeld

/-- PERST_N_RELEASE: WAKE_N is released with it (R341). -/
def State.perstReleased (s : State) : State := s.onLink fun l => { l with perst := false, wakeN := true }

end Sys2Proof.Machine
end

