-- ==== Sys2Proof/Machine/Boundary.lean ====
section
/-! DEFINITION. The cycle boundary (R8, R9, R18): the count, HOLDOVER's end (R37), pending register
writes (R64, R130, R170, R174, R292), the compiled lists and changes (R61, R271, R285, R298), chain
maps (R132, R139, R152, R154), unfenced two-wire ports (R210), Tally commands (R488) and the jobs that
complete here (R150, R151, R379). -/
namespace Sys2Proof.Machine

/-! ### Counts and the wheel -/

/-- The count of the new cycle (R19, R42): a worker adopts the manager's, and says so. -/
def State.nextCount (s : State) : State :=
  let prev := s.wheelReported
  let next := s.wheel.count + 1
  match s.wheel.mgrCount with
  | some c =>
    let s := s.onWheel fun w => { w with count := c + 1, mgrCount := none, cycle := w.cycle + 1, prevCount := w.count }
    if c + 1 = next then s else s.postPhase prev 7 0
  | none => s.onWheel fun w => { w with count := next, cycle := w.cycle + 1, prevCount := w.count }

/-- A free-run frequency takes effect (R64). -/
def State.takeNominal (s : State) (v : BitVec 20) : State :=
  let s := s.onWheel fun w => { w with nominal := v }
  if s.wheel.state = .free then s.freeRate else s

/-- HOLDOVER's count to FREE, and an acquisition that waited for the boundary (R37). -/
def State.wheelBoundary (s : State) : State :=
  let s := if s.wheel.state = .holdover then
      if s.wheel.holdLeft.toNat ≤ 1 then s.toFree.beginAcq
      else s.onWheel fun w => { w with holdLeft := w.holdLeft - 1 }
    else s
  let s := if s.wheel.acqWait then s.beginAcq else s
  match s.wheel.nominalWait with
  | some v => (s.onWheel fun w => { w with nominalWait := none }).takeNominal v
  | none => s

/-! ### Ports whose MODE changes (R120, R130, R138, R151) -/

/-- Every job of a port ends with a status. [DESIGN CHOICE, log 38] -/
def State.endPortJobs (s : State) (p status : Nat) : State := (s.failPortJobs p status).finishUnfence p status

/-- The points of a port lose their marks. -/
def State.clearMarks (s : State) (p : Nat) : State :=
  (s.tab.points.filter fun x => decide (x.2.src = p)).foldl (fun s x => s.onMark x.1 fun _ => {}) s

/-- An Awl port's configuration takes effect. [DESIGN CHOICE, log 38] -/
def State.awlConfig (s : State) (n : Nat) : State :=
  let a := s.awl n
  let old := a.mode
  let new := bitsAt a.cfgReg.toNat 0 2
  let s := s.onAwl n fun a => { a with cfg := a.cfgReg, sent := a.sentReg }
  if old = new then s
  else
    let s := s.cutOffAwl n (if new = 0 then 0x208 else 0x207)
    let s := s.endPortJobs n (if new = 0 then 0x208 else 0x207)
    let s := s.clearMarks n
    s.onAwl n fun a => { a with life := if new = 1 then .unsearched else .off, waiting := none, prefixWait := none, pfx := 0, chainLen := 0, nextAt := none
                                unstableExp := none, unfenced := none, judged := [], rtDue := none, changeCause := 0, sentIds := [], spuUntil := 0, echoes := [], calPrev := []
                                noResp := [], misRun := 0, echoRun := 0, nvBusy := [], latch := none }

/-- A two-wire port's configuration takes effect (R174). [DESIGN CHOICE, log 38] -/
def State.twConfig (s : State) (m : Nat) : State :=
  let t := s.tw m
  let old := bitsAt t.cfg.toNat 0 2
  let new := bitsAt t.cfgReg.toNat 0 2
  let s := s.onTw m fun t => { t with cfg := t.cfgReg, zone := t.zoneReg }
  if old = new then s
  else
    let s := (s.cutOffTw m 0x208).endPortJobs (64 + m) 0x208
    s.onTw m fun t => { t with fenced := false, returning := none, nextAt := none, absent := [], nackRun := [], zoneStop := none
                               segFree := false, timeoutAt := none, entered := decide (new = 1) }

/-- The bindings and enables of the alert inputs take effect: an input disabled or without ports is ignored, ports no
longer bound are passed over, and one that is asserted as it becomes enabled is served (R201). [DESIGN CHOICE, log 37] -/
def State.alertBoundary (s : State) (was : List Nat) : State :=
  (List.range 8).foldl (fun s a =>
    let x := s.alertOf a
    let ports := x.ports.filter fun m => (s.alertPorts a).contains m
    if !s.alertEnabled a then (if x.pending then s.onAlert a AlertSvc.done else s)
    else if !was.contains a then (if x.level && !x.pending then s.alertStart a else s)
    else if ports = x.ports then s
    else if ports.isEmpty then s.onAlert a AlertSvc.done
    else s.onAlert a fun x => { x with ports := ports, reads := if ports.head? = x.ports.head? then x.reads else 0 }) s

/-- Register writes that waited for the boundary (R170, R219, R292). -/
def State.registersBoundary (s : State) : State :=
  let served := (List.range 8).filter s.alertEnabled
  let s := s.onScr fun c => { c with cfg := c.cfgReg, pgrp := c.pgrpReg, paused := false }
  let s := s.onPorts fun p => { p with
    chainCfg := p.chainCfgReg, chainLimit := p.chainLimitReg, fenceCfg := p.fenceCfgReg, bklCfg := p.bklCfgReg
    zoneAddr := p.zoneAddrReg, alertBind := p.alertBindReg, alertCfg := p.alertCfgReg }
  let awls := ((s.ports.awl.filter fun x => decide (x.2.cfg ≠ x.2.cfgReg) || decide (x.2.sent ≠ x.2.sentReg))).map (·.1)
  let tws := ((s.ports.tw.filter fun x => decide (x.2.cfg ≠ x.2.cfgReg) || decide (x.2.zone ≠ x.2.zoneReg))).map (·.1)
  (tws.foldl (fun s m => s.twConfig m) (awls.foldl (fun s n => s.awlConfig n) s)).alertBoundary served

/-! ### The swap (R61, R149, R271, R285) -/

/-- The marks a loaded Breik point takes: those of the map that will be in force (R145, R147, R148), of the prefix in
UNSTABLE (R154), none before the port's first completed search. -/
def State.loadedMark (s : State) (pt : Point) : PointMark :=
  let a := s.awl pt.src
  if pt.valid && decide (pt.src < 64) && decide (a.mode = 1) && a.everSearched then
    if a.life = .unstable then matchPrefix a.map s.tab.idents pt {} else (matchPoint a.mapNext s.tab.idents pt).2
  else {}

/-- A two-wire target whose points read VOUT_MODE formats: its exponent is read in the next gap (R260, R261). -/
def State.vmodeWanted (s : State) (i : Nat) : State :=
  let pt := s.point i
  if pt.valid && decide (64 ≤ pt.src ∧ pt.src < 128) && (decide (pt.fmt = 3) || decide (pt.fmt = 4)) then
    s.vmodeWant (pt.src - 64) pt.addr
  else s

/-- One accepted change takes effect (R8). -/
def State.applyChange (s : State) (c : Change) : State :=
  match c with
  | .points _ ps is sl =>
    let s := s.onTab fun t => { t with points := putAll {} t.points ps, idents := putAll 0 t.idents is, slack := putAll {} t.slack sl }
    let s := courseNumbers.foldl (fun s c => s.onCourse c fun k => k.keepOnly (s.coursePoints c)) s
    ps.foldl (fun s x => (s.onMark x.1 fun _ => s.loadedMark (s.point x.1)).vmodeWanted x.1) s
  | .coefs _ cs => s.onTab fun t => { t with coefs := putAll {} t.coefs cs }
  | .pole _ es =>
    let opens := (es.filter fun e => decide (e.action = 3)).map fun e => bitsAt e.arg.toNat 0 4
    s.onPole fun p => { p with entries := es, fired := []
                               closed := BitVec.ofNat 16 (opens.eraseDups.foldl (fun a g => a + 2 ^ g) 0) }
  | .courses _ rs => rs.foldl (fun s x => s.onCourse x.1 fun k => { k with cfg := x.2, lastBad := false, repeatRun := 0 }) s
  | .nominal v => s.takeNominal v
  | .plain => s

/-- R149: a port in SEARCH, or in SWAP_WAIT on a map this compile does not include or that Halter mode keeps back
(R163), keeps its list. -/
def State.keepsList (s : State) (r : Compiled) (p : Nat) : Bool :=
  decide (p < 64) && (match (s.awl p).life with
    | .search => true
    | .swapWait => !r.maps.contains p || s.halterOn
    | _ => false)

/-- Entries of the old list anchored to strikes before the boundary, not yet started, those of the cycle before
that cycle too (R285). [DEDUCED, log 50] -/
def State.leftOver (s : State) (p : Nat) : List (CutEntry × Nat) :=
  let c := s.wheel.cycle - 1
  [c - 1, c].eraseDups.flatMap fun k => (s.entriesLeft p k).map fun x => (x.1, k)

/-- A port takes its new list: old entries that end in time still run, the rest are skipped (R285). Those of a port whose
chain map changes with the list are dropped uncounted, as those before its search were (R137, R144). [DEDUCED, log 50] -/
def State.swapPort (s : State) (old : List (CutEntry × Nat)) (p : Nat) (l : CutList) : State :=
  let s := s.onScr fun c => { c with lists := tset {} c.lists p l }
  if p < 64 ∧ (s.awl p).life = .swapWait then
    old.foldl (fun s x => s.failEntry x.1 x.2) (s.onPortQ p fun q => { q with ran := [], tail := [] })
  else
  let ok (x : CutEntry × Nat) : Bool := s.tailFits p x.1 && (match s.firstPlaced p l with
    | some f => decide (x.1.stop ≤ f + 65536 * ((s.wheel.cycle : Int) - x.2))
    | none => true)
  let s := s.onPortQ p fun q => { q with ran := [], tail := old.filter ok }
  (old.filter fun x => !ok x).foldl (fun s x => s.swapSkip p x) s

/-- Versions of the tables that strikes may still end under: of the last cycles, or of an open snapshot (R9). -/
def State.versionsNeeded (s : State) : List TableVersion :=
  s.tab.old.filter fun v => decide (s.wheel.cycle ≤ v.before + 2)
    || courseNumbers.any fun c => match (s.course c).snap with
      | some n => decide (n.cycle < v.before)
      | none => false

/-- The compiled changes and lists take effect together (R61, R271, R285, R298). -/
def State.swap (s : State) (r : Compiled) : State :=
  let ports := (List.range 128).filter fun p => !s.keepsList r p &&
    (decide (tget {} s.scr.lists p ≠ {}) || decide (tget {} r.lists p ≠ {}))
  let old := ports.map fun p => (p, s.leftOver p)
  let s := s.onTab fun t => { t with old := s.versionsNeeded ++ [{ before := s.wheel.cycle, points := t.points, coefs := t.coefs, marks := t.marks }] }
  let s := s.onScr fun c => { c with ready := c.ready.drop 1, krisk := BitVec.ofNat 16 r.krisk, swapCount := s.wheel.cycle }
  let s := r.changes.foldl State.applyChange s
  old.foldl (fun s x => s.swapPort x.2 x.1 (tget {} r.lists x.1)) s

/-- The jobs whose changes took effect complete (R61, R271, R298, R379). -/
def State.finishChanges (s : State) (r : Compiled) : State :=
  r.changes.foldl (fun s c => match c.slot with
    | some x => s.complete x 0 (leBytes 4 c.count)
    | none => s) s

/-! ### Chain maps (R132, R139, R145, R152 to R156, R168) -/

/-- R132: from 0xFFFF the generation wraps to 1. -/
def nextGen (g : BitVec 16) : BitVec 16 := if g = 0xFFFF then 1 else g + 1

/-- The held READ_NOW and WRITE_TARGET jobs of a port start again (R150, R156). [DESIGN CHOICE, log 47] -/
def State.releaseHeld (s : State) (n status : Nat) : State :=
  let held := (s.awl n).held
  let s := s.onAwl n fun a => { a with held := [] }
  held.foldl (fun s slot =>
    match s.job? slot with
    | none => s
    | some j =>
      let m := s.mark j.pointIdx
      if m.verified then s.queueWire slot
      else if status ≠ 0 then s.failWire slot status
      else s.failWire slot (if m.absent then 0x201 else 0x202)) s

/-- The Breik points of a port, by index. -/
def State.portPoints (s : State) (n : Nat) : List Nat :=
  (s.tab.points.filter fun x => x.2.valid && decide (x.2.src = n)).map (·.1)

/-- Devices of two maps: moved, no longer found, NEW, FOREIGN, flagged DUPLICATE (R146, R168). -/
def State.mapCounts (s : State) (n : Nat) (old new : List Quad) : List Nat :=
  let moved := (new.zipIdx.filter fun x => !(positionsOf old x.1).isEmpty && !(positionsOf old x.1).contains (x.2 + 1)).length
  let lost := (old.filter fun e => (positionsOf new e).isEmpty).length
  let fresh := (new.filter fun e => (s.identIndex e).isNone).length
  let listed (i : Nat) (f : Nat → Bool) : Bool := s.tab.points.any fun x => x.2.valid && decide (x.2.ident = i) && decide (x.2.src < 64) && f x.2.src
  let foreign := (new.filter fun e => match s.identIndex e with
    | some i => listed i (fun p => decide (p ≠ n)) && !listed i (fun p => decide (p = n))
    | none => false).length
  let dup := (new.filter fun e => decide (1 < (positionsOf new e).length)).length
  [moved, lost, fresh, foreign, dup].map (min 255)

/-- The payload of a finished search's jobs (R379). -/
def AwlPort.searchPayload (a : AwlPort) : List Byte := leBytes 2 a.gen.toNat ++ [BitVec.ofNat 8 a.chainLen.toNat]

/-- A full map takes effect (R139, R145, R152); the next sweep starts at its first position (R143).
[DESIGN CHOICE, log 143] -/
def State.mapSwap (s : State) (n : Nat) (w : WaitMap) : State :=
  let a := s.awl n
  let pts := s.portPoints n
  let newAbsent := (pts.filter fun i => (matchPoint w.map s.tab.idents (s.point i)).2.absent && !(s.mark i).absent).length
  let counts := s.mapCounts n a.map w.map
  let s := pts.foldl (fun s i =>
    let x := matchPoint w.map s.tab.idents (s.point i)
    (s.onTab fun t => { t with points := tmod {} t.points i fun p => { p with addr := x.1 } }).onMark i fun _ => x.2) s
  let gen := nextGen a.gen
  let l := w.map.length
  let s := s.onAwl n fun a => { a with
    life := .service, map := w.map, ext := w.ext, gen := gen, chainLen := BitVec.ofNat 7 l, everSearched := true, waiting := none
    pfx := 0, unstableExp := none, unfenced := none, nextAt := none, sweepPos := 1, noResp := [], misRun := 0, echoRun := 0, changeCause := 0, latch := none }
  let s := match a.unfenced with
    | some byJob => s.post 0x021 n (unfencedPayload a.fenceCause.toNat byJob a.failedTries gen.toNat 0)
    | none => s
  let s := s.post 0x022 n (leBytes 2 a.gen.toNat ++ leBytes 2 gen.toNat ++ [BitVec.ofNat 8 a.chainLen.toNat, BitVec.ofNat 8 l, BitVec.ofNat 8 w.cause]
    ++ counts.map (BitVec.ofNat 8) ++ leBytes 2 (min newAbsent 65535) ++ [BitVec.ofNat 8 (a.tick + 128 * b2n a.tickDown)])
  let s := if a.unfenced.isSome then s.finishUnfence n 0 else s
  let jobs := (s.awl n).searchJobs
  let s := s.onAwl n fun a => { a with searchJobs := [] }
  let s := jobs.foldl (fun s slot => s.complete slot 0 (s.awl n).searchPayload) s
  s.releaseHeld n 0

/-- A prefix map takes effect (R154, R156); no strike has latched under it yet (R266). A new search may be under way by
then: it keeps the held jobs. [DESIGN CHOICE, log 48] -/
def State.prefixSwap (s : State) (n : Nat) (w : WaitMap) : State :=
  let a := s.awl n
  let k := w.map.length
  let s := (s.portPoints n).foldl (fun s i => s.onMark i fun m => matchPrefix w.map s.tab.idents (s.point i) m) s
  let gen := if a.everSearched then nextGen a.gen else a.gen
  let s := s.onAwl n fun a => { a with map := w.map, gen := gen, chainLen := BitVec.ofNat 7 k, pfx := BitVec.ofNat 7 k, prefixWait := none, unfenced := none, latch := none }
  let s := match a.unfenced with
    | some byJob => s.post 0x021 n (unfencedPayload a.fenceCause.toNat byJob a.failedTries gen.toNat 1)
    | none => s
  let wait := match a.nextAt with
    | some t => (t - s.now + oneSecond - 1) / oneSecond
    | none => 0
  let s := s.post 0x023 n (leBytes 2 a.gen.toNat ++ leBytes 2 gen.toNat ++ [BitVec.ofNat 8 k] ++ padTo 4 (w.counts.map (BitVec.ofNat 8))
    ++ [BitVec.ofNat 8 w.lastStep] ++ leBytes 2 (min wait 65535))
  let s := if a.unfenced.isSome then s.finishUnfence n 0 else s
  let s := w.jobs.foldl (fun s slot => s.complete slot 0x205) s
  if a.life = .unstable then s.releaseHeld n 0x205 else s

/-- Maps that take effect at this boundary: a prefix at the first one, a full map with its compile, but in Halter mode,
where a port keeps its life (R163). -/
def State.mapsBoundary (s : State) (maps : List Nat) : State :=
  (List.range 64).foldl (fun s n =>
    let s := match (s.awl n).prefixWait with
      | some w => s.prefixSwap n w
      | none => s
    match (s.awl n).waiting with
    | some w => if maps.contains n && !s.halterOn then s.mapSwap n w else s
    | none => s) s

/-- Two-wire ports that passed their unfence attempt serve again (R210). -/
def State.twBoundary (s : State) : State :=
  let ms := (s.ports.tw.filter fun x => x.2.returning.isSome).map (·.1)
  ms.foldl (fun s m =>
    let t := s.tw m
    let s := s.onTw m fun t => { t with fenced := false, returning := none, nextAt := none, timeoutAt := none, entered := true }
    let s := s.post 0x021 (64 + m) (unfencedPayload t.fenceCause.toNat (t.returning = some true) t.failedTries 0 0)
    s.finishUnfence (64 + m) 0) s

/-! ### What each cycle starts afresh -/

/-- Identity sweeps of this cycle; what the last one left to read is the next sweep's (R143). -/
def State.sweepBoundary (s : State) : State :=
  let div := bitsAt s.ports.chainCfg.toNat 0 8
  let batch := bitsAt s.ports.chainCfg.toNat 8 4
  let c := s.wheel.count.toNat
  (List.range 64).foldl (fun s n =>
    let mine := decide (div ≠ 0) && decide (c % div = n % div) && decide ((s.awl n).life = .service)
    s.onAwl n fun a => { a with sweepLeft := if mine then min batch a.chainLen.toNat else 0 }) s

/-- Periodic VOUT_MODE reads (R261). -/
def State.vmodeBoundary (s : State) : State :=
  let div := bitsAt s.scr.cfg.toNat 20 8
  if div ≠ 0 ∧ s.wheel.count.toNat % div = 0 then s.tab.points.foldl (fun s x => s.vmodeWanted x.1) s else s

/-- Old entries that found no time in the new list's first cycle are skipped (R285, R293). -/
def State.endTails (s : State) : State :=
  let left := s.ports.q.flatMap fun x =>
    let n := (tget {} s.scr.lists x.1).entries.length
    ((x.2.tail.zipIdx).filter fun y => !x.2.ran.contains (n + y.2, y.1.2)).map fun y => (x.1, y.1)
  left.foldl (fun s x => s.swapSkip x.1 x.2) s

/-- Zone Writes of the last cycles that never started and can no longer latch in time are skipped (R218, R220). -/
def State.endZones (s : State) : State :=
  let c := s.wheel.cycle
  let ms := (List.range 64).filter s.twServing
  let late := ms.flatMap fun m => [c - 2, c - 1].eraseDups.flatMap fun k => ((s.entriesLeft (64 + m) k).filter fun x =>
    decide (k < c) && decide (x.1.kind = .zoneWrite) && !s.entryFits x.1 k).map fun x => (64 + m, x, k)
  late.foldl (fun s y => (s.markRan y.1 y.2.1.2 y.2.2).skipEntry y.1 y.2.1.1 y.2.2) s

/-- Readings and marks of started entries that no strike will ask for again. -/
def State.purge (s : State) : State :=
  let s := s.endTails.endZones
  let c := s.wheel.cycle
  let s := s.onPorts fun p => { p with early := p.early.filter fun e => decide (c ≤ e.count + b2n e.bracket) }
  s.onPorts fun p => { p with q := p.q.map fun x => (x.1, { x.2 with ran := x.2.ran.filter (fun y => decide (c ≤ y.2 + 2)), tail := [] }) }

/-- Canonical form after a map over the queues. -/
def State.trimQueues (s : State) : State := s.onPorts fun p => { p with q := p.q.filter fun x => decide (x.2 ≠ {}) }

/-- The manager marks the cycle start on ALP: the first rising edge of its 10 MHz, 25.6 ticks apart, at or after this
instant is omitted; RESID of the next cycle beacon tells how far it lies (R433). [DESIGN CHOICE, log 100] -/
def State.markCycle (s : State) : State :=
  if s.isManager && s.aeloon.alpOk then
    { s with aeloon := { s.aeloon with markResid := (s.aeloon.alpPhase % 256 + 256 - 10 * s.now % 256) % 256 / 10 } }
  else s

/-- CYCLE_BOUNDARY: the angle wraps to 0 (R8, R18). [DESIGN CHOICE, log 13] -/
def State.boundary (s : State) : State :=
  let s := (s.onWheel fun w => w.anchor s.now 0 w.motion).markCycle
  let s := s.nextCount.commitStaged.wheelBoundary
  let s := s.onPole fun p => { p with fired := [], waits := false, ran := p.ran || !s.halterOn }
  let s := s.purge.registersBoundary
  let ready := s.scr.ready.head?
  let s := match ready with
    | some r => s.swap r
    | none => s
  let s := s.mapsBoundary (match ready with | some r => r.maps | none => [])
  let s := s.twBoundary
  let s := match ready with
    | some r => s.finishChanges r
    | none => s
  s.applyTallyAll.sweepBoundary.vmodeBoundary.startCompile.trimQueues

end Sys2Proof.Machine
end

