-- ==== Sys2Proof/Machine/Pole.lean ====
section
/-! DEFINITION. The story pole's entries (R44 to R59): when one fires, and what each action does. -/
namespace Sys2Proof.Machine

/-- The pole runs: not in Halter mode, nor before the boundary after it (R65, R544), nor during a hold (R34).
[DESIGN CHOICE, log 23] -/
def State.poleRuns (s : State) : Bool := !s.halterOn && !s.pole.waits && !(s.wheel.motion matches .hold)

/-- Entry `idx` of the pole in force, when it carries the action and fires in this cycle, once (R32, R45).
[DESIGN CHOICE, log 24] -/
def State.poleEntry (s : State) (action idx : Nat) : Option PoleEntry :=
  match s.pole.entries[idx]? with
  | none => none
  | some e =>
    if e.action.toNat = action && e.firesIn s.wheel.count.toNat && !s.pole.fired.contains idx then some e else none

/-- Entries beyond the image are NOP (R44). -/
def State.isNop (s : State) (idx : Nat) : Bool :=
  match s.pole.entries[idx]? with
  | none => decide (idx < 256)
  | some e => decide (e.action = 0)

def State.markFired (s : State) (idx : Nat) : State := s.onPole fun p => { p with fired := idx :: p.fired }

/-- PUBLISH (R53, R314). -/
def State.firePublish (s : State) (e : PoleEntry) : State := s.publishBank (bitsAt e.arg.toNat 0 4) 2

/-- OPEN and CLOSE (R54). -/
def State.fireWindow (s : State) (e : PoleEntry) (closed : Bool) : State :=
  s.onPole fun p => { p with closed := BitVec.ofNat 16 (setBit p.closed.toNat (bitsAt e.arg.toNat 0 4) closed) }

/-- AELOON_BEACON: only the manager's (R58, R432). -/
def State.fireBeacon (s : State) : State :=
  if s.isManager then { s with aeloon := { s.aeloon with cycleBeacon := true } } else s

/-- What an entry other than STRIKE does when it fires (R48 to R59). -/
def State.fireOther (s : State) (e : PoleEntry) : State :=
  match e.action.toNat with
  | 2 => s.firePublish e
  | 3 => s.fireWindow e false
  | 4 => s.fireWindow e true
  | 5 => s.doorbellFetch
  | 6 => s.tallyTick
  | 7 => s.fireBeacon
  | 8 => s.traceMark e.arg.toNat
  | _ => s

/-- A pole entry reaches its angle. [DESIGN CHOICE, log 23] -/
def State.poleFire (s : State) (action idx : Nat) (f : State → PoleEntry → State) : State :=
  if !s.poleRuns then s
  else match s.poleEntry action idx with
    | none => s
    | some e => f (s.markFired idx) e

/-- Entries of a step's span, in firing order (R33, R46): `(index, entry)` with `lo ≤ ANGLE ≤ hi`. -/
def State.spanEntries (s : State) (lo hi : Nat) : List (PoleEntry × Nat) :=
  sortBy (fun x => x.1.angle.toNat) ((s.pole.entries.zipIdx).filter fun x =>
    decide (lo ≤ x.1.angle.toNat) && decide (x.1.angle.toNat ≤ hi))

/-- The entries of a step's span fire, but STRIKE entries are skipped (R33). -/
def State.fireSpan (s : State) (lo hi : Nat) : State :=
  if s.halterOn || s.pole.waits then s
  else (s.spanEntries lo hi).foldl (fun s x =>
    if !x.1.firesIn s.wheel.count.toNat || s.pole.fired.contains x.2 then s
    else
      let s := s.markFired x.2
      if x.1.action = 1 then
        if (s.course (bitsAt x.1.arg.toNat 0 4)).cfg.enabled then s.onWheel fun w => { w with skipped := satInc w.skipped } else s
      else s.fireOther x.1) s

/-- The angle steps forward by `e` au (R31, R33): through the boundary when it passes 65,535. -/
def State.stepBy (s : State) (e : Rat) : State :=
  let from' := s.wheel.angleAt s.now
  let a := s.wheel.angleRat s.now
  let land : Rat := (if 65535 < a then 65535 else a) + e
  if land < 65536 then
    (s.onWheel fun w => w.anchor s.now land .run).fireSpan (from' + 1) land.floor.toNat
  else
    let s := (s.onWheel fun w => w.anchor s.now 65535 .run).fireSpan (from' + 1) 65535
    let s := s.boundary
    (s.onWheel fun w => w.anchor s.now (land - 65536) .run).fireSpan 0 (land - 65536).floor.toNat

end Sys2Proof.Machine
end

