-- ==== Sys2Proof/Machine/Wheel.lean ====
section
/-! DEFINITION. The phase wheel's edges (R25 to R39): qualification against the window, acquisition,
phase correction by slew, step or hold, the switch of source, HOLDOVER, and the ends of slews and
holds. In the manager role corrections wait for the next beacon (R435). -/
namespace Sys2Proof.Machine

/-! ### Phase correction (R31, R35) -/

/-- Step or hold by `d`, counted and reported as `e` (R33 to R35). `quiet`: an edge that locks the
wheel posts no STEP or HOLD. [DESIGN CHOICE, log 15] -/
def State.jump (s : State) (d : Rat) (e : Int) (quiet : Bool) : State :=
  let told (s : State) (cause : Nat) : State :=
    if !quiet && decide (s.wheel.evtThr.toNat ≤ e.natAbs) then s.postPhase s.wheelReported cause e else s
  if 0 ≤ d then (told (s.onWheel fun w => { w with steps := satInc w.steps }) 5).stepBy d
  else (told (s.onWheel fun w => { w with holds := satInc w.holds }) 6).anchorNow .hold

/-- The motion between corrections: the rate of PW_PERIOD, or, in a worker LOCKED on marks, the last
RATE of the manager in the worker's own ticks (R31, R434, R436). -/
def State.restMotion (s : State) : Motion :=
  if s.isWorker && decide (s.wheel.state = .locked) && decide (s.aeloon.rate ≠ 0) then .slew 0 ((s.aeloon.rate.toNat : Nat) * s.aeloon.ratio)
  else .run

/-- The period of that motion. -/
def State.restPeriod (s : State) : Rat :=
  match s.restMotion with
  | .slew _ p => p
  | _ => (s.wheel.period.toNat : Nat)

/-- Slew, step or hold, at once (R31). [DESIGN CHOICE, log 14] -/
def State.applyCorrection (s : State) (e : Int) (quiet : Bool) : State :=
  if e.natAbs ≤ 64 then s.anchorNow (if e = 0 then s.restMotion else .slew (e : Rat) s.restPeriod)
  else s.jump (e : Rat) e quiet

/-- The manager corrects at its next beacon while it sends beacons (R435). [DESIGN CHOICE, log 22] -/
def State.defers (s : State) : Bool := s.isManager && decide (s.aeloon.state = 4)

/-- A correction, at once or at the next beacon. -/
def State.correct (s : State) (e : Int) (quiet : Bool) : State :=
  if s.defers then s.onWheel fun w => { w with owed := some (e, quiet) } else s.applyCorrection e quiet

/-- The motion on which PW_PERIOD is refreshed: in a manager that sends beacons the angle keeps the rate it has until
the next one (R435). -/
def State.keptMotion (s : State) : Motion :=
  match s.wheel.motion with
  | .run => if s.defers then .slew 0 ((s.wheel.period.toNat : Nat) : Rat) else .run
  | m => m

/-- PHASE_SLEW_END: the wheel returns to the rate it runs at between corrections (R31). -/
def State.slewEnd (s : State) : State :=
  match s.wheel.motion with
  | .slew _ _ => s.anchorNow s.restMotion
  | _ => s

/-- PHASE_HOLD_END: the angle runs on (R31). -/
def State.holdEnd (s : State) : State :=
  match s.wheel.motion with
  | .hold => s.anchorNow s.restMotion
  | _ => s

/-! ### Edges -/

/-- The phase error at an edge: the input's offset minus the wheel's angle there (R31). [DEDUCED, log 12] -/
def State.phaseError (s : State) (i stamp : Nat) : Int :=
  wrap16 ((s.wheel.input i).offset.toNat - (s.wheel.angleNear stamp).floor)

/-- An interval per cycle within 40 Hz to 70 Hz (R28, R38). -/
def rateOk (p : Rat) : Bool := decide ((256000000 : Rat) / 70 ≤ p) && decide (p ≤ 256000000 / 40)

def meanRat (l : List Rat) : Rat := (l.foldl (· + ·) 0) / ((max l.length 1 : Nat) : Rat)

/-- PW_PERIOD as the mean of the intervals at hand, halves rounded up (R22). [DEDUCED, log 17] -/
def State.refreshPeriod (s : State) (i : Nat) : State :=
  let l := (s.wheel.input i).intervals
  if l.isEmpty then s
  else (s.anchorNow s.keptMotion).onWheel fun w => { w with period := BitVec.ofNat 32 ((meanRat l + 1 / 2).floor.toNat) }

/-- A rejected edge: no run of clean windows reaches across it (R26, R28). -/
def ZxInput.countReject (x : ZxInput) : ZxInput := { x with reject := satInc x.reject, cleanRun := 0 }

/-- The window an input opened last has ended with one accepted edge and nothing else (R26). -/
def ZxInput.endedClean (x : ZxInput) (now : Nat) : Bool := x.winOk && !x.winDirty && decide (x.winEnd ≤ now)

/-- Windows in a row that have ended so (R26). -/
def ZxInput.cleanWindows (x : ZxInput) (now : Nat) : Nat := x.cleanRun + b2n (x.endedClean now)

/-- The input's glitch time, by which a window's end is declared late (R27, R30). -/
def Wheel.glitchOf (w : Wheel) (i : Nat) : Nat := if i = 5 then 0 else bitsAt w.glitch.toNat (8 * i) 8 * us

/-- The end of the window an edge at `stamp` with error `e` lies in, as R30 declares it. -/
def Wheel.windowEnd (w : Wheel) (i stamp : Nat) (e : Int) : Nat :=
  stamp + (((6554 + e) * w.period.toNat + 65535) / 65536).toNat + w.glitchOf i

/-- A new window opens with its first qualified edge. -/
def ZxInput.openWindow (x : ZxInput) (stamp until' : Nat) : ZxInput :=
  { x with winFirst := some stamp, winDirty := false, winOk := false, winEnd := until', cleanRun := x.cleanWindows until' }

/-- Its first edge is accepted. -/
def ZxInput.acceptEdge (x : ZxInput) (stamp : Nat) (per : Option Rat) : ZxInput :=
  { x with winOk := true, lastEdge := some stamp, intervals := (per.toList ++ x.intervals).take 4 }

/-- The active input's edge is accepted: in LOCKED the period is refreshed, in HOLDOVER the second one
in a row locks (R22, R37). -/
def State.acceptActive (s : State) (i : Nat) (e : Int) : State :=
  let s := s.onWheel fun w => { w with phaseErr := BitVec.ofInt 16 e, missBefore := w.missRun, missRun := 0 }
  if s.wheel.state = .locked then (s.refreshPeriod i).correct e false
  else
    let s := s.onWheel fun w => { w with holdoverGood := w.holdoverGood + 1 }
    if 2 ≤ s.wheel.holdoverGood then
      let s := (s.onWheel fun w => { w with holdoverGood := 0, holdLeft := 0 }).refreshPeriod i
      (s.setWheel .locked 1 e).correct e true
    else s.correct e false

/-- A qualified edge of a windowed input (R28 to R30). [DESIGN CHOICE, log 14; DEDUCED, log 17] -/
def State.windowEdge (s : State) (i stamp : Nat) : State :=
  let x := s.wheel.input i
  let e := s.phaseError i stamp
  let same := match x.winFirst with
    | some f => decide (2 * (max stamp f - min stamp f) < s.wheel.period.toNat)
    | none => false
  if 6554 < e.natAbs then s.onWheel fun w => w.onInput i fun x => { x.countReject with winOk := x.winOk && !x.endedClean s.now }
  else if same then s.onWheel fun w => w.onInput i fun x => { x.countReject with winDirty := true }
  else
    let per : Option Rat := x.lastEdge.map fun l =>
      let iv := stamp - l
      (iv : Rat) / ((max 1 (divRound iv s.wheel.period.toNat) : Nat) : Rat)
    let s := s.onWheel fun w => w.onInput i fun x => x.openWindow stamp (w.windowEnd i stamp e)
    if per.any fun p => !rateOk p then s.onWheel fun w => w.onInput i ZxInput.countReject
    else
      let s := s.onWheel fun w => w.onInput i fun x => x.acceptEdge stamp per
      if s.wheel.active.toNat = i then s.acceptActive i e else s

/-! ### Acquisition (R38) -/

/-- Intervals between edges, oldest first. -/
def gapsOf : List Nat → List Rat
  | a :: b :: r => ((b - a : Nat) : Rat) :: gapsOf (b :: r)
  | _ => []

/-- R38: four consecutive edges, intervals within 40 to 70 Hz and within 2 % of their mean. -/
def acqMet (edges : List Nat) : Bool :=
  let l := gapsOf edges
  let m := meanRat l
  decide (edges.length = 4) && l.all fun v => rateOk v && decide (50 * (if v < m then m - v else v - m) ≤ m)

/-- The wheel locks to an input at the fourth edge (R37, R38). [DESIGN CHOICE, log 14] -/
def State.lockTo (s : State) (i : Nat) : State :=
  let edges := (s.wheel.input i).acqEdges
  let stamp := edges.getLastD 0
  let l := gapsOf edges
  let e := s.phaseError i stamp
  let fresh (x : ZxInput) : ZxInput := { x with winFirst := none, winDirty := false, winOk := false, cleanRun := 0, acqEdges := [], lastEdge := none, intervals := [] }
  let s := (s.anchorNow (if s.defers then s.keptMotion else .run)).onWheel fun w => { w with
    period := BitVec.ofNat 32 ((meanRat l + 1 / 2).floor.toNat), acq := false, active := BitVec.ofNat 3 i, missRun := 0, missBefore := 0
    phaseErr := BitVec.ofInt 16 e, a := fresh w.a, b := fresh w.b, alp := fresh w.alp }
  let s := s.onWheel fun w => w.onInput i fun x => { x with winFirst := some stamp, lastEdge := some stamp, intervals := l.reverse }
  (s.setWheel .locked 1 e).correct e true

/-- A qualified edge while acquiring: the fourth one locks, or waits for the choice between two inputs. -/
def State.acquireEdge (s : State) (i stamp : Nat) : State :=
  if acqMet (s.wheel.input i).acqEdges then s
  else
    let s := s.onWheel fun w => w.onInput i fun x => { x with acqEdges := (x.acqEdges ++ [stamp]).drop (x.acqEdges.length - 3) }
    if acqMet (s.wheel.input i).acqEdges && decide (s.wheel.sources.length = 1) then s.lockTo i else s

/-- ACQUISITION_CHOICE: the input with the earlier fourth edge, the preferred one on a tie (R38). -/
def State.acqChoice (s : State) : State :=
  if s.wheel.state = .free && s.wheel.acq then
    let met := s.wheel.sources.filter fun i => acqMet (s.wheel.input i).acqEdges
    let last (i : Nat) : Nat := (s.wheel.input i).acqEdges.getLastD 0
    match met with
    | [i] => s.lockTo i
    | [i, j] => s.lockTo (if last j < last i then j else i)
    | _ => s
  else s

/-- A qualified edge of input `i` (R28, R38). -/
def State.edge (s : State) (i stamp : Nat) : State :=
  if !s.wheel.sources.contains i then s
  else if s.wheel.state = .free then (if s.wheel.acq && !s.wheel.acqWait then s.acquireEdge i stamp else s)
  else s.windowEdge i stamp

/-! ### Missed edges (R26, R29, R30, R37) -/

/-- The wheel moves to the fallback input (R26). [DEDUCED, log 18] -/
def State.switchSource (s : State) (other : Nat) : State :=
  let s := s.onWheel fun w => { w with active := BitVec.ofNat 3 other, missRun := 0, missBefore := 0 }
  s.postPhase s.wheelReported 4 0

/-- A missed edge of the active input. `undo`: the window's first edge had been accepted and a second one makes it a
missed one (R29), so that the count goes on from before it. [DEDUCED, log 18] -/
def State.missActive (s : State) (i : Nat) (undo : Bool) : State :=
  let run := (if undo then s.wheel.missBefore.toNat else s.wheel.missRun.toNat) + 1
  let s := s.onWheel fun w => { w with holdoverGood := 0, missRun := BitVec.ofNat 4 (min 8 run) }
  if s.wheel.state ≠ .locked then s
  else
    let other := 1 - i
    if run = 3 && decide (s.wheel.sources.length = 2) && decide (4 ≤ (s.wheel.input other).cleanWindows s.now) then s.switchSource other
    else if 8 ≤ run then
      let s := if s.isWorker && !(s.wheel.motion matches .hold) then s.anchorNow .run else s
      (s.onWheel fun w => { w with holdLeft := 10 }).setWheel .holdover 2 0
    else s

/-- MISSED_EDGE: a window has ended with no accepted edge, or with more than one qualified edge (R29, R30).
[DEDUCED, log 19] -/
def State.missedEdge (s : State) (i : Nat) : State :=
  if !s.wheel.sources.contains i || s.wheel.state = .free then s
  else
    let x := s.wheel.input i
    let s := s.onWheel fun w => w.onInput i fun x =>
      { x with winFirst := none, winDirty := false, winOk := false, cleanRun := 0, miss := satInc x.miss }
    if s.wheel.active.toNat = i then s.missActive i (x.winDirty && x.winOk) else s

/-! ### Register writes of the wheel (R23, R24, R64) -/

/-- A SEL that this role may write (R24). -/
def State.selWritable (s : State) (sel : Nat) : Bool := !s.isWorker && decide (sel ≤ 4)

def Change.isNominal : Change → Bool
  | .nominal _ => true
  | _ => false

/-- SEL is no longer 0b100: a PW_NOMINAL that waited for its compile waits for the next boundary (R64).
[DESIGN CHOICE, log 144] -/
def State.leaveFreeRun (s : State) : State :=
  if s.wheel.sel ≠ 4 ∧ s.pendingChanges.any Change.isNominal then
    let out (l : List Change) : List Change := l.map fun c => if c.isNominal then .plain else c
    (s.onScr fun c => { c with running := out c.running, gathered := out c.gathered
                               ready := c.ready.map fun r => { r with changes := out r.changes } }).onWheel fun w => { w with nominalWait := some w.nominalReg }
  else s

/-- A new SEL: FREE at once, a compile, acquisition from the next boundary (R37, R281). A hold or slew under way ends
with it, and the wheel runs at the free rate. [DESIGN CHOICE, log 151] -/
def State.newSource (s : State) : State :=
  let first := s.wheel.sources.headD (s.wheel.sel)
  let s := s.onWheel fun w => { w with active := BitVec.ofNat 3 first, missRun := 0, missBefore := 0, acq := false, acqWait := true }
  s.leaveFreeRun.toFree.freeRate.phaseReady.compilePlain

/-- A write of PW_CTRL; a SEL not allowed keeps the previous value (R24). -/
def State.writePwCtrl (s : State) (v : Word) : State :=
  let old := s.wheel.sel
  let sel := if s.selWritable (bitsAt v.toNat 0 3) then bitsAt v.toNat 0 3 else old
  let s := s.onWheel fun w => { w with ctrl := BitVec.ofNat 32 (sel + 8 * bitsAt v.toNat 3 2) }
  if sel = old then s else s.newSource

end Sys2Proof.Machine
end

