-- ==== Sys2Proof/Machine/Halter.lean ====
section
/-! DEFINITION. Halter mode (R536 to R545), its sequencer on BKD00 (R540, R541), and the recovery ladder
(R546 to R548, R555, R561): what the Cinch die does, and the Beam die with it. -/
namespace Sys2Proof.Machine

def State.onHalter (s : State) (f : Halter → Halter) : State := { s with halter := f s.halter }

/-! ### Sill group H, as read at the last Cinch reset (R539, R566) -/

/-- Row 16 + k. -/
def State.hRow (s : State) (k : Nat) : Nat := (s.sill.h.getD k 0).toNat
def State.haltEn (s : State) : Bool := bitAt (s.hRow 0) 0
def State.posMask (s : State) : Nat := bitsAt (s.hRow 0) 1 16
def State.violCount (s : State) : Nat := bitsAt (s.hRow 0) 17 4
def State.missLimit (s : State) : Nat := bitsAt (s.hRow 0) 21 3
def State.autoClear (s : State) : Bool := bitAt (s.hRow 0) 24
def State.exitSecure (s : State) : Bool := bitAt (s.hRow 0) 25
def State.rung4After (s : State) : Nat := bitsAt (s.hRow 0) 26 3

/-- LO and HI of a position's limit set; HI is stored as 4,095 − HI. -/
def State.limitsOf (s : State) (pos : Nat) : Nat × Nat :=
  let w := s.hRow (2 + bitsAt (s.hRow 1) (2 * (pos - 1)) 2)
  (bitsAt w 0 12, 4095 - bitsAt w 12 12)

/-! ### Entry (R536 to R538) -/

/-- The manager's link stops: pairs released, and a correction that waited for a beacon is made now (R424, R465).
[DESIGN CHOICE, log 22] -/
def State.stopManager (s : State) : State :=
  if !s.isManager || decide (s.aeloon.state = 0) then s
  else
    let owed := s.wheel.owed
    let s := (s.onAeloon fun a => { a with state := 0, alpOk := false, units := 0, frame := [] }).setReady 6 false
    match owed with
    | some (e, q) => (s.onWheel fun w => { w with owed := none }).applyCorrection e q
    | none => s

/-- The field lines are released: transactions that were cut and field jobs that waited end with HALTER
(R361, R537). -/
def State.releaseFields (s : State) : State :=
  let s := (List.range 64).foldl (fun s n => (s.cutOffAwl n 7).endPortJobs n 7) s
  let s := (List.range 64).foldl (fun s m => (s.cutOffTw m 7).endPortJobs (64 + m) 7) s
  s.onPorts fun p => { p with early := [] }

/-- Every snapshot under construction is discarded (R537). -/
def State.dropSnaps (s : State) : State :=
  s.onTack fun k => { k with courses := tmap {} (fun c => { c with snap := none }) k.courses }

/-- HALTER_ENTER and HALTER_EXIT stand in the fault history as well (R557). -/
def State.postHalter (s : State) (code kind : Nat) (payload : List Byte) : State := (s.post code 0 payload).writeHistory kind payload

/-- Halter mode is entered, or a further cause adds its exit condition (R536). [DESIGN CHOICE, log 69] -/
def State.enterHalter (s : State) (cause : Nat) : State :=
  let secure := decide (cause = 5)
  if s.halterOn then s.onHalter fun h => { h with secure := h.secure || secure }
  else
    let s := s.onHalter fun h => { h with
      cause := cause, secure := secure, release := false, entries := satInc h.entries, rounds := 0, badRounds := 0, violRun := [], missRun := [], inRound := false, exitWait := false
      reset := true, roundBad := false, repeated := none, periodTrip := false, enteredAt := s.now }
    let s := s.setReady 8 true
    if !s.core.up then s
    else (s.stopManager.releaseFields.dropSnaps).postHalter 0x042 2 ([BitVec.ofNat 8 cause] ++ leBytes 2 s.posMask)

/-- HALTER_ENTER with one of the causes of R536. -/
def State.halterEvent (s : State) (cause : Nat) : State := if 1 ≤ cause ∧ cause ≤ 5 then s.enterHalter cause else s

/-! ### The sequencer (R540, R541) -/

/-- A round with a violation or a miss counts once. -/
def Halter.markBad (h : Halter) : Halter :=
  if h.roundBad then h else { h with roundBad := true, badRounds := satInc h.badRounds }

/-- HALTER_ROUND: the presence count and delay of the RESET that a first round, or one after a miss,
begins with; ASSIGN and STRIKE count the sequence (R84). No round starts under the brown-out warning. -/
def State.halterRound (s : State) (n rt : Nat) : State :=
  if !s.haltEn || !s.halterOn || s.warning || !s.cinch.up then s
  else
    s.onHalter fun h =>
      let h := if h.reset then { h with n := n, rt := rt, reset := false, cals := [], seq := h.seq + 1 } else h
      { h with rounds := satInc h.rounds, seq := h.seq + 1, roundBad := false, inRound := true, repeated := none }

/-- The load is turned off with fault HALTER_TRIP (R541). -/
def State.halterTrip (s : State) : State := (s.onHalter fun h => { h with tripped := true, periodTrip := true }).cinchFault 8

/-- A poll without an OK frame: a miss (R541). -/
def State.halterMiss (s : State) (pos : Nat) : State :=
  let run := tget 0 s.halter.missRun pos + 1
  let s := s.onHalter fun h => { h.markBad with
    reset := true, miss := BitVec.ofNat 16 (setBit h.miss.toNat (pos - 1) true)
    missRun := tset 0 h.missRun pos run, violRun := tset 0 h.violRun pos 0 }
  if s.missLimit ≠ 0 ∧ run = s.missLimit then s.halterTrip else s

/-- An OK frame's u against the position's limits (R541). -/
def State.halterValue (s : State) (pos u : Nat) : State :=
  let (lo, hi) := s.limitsOf pos
  let s := s.onHalter fun h => { h with missRun := tset 0 h.missRun pos 0 }
  if u < lo ∨ hi < u then
    let run := tget 0 s.halter.violRun pos + 1
    let s := s.onHalter fun h => { h.markBad with
      viol := BitVec.ofNat 16 (setBit h.viol.toNat (pos - 1) true), violRun := tset 0 h.violRun pos run }
    if run = s.violCount + 1 then s.halterTrip else s
  else s.onHalter fun h => { h with violRun := tset 0 h.violRun pos 0 }

/-- HALTER_POLL: the answer to a PICK of a polled position, or to the one REPEAT that follows a frame not
classed OK, which runs at 1 µs (R87, R540). No answer is `cal` 0. [DESIGN CHOICE, log 74] -/
def State.halterPoll (s : State) (pos cal : Nat) (periods : List Nat) (lenBad : Bool) : State :=
  let h := s.halter
  if !s.haltEn || !s.halterOn || !s.cinch.up || pos = 0 || 16 < pos || !bitAt s.posMask (pos - 1) || !h.inRound then s
  else
    let again := decide (h.repeated = some pos)
    let seq := h.seq + 1
    let (cls, f) := classify (if again then 256 else 512) (if again then 2 else 1) (if h.cals.any fun x => decide (x.1 = pos) then some (tget 0 h.cals pos) else none) pos
      (if again then 5 else 3) seq.toNat 0 cal periods lenBad
    let accepted := cls != .noResponse && cls != .calRange && cls != .calDrift
    let s := s.onHalter fun h => { h with seq := seq, cals := if accepted then tset 0 h.cals pos ((if again then 2 else 1) * cal) else h.cals }
    match cls, f with
    | .ok, some f => (s.onHalter fun h => { h with repeated := none }).halterValue pos (bitsAt f.bits 12 12)
    | _, _ =>
      if again then (s.onHalter fun h => { h with repeated := none }).halterMiss pos
      else s.onHalter fun h => { h with repeated := some pos }

/-! ### Exit (R542 to R545) -/

/-- The conditions of R543 apart from the secure one and the brown-out warning. -/
def State.exitBar (s : State) : Bool :=
  bitAt s.core.ready.toNat 1 && bitAt s.core.ready.toNat 2 && bitAt s.core.ready.toNat 3 && decide (10 ≤ s.halter.beats)

/-- The conditions of R543 apart from the secure one. -/
def State.exitReady (s : State) : Bool := s.exitBar && !s.warning

/-- The exit needs the secure command (R543). -/
def State.secureHeld (s : State) : Bool := s.halterOn && (s.halter.secure || s.exitSecure)

/-- Breik ports that were searched lose their positions (R163). -/
def State.searchAgain (s : State) : State :=
  (List.range 64).foldl (fun s n =>
    let a := s.awl n
    if a.mode = 1 && (a.life matches .search | .swapWait | .service | .unstable) then s.enterSearch n 0xA else s) s

/-- HALTER_EXIT_REQUEST (R544, R545); under the brown-out warning it waits for the warning to clear (R555). -/
def State.halterExit (s : State) : State :=
  if !s.halterOn || !s.core.up || !s.exitBar || (s.secureHeld && !s.halter.release) then s
  else if s.warning then s.onHalter fun h => { h with exitWait := true }
  else
    let h := s.halter
    let clears := s.autoClear && decide (s.cinch.st = .latched) && decide (s.cinch.fault = 8)
    let s := if clears then s.toEntry .faultWait else s
    let payload : List Byte := [BitVec.ofNat 8 h.cause, BitVec.ofNat 8 (b2n h.release)] ++ leBytes 2 h.rounds.toNat ++ leBytes 2 h.badRounds.toNat
      ++ [BitVec.ofNat 8 (b2n h.periodTrip + 2 * b2n clears), 0] ++ leBytes 4 ((s.now - h.enteredAt) / 256000)
    let s := s.onHalter fun h => { h with secure := false, release := false, inRound := false, exitWait := false, repeated := none }
    let s := (s.setReady 8 false).postHalter 0x043 3 payload
    let s := s.searchAgain
    let s := s.onPorts fun p => { p with tw := tmap {} (fun t => { t with entered := t.entered || (decide (t.mode = 1) && !t.fenced) }) p.tw }
    (s.onPole fun p => { p with waits := true }).onScr fun c => { c with paused := true }

/-! ### The heartbeat (R535) -/

/-- HEARTBEAT_PULSE: Foreman S pulses while it runs and Foreman G answers, or was released less than
10 ms ago; the boot ROM pulses by itself (R549). -/
def State.heartbeat (s : State) (gAnswered : Bool) : State :=
  let s := s.onCore fun c => { c with gAnswers := gAnswered }
  let young := match s.core.gStart with
    | some t => decide (s.now < t + 2560000)
    | none => false
  if s.core.up && (s.fw.rom || (bitAt s.core.ready.toNat 1 && (gAnswered || young))) then s.onHalter fun h => { h with pulse := true } else s

/-- HEARTBEAT_WINDOW: three windows in a row without a pulse enter Halter mode. -/
def State.heartbeatWindow (s : State) : State :=
  let s := s.onHalter fun h =>
    if h.pulse then { h with pulse := false, beats := h.beats + 1, empty := 0, auto := false } else { h with beats := 0, empty := h.empty + 1 }
  if 3 ≤ s.halter.empty then s.enterHalter 2 else s

/-! ### The ladder (R546 to R548, R555, R561) -/

/-- A rung is climbed: Halter mode with cause BEAM_RESET comes first (R547); while the brown-out copy is
made it waits (R555). [DEDUCED, log 75] -/
def State.climb (s : State) (cycle : Bool) (cause : Nat) : State :=
  if s.warning && s.power.copying then s.onHalter fun h => { h with waitingRung := some (cycle, cause) }
  else (s.enterHalter 3).onHalter fun h => { h with rung := some (cycle, cause), waitingRung := none }

/-- A rung that waited for the copy. [DEDUCED, log 75] -/
def State.climbWaiting (s : State) : State :=
  match s.halter.waitingRung with
  | some (cycle, cause) => (s.enterHalter 3).onHalter fun h => { h with rung := some (cycle, cause), waitingRung := none }
  | none => s

/-- The watchdog's wait has passed: 100 ms of Halter mode entered for the heartbeat, or 500 ms since the Beam die left
the reset that the watchdog made (R548). -/
def State.watchdogDue (s : State) : Bool :=
  if s.halter.auto then s.core.up && decide (s.core.outAt + 500 * ms ≤ s.now)
  else s.halter.cause = 2 && decide (s.halter.enteredAt + 100 * ms ≤ s.now)

/-- WATCHDOG_RUNG3: rung 3, or rung 4 after RUNG4_AFTER attempts and at most once in 60 s (R548). [DEDUCED, log 76] -/
def State.watchdog (s : State) : State :=
  let h := s.halter
  if s.warning || decide (0 < h.beats) || !s.halterOn || !s.watchdogDue then s
  else
    let spaced : Bool := match h.lastCycle with
      | some t => decide (t + 60 * 256000000 ≤ s.now)
      | none => true
    if s.rung4After ≠ 0 ∧ s.rung4After ≤ h.run ∧ spaced then
      (s.onHalter fun h => { h with run := 0, auto := true, lastCycle := some s.now }).climb true 6
    else (s.onHalter fun h => { h with run := min 15 (h.run + 1), auto := true }).climb false 4

/-- RUNG_COUNT_RESET: the heartbeat has been present for 60 s (R548). -/
def State.rungCountReset (s : State) : State :=
  if 0 < s.halter.beats then s.onHalter fun h => { h with run := 0 } else s

/-- A write of ID_RESET (R561). -/
def State.writeReset (s : State) (v : Word) : State :=
  if bitsAt v.toNat 16 16 = 0x1DA5 ∧ bitAt v.toNat 0 then s.climb false 2
  else s.onHalter fun h => { h with keyBad := satInc h.keyBad }

end Sys2Proof.Machine
end

