-- ==== Sys2Proof/Machine/Firmware.lean ====
section
/-! DEFINITION. Firmware images (R581 to R588): their checks, the boot ROM's choice, FW_STAGE and
FW_COMMIT, and recovery from the boot ROM. -/
namespace Sys2Proof.Machine

def State.onFw (s : State) (f : Firmware → Firmware) : State := { s with fw := f s.fw }

/-! ### Slots (R581, R582) -/

def slotBase (slot : Nat) : Nat := slot * 0x40000

/-- A byte of the firmware region. [DESIGN CHOICE, log 8] -/
def State.fwByte (s : State) (a : Nat) : Byte := (tget none s.mram.fw a).getD (Config.factoryByte a)
def State.fwBytes (s : State) (slot off n : Nat) : List Byte := (List.range n).map fun i => s.fwByte (slotBase slot + off + i)
def State.putFw (s : State) (slot off : Nat) (bs : List Byte) : State :=
  s.onMram fun m => { m with fw := bs.zipIdx.foldl (fun t x => tset none t (slotBase slot + off + x.2) (some x.1)) m.fw }

def State.commitSeq (s : State) (slot : Nat) : Nat := leNat (s.fwBytes slot 0 4)

/-- Nothing of the slot has been written since delivery (R623). [DESIGN CHOICE, log 8] -/
def State.asDelivered (s : State) (slot : Nat) : Bool := s.mram.fw.all fun x => decide (x.1 / 0x40000 ≠ slot)

/-- The commit record's CRC passes, with the slot offset as fold. As delivered, slot 0 is committed and slot 1 is not (R623).
[DESIGN CHOICE, log 8] -/
def State.committed (s : State) (slot : Nat) : Bool :=
  if s.asDelivered slot then decide (slot = 0) else
  decide (check32c (slotBase slot) (s.fwBytes slot 0 4) = leNat (s.fwBytes slot 4 4))

/-- Write COMMIT_SEQ and its CRC in one write (R586). -/
def State.writeCommit (s : State) (slot seq : Nat) : State :=
  s.putFw slot 0 (leBytes 4 seq ++ leBytes 4 (check32c (slotBase slot) (leBytes 4 seq)))

def allZero (bs : List Byte) : Bool := bs.all fun b => decide (b = 0)

def State.imageVersion (s : State) (slot : Nat) : Nat := leNat (s.fwBytes slot 0x10 2)
def State.bodyLen (s : State) (slot : Nat) : Nat := leNat (s.fwBytes slot 0x14 4)

/-- MAGIC, FORMAT, the zero fields and BODY_LEN (R581). -/
def State.headerOk (s : State) (slot : Nat) : Bool :=
  let n := s.bodyLen slot
  decide (s.fwBytes slot 8 4 = [0x53, 0x4C, 0x56, 0x46]) && decide (s.fwBytes slot 0x0C 1 = [1]) && allZero (s.fwBytes slot 0x0D 3)
    && allZero (s.fwBytes slot 0x12 2) && decide (4 ≤ n ∧ n ≤ 261888) && decide (n % 4 = 0) && allZero (s.fwBytes slot 0xA0 96)

/-- Sill row `r` as it stands now (R564). -/
def State.sillRow (s : State) (r : Nat) : Word := tget 0 s.sill.rows r

/-- Bytes of rows from `r`, lowest first (R567). -/
def State.sillBytes (s : State) (r n : Nat) : List Byte := ((List.range n).flatMap fun k => leBytes 4 (s.sillRow (r + k)).toNat)

/-- The digest PUBKEY must have: group K's, or the one in the boot ROM while that is all zero (R582). -/
def State.keyDigest (s : State) : List Byte :=
  let d := s.sillBytes 32 8
  if allZero d then leBytes 32 Config.firmwareKeyDigest.toNat else d

/-- ECDSA over bytes 0x08 to 0x5F and from 0xA0 to the body's end. -/
def State.signatureOk (s : State) (slot : Nat) : Bool :=
  let b (off n : Nat) := s.fwBytes slot off n
  ecdsaVerify (beNat (sha256 (b 8 0x58 ++ b 0xA0 (0x60 + s.bodyLen slot)))) (beNat (b 0x60 32)) (beNat (b 0x80 32)) (beNat (b 0x20 32)) (beNat (b 0x40 32))

/-- R582: none for a valid image, else the status of R587. The image of delivery is valid under Uarath's key (R623).
[DESIGN CHOICE, log 8] -/
def State.imageFault (s : State) (slot : Nat) : Option Nat :=
  if decide (slot = 0) && s.asDelivered slot then
    let d := s.sillBytes 32 8
    if allZero d || decide (d = leBytes 32 Config.firmwareKeyDigest.toNat) then none else some 0x703
  else if !s.headerOk slot then some 0x702
  else if sha256 (s.fwBytes slot 0x20 64) ≠ s.keyDigest then some 0x703
  else if !s.signatureOk slot then some 0x704
  else none

/-! ### Booting (R529, R549, R583) -/

/-- The slot the boot ROM tries first: of the committed ones the higher COMMIT_SEQ. -/
def State.activeSlot (s : State) : Option Nat :=
  match s.committed 0, s.committed 1 with
  | true, true => some (if seqHigher (s.commitSeq 1) (s.commitSeq 0) then 1 else 0)
  | true, false => some 0
  | false, true => some 1
  | false, false => none

/-- The image booted, whether it is the fallback, and whether the active one failed. -/
def State.bootChoice (s : State) : Option (Nat × Bool) × Bool :=
  match s.activeSlot with
  | none => (none, false)
  | some a =>
    if (s.imageFault a).isNone then (some (a, false), false)
    else if s.committed (1 - a) && (s.imageFault (1 - a)).isNone then (some (1 - a, true), true)
    else (none, true)

/-- A self-test has failed: its bits of ID_SELFTEST, and the SELFTEST_FAIL record that carries the register (R557). -/
def State.selftestRecord (s : State) (bits : Nat) : State :=
  let s := s.onCore fun c => { c with selftest := c.selftest ||| BitVec.ofNat 6 bits }
  s.writeHistory 6 (leBytes 4 s.core.selftest.toNat)

def State.selftestFail (s : State) (bits : Nat) : State := if bits = 0 then s else s.selftestRecord bits

/-- FIRMWARE_VERIFIED: Foreman S boots an image and releases Foreman G, or stays in the ROM (R549, R583). -/
def State.firmwareVerified (s : State) : State :=
  if !s.core.up || bitAt s.core.ready.toNat 1 then s
  else
    let (choice, bad) := s.bootChoice
    match choice with
    | some (slot, fb) =>
      let s := s.onFw fun f => { f with version := BitVec.ofNat 16 (s.imageVersion slot), image := decide (slot = 1), fallback := fb, rom := false }
      let s := s.onCore fun c => if bitAt c.ready.toNat 2 then c else { c with gStart := some s.now }
      (s.setReady 1 true).selftestFail (8 * b2n bad)
    | none => (s.onFw fun f => { f with rom := true }).selftestFail (4 + 8 * b2n bad)

/-! ### FW_STAGE and FW_COMMIT (R584 to R586) -/

/-- The slot that is not running. -/
def State.stageSlot (s : State) : Nat := if s.fw.image then 0 else 1

/-- FW_STAGE begins: its range, BEGIN, then the read of its bytes. -/
def State.stageCheck (s : State) (j : Job) : Option Nat :=
  let off := bitsAt (j.word 4) 0 18
  let len := bitsAt (j.word 5) 0 19
  if off < 8 ∨ off % 4 ≠ 0 ∨ len < 4 ∨ 262136 < len ∨ len % 4 ≠ 0 ∨ 0x40000 < off + len then some 0x700
  else if !bitAt (j.word 1) 0 && !s.fw.begun then some 0x701
  else none

/-- FW_COMMIT verifies, writes the commit record and may climb rung 3. [DESIGN CHOICE, log 78] -/
def State.commitImage (s : State) (j : Job) : State :=
  let slot := s.stageSlot
  if !s.fw.begun then s.complete j.slot 0x701
  else
    match s.imageFault slot with
    | some st => s.complete j.slot st
    | none =>
      if bitAt s.sill.c.toNat 10 ∧ s.imageVersion slot < s.fw.version.toNat then s.complete j.slot 0x705
      else
        let seq := (s.commitSeq (1 - slot) + 1) % 2 ^ 32
        let s := (s.writeCommit slot seq).onFw fun f => { f with begun := false }
        let s := s.complete j.slot 0 (leBytes 2 (s.imageVersion slot) ++ [BitVec.ofNat 8 slot, 0] ++ leBytes 4 seq)
        if bitAt (j.word 1) 0 then s.climb false 3 else s

/-- Take the job's opcode and words; a write waits while the warning is active (R584). -/
def State.fwBegin (s : State) (j : Job) : State :=
  if j.opcode = 0x38 then
    match s.stageCheck j with
    | some st => s.complete j.slot st
    | none => s.onFw fun f => { f with running := some j.slot }
  else if s.warning then s.onFw fun f => { f with running := some j.slot, paused := true }
  else s.commitImage j

/-- FW jobs run one at a time, in fetch order: start those that wait while none runs. -/
def State.fwNext (s : State) : Nat → State
  | 0 => s
  | k + 1 =>
    if s.fw.running.isSome then s
    else match s.fw.waiting with
      | [] => s
      | slot :: rest =>
        let s := s.onFw fun f => { f with waiting := rest }
        match s.job? slot with
        | some j => (s.fwBegin j).fwNext k
        | none => s.fwNext k

/-- FW_STAGE or FW_COMMIT starts, or waits for the one before it. -/
def State.fwStart (s : State) (slot op : Nat) : State :=
  match s.startable slot op with
  | none => s
  | some _ => ((s.onJob slot fun j => { j with started := true }).onFw fun f => { f with waiting := f.waiting ++ [slot] }).fwNext 512

/-- The bytes of the running FW_STAGE are written (R585). [DESIGN CHOICE, log 78] -/
def State.stageWrite (s : State) (j : Job) : State :=
  let slot := s.stageSlot
  let len := bitsAt (j.word 5) 0 19
  let s := if bitAt (j.word 1) 0 then s.putFw slot 0 (List.replicate 8 0) else s
  let s := s.putFw slot (bitsAt (j.word 4) 0 18) (padTo len j.image)
  let s := s.onFw fun f => { f with begun := true, running := none }
  (s.complete j.slot 0 (leBytes 4 len ++ [BitVec.ofNat 8 slot])).fwNext 512

/-- The bytes of FW_STAGE are in; the write waits for the end of the warning. -/
def State.stageImage (s : State) (j : Job) : State :=
  if s.fw.running ≠ some j.slot then s
  else if s.warning then s.onFw fun f => { f with paused := true }
  else s.stageWrite j

/-- The read of a FW_STAGE failed. -/
def State.stageFailed (s : State) (slot : Nat) : State :=
  ((s.onFw fun f => if f.running = some slot then { f with running := none } else f).complete slot 0xC).fwNext 512

/-- The warning has cleared: a write that waited is made (R584). -/
def State.fwResume (s : State) : State :=
  if !s.fw.paused then s
  else
    let s := s.onFw fun f => { f with paused := false }
    match s.fw.running.bind s.job? with
    | some j => if j.opcode = 0x38 then s.stageWrite j else ((s.onFw fun f => { f with running := none }).commitImage j).fwNext 512
    | none => s

end Sys2Proof.Machine
end

