-- ==== Sys2Proof/Machine/Gate.lean ====
section
/-! DEFINITION. The Sill (R562 to R573), the security gate (R574 to R579), the commands of channel 8
(R580) with recovery (R588) and ship mode (R480, R481). -/
namespace Sys2Proof.Machine

def State.onSill (s : State) (f : Sill → Sill) : State := { s with sill := f s.sill }

/-! ### Reading the Sill (R562, R564) -/

def popCount : Nat → Nat → Nat
  | 0, _ => 0
  | k + 1, w => w % 2 + popCount k (w / 2)

/-- PAIR_MISMATCH as a read of the Sill finds it. -/
def Sill.countHalf (x : Sill) : BitVec 16 := BitVec.ofNat 16 (min 65535 (x.half.foldl (fun a y => a + popCount 32 y.2.toNat) 0))

/-- Groups P and H are read at a Cinch reset. -/
def State.readCinchSill (s : State) : State :=
  s.onSill fun x => { x with p := (List.range 6).map fun k => tget 0 x.rows (6 + k), h := (List.range 6).map fun k => tget 0 x.rows (16 + k)
                             mismatch := x.countHalf }

/-- Groups C and M are read when the Beam die leaves reset. -/
def State.readBeamSill (s : State) : State :=
  s.onSill fun x => { x with c := tget 0 x.rows 40, m := tget 0 x.rows 44, mismatch := x.countHalf }

/-- Lock bit `b` of row 127, as it stands. -/
def State.locked (s : State) (b : Nat) : Bool := bitAt (s.sillRow 127).toNat b

/-! ### Programming (R570 to R572) -/

/-- Bits of a row that are not reserved (R523, R563, R565, R566, R568). -/
def sillMask (row : Nat) : Nat :=
  match row with
  | 6 => 0x1FFFFFFF
  | 7 => 0x07FFFFFF
  | 8 => 0xFFFFFFFF
  | 9 => 0x07FFFFFF
  | 10 => 0x07FFFFFF
  | 11 => 0x3F
  | 16 => 0x1FFFFFFF
  | 17 => 0xFFFFFFFF
  | 18 => 0xFFFFFF
  | 19 => 0xFFFFFF
  | 20 => 0xFFFFFF
  | 21 => 0xFFFFFF
  | 40 => 0x7FFFF
  | 127 => 0x1F
  | r => if 24 ≤ r ∧ r ≤ 39 then 0xFFFFFFFF else if 44 ≤ r ∧ r ≤ 75 then 0xFFFFFFFF else 0

/-- The lock bit of a row's group; none for spare rows and the locks themselves (R563). -/
def lockOf (row : Nat) : Option Nat :=
  if row < 16 then some 0 else if row < 24 then some 1 else if row < 40 then some 2 else if row < 44 then some 3 else if row < 76 then some 4 else none

/-- The first failing check of R570, 0 for none. -/
def State.sillRefusal (s : State) : Nat :=
  let row := s.sill.pgmRow.toNat
  let data := s.sill.pgmData.toNat
  if !s.gate.session then 1
  else if !s.sill.pin then 2
  else if !s.sill.vqps then 3
  else if s.warning then 4
  else if 76 ≤ row ∧ row ≤ 126 then 5
  else if data &&& sillMask row ≠ data then 6
  else if (match lockOf row with
    | some b => s.locked b
    | none => false) then 7
  else if row = 127 ∧ bitAt data 2 ∧ (allZero (s.sillBytes 24 8) ∨ allZero (s.sillBytes 32 8)) then 8
  else 0

/-- A write of SL_PGM_CTRL (R570, R590). -/
def State.sillProgram (s : State) (v : Word) : State :=
  if bitsAt v.toNat 16 16 ≠ 0x5111 ∨ !bitAt v.toNat 0 ∨ s.sill.busy.isSome then s
  else
    let r := s.sillRefusal
    if r ≠ 0 then s.onSill fun x => { x with pgmState := 3, pgmResult := BitVec.ofNat 4 r, pgmBlown := 0 }
    else if s.sill.pgmData = 0 then s.onSill fun x => { x with pgmState := 2, pgmResult := 0, pgmBlown := 0 }
    else s.onSill fun x => { x with pgmState := 1, pgmResult := 0, pgmBlown := 0, busy := some (x.pgmRow.toNat, x.pgmData), abortAt := none }

/-- A host write that counts as activity of an open session (R577). -/
def State.gateActive (s : State) : State := s.onGate fun g => if g.session then { g with activeAt := s.now } else g

/-- SILL_PROGRAM, a write of BAR0 page 0xB000 (R577), with the pin and VQPS as they stand (R570, R573). -/
def State.sillProgramPins (s : State) (v : Word) (pin vqps : Bool) : State :=
  (s.onSill fun x => { x with pin := pin, vqps := vqps }).gateActive.sillProgram v

/-- The lowest `k` ones of a word. -/
def lowOnes : Nat → Nat → Nat
  | _, 0 => 0
  | w, k + 1 =>
    let i := ((List.range 32).find? fun i => bitAt w i).getD 0
    if w % 2 ^ 32 = 0 then 0 else 2 ^ i + lowOnes (w - 2 ^ i) k

/-- SILL_PROGRAM_DONE: the bits blown, in ascending order, the margin read-back, and the bits of which
only one fuse blew (R562, R571); or the abort of R572. -/
def State.sillDone (s : State) (marginOk : Bool) (half : Word) : State :=
  match s.sill.busy with
  | none => s
  | some (row, data) =>
    let bits := match s.sill.abortAt with
      | some k => lowOnes data.toNat k
      | none => data.toNat
    let w := BitVec.ofNat 32 bits
    let result : BitVec 4 := if s.sill.abortAt.isSome then 10 else if marginOk && decide (half &&& data = 0) then 0 else 9
    s.onSill fun x => { x with
      rows := tset 0 x.rows row (tget 0 x.rows row ||| w)
      half := tset 0 x.half row ((tget 0 x.half row &&& ~~~w) ||| (half &&& w))
      busy := none, abortAt := none, pgmState := 2, pgmResult := result, pgmBlown := BitVec.ofNat 6 (popCount 32 bits) }

/-- The warning stops a running operation after the bit being blown; how many are blown is open (R572).
[DESIGN CHOICE, log 80] -/
def State.sillAbort (s : State) : State :=
  match s.sill.busy with
  | none => s
  | some (_, data) =>
    let (v, s) := s.takeFree
    s.onSill fun x => { x with abortAt := some (v % (popCount 32 data.toNat + 1)) }

/-! ### Sessions (R574 to R578) -/

/-- The gate is served: by Foreman S, or by the boot ROM (R529, R588). -/
def State.gateServed (s : State) : Bool := s.core.up && (bitAt s.core.ready.toNat 1 || s.fw.rom)

/-- Seconds of hold-off after so many failures in a row (R576). -/
def holdSeconds (run : Nat) : Nat := if run = 0 then 0 else min 64 (2 ^ (run - 1))

/-- When the hold-off of the failures so far ends; it outlives a Beam die reset as the count does (R576). -/
def Gate.heldUntil (g : Gate) : Nat := if g.run = 0 then 0 else g.failedAt + seconds (holdSeconds g.run.toNat)

/-- When a challenge expires (R574). -/
def Gate.expiresAt (g : Gate) : Nat := g.challengedAt + seconds 10

/-- SG_CHALLENGE: a fresh nonce, drawn at random, and the key as it stands (R564, R574, R576).
[DESIGN CHOICE, log 81] -/
def State.sgChallenge (s : State) : State :=
  if !s.gateServed || s.gate.session || decide (s.gate.state = 3) || decide (s.now < s.gate.heldUntil) then s
  else
    let (v, s) := s.takeFree
    s.onGate fun g => { g with state := 1, nonce := leBytes 32 v, key := s.sillBytes 24 8, challengedAt := s.now }

/-- The response the gate expects: HMAC over the nonce, BOOT_ID and HOST_S (R574). -/
def State.sgExpected (s : State) : List Byte :=
  hmacSha256 s.gate.key (s.gate.nonce ++ leBytes 4 s.core.bootId.toNat ++ [s.rail.hostSEpoch])

def State.sgResponse (s : State) : List Byte := (List.range 8).flatMap fun i => leBytes 4 (tget 0 s.gate.response i).toNat

/-- CHALLENGE_EXPIRY: not verified within 10 s (R574). -/
def State.challengeExpiry (s : State) : State :=
  s.onGate fun g => if g.state = 1 ∧ g.expiresAt ≤ s.now then { g with state := 0, nonce := [] } else g

/-- SG_VERIFY: the session opens, or the gate holds off (R574, R576). -/
def State.sgVerify (s : State) : State :=
  if s.gate.state ≠ 1 then s
  else if s.gate.expiresAt < s.now then s.challengeExpiry
  else if s.sgResponse = s.sgExpected then s.onGate fun g => { g with state := 2, nonce := [], run := 0, activeAt := s.now }
  else s.onGate fun g => { g with state := 3, nonce := [], fails := satInc g.fails, run := satInc g.run, failedAt := s.now }

/-- HOLDOFF_EXPIRY (R576). -/
def State.holdoffExpiry (s : State) : State := s.onGate fun g => if g.state = 3 ∧ g.heldUntil ≤ s.now then { g with state := 0 } else g

/-- SESSION_IDLE_TIMEOUT: ten minutes without activity end the session (R577). -/
def State.sessionIdle (s : State) : State := if s.gate.activeAt + seconds 600 ≤ s.now then s.closeSession else s

/-- A write of SG_CTRL. -/
def State.writeSgCtrl (s : State) (v : Word) : State :=
  let s := s.gateActive
  let s := if bitAt v.toNat 0 then s.sgChallenge else s
  let s := if bitAt v.toNat 1 then s.sgVerify else s
  if bitAt v.toNat 2 then s.closeSession else s

/-! ### Channel 8 (R580) -/

/-- The word that the service on channel 8 takes next, when its server runs: the boot ROM, whatever SECURE_CH says, while
no image runs (R549, R588). -/
def State.word8 (s : State) : Option Nat :=
  if s.core.up && (if s.servedByG 8 && !s.fw.rom then bitAt s.core.ready.toNat 2 else s.gateServed) then (s.serviceWord 8).map BitVec.toNat else none

/-- A command in PLAIN mode: the read releases the word, and REFUSED is the acknowledge. [DESIGN CHOICE, log 82] -/
def State.plainRefuse (s : State) : State :=
  (s.releaseIn 8).onChan 8 fun x => { x with ackCode := 4, ackEpoch := s.fwEpochOf 8, ackValid := true }

/-- Ship mode is disarmed by any other word and by any acknowledge but ARMED (R480). -/
def State.disarmShip (s : State) : State := s.onTally fun t => { t with armed := none }

/-- A word of channel 8 that is the command in question; recovery takes its image words first (R588). -/
def State.command8 (s : State) (is : Nat → Bool) (f : State → Nat → State) : State :=
  match s.word8 with
  | none => s
  | some w =>
    let image : Bool := match s.gate.recovery with
      | some (n, k) => decide (k < n)
      | none => false
    if image || !is w || s.tally.going.isSome then s
    else
      if (s.chan 8).formal then f s w else s.disarmShip.plainRefuse

/-- SECURE_HALTER_ENTER. -/
def State.secureEnter (s : State) : State :=
  s.command8 (· == 0x10000000) fun s _ => (s.disarmShip.serviceAnswer 8 0).enterHalter 5

/-- SECURE_HALTER_RELEASE: refused while a condition of R543 other than the secure one fails. -/
def State.secureRelease (s : State) : State :=
  s.command8 (· == 0x11000000) fun s _ =>
    let s := s.disarmShip
    if s.exitReady then (s.serviceAnswer 8 0).onHalter fun h => { h with release := s.halterOn } else s.serviceAnswer 8 4

/-- SECURE_RUNG3 and SECURE_RUNG4. -/
def State.secureRung3 (s : State) : State :=
  s.command8 (· == 0x20001DA5) fun s _ => (s.disarmShip.serviceAnswer 8 0).climb false 3
def State.secureRung4 (s : State) : State :=
  s.command8 (· == 0x21001DA5) fun s _ => (s.disarmShip.serviceAnswer 8 0).climb true 5

/-! ### Recovery (R588) -/

/-- RECOVERY_BEGIN. -/
def State.recoveryBegin (s : State) : State :=
  s.command8 (fun w => decide (w / 2 ^ 24 = 0x30)) fun s w =>
    let n := w % 2 ^ 24
    let s := s.disarmShip
    if !s.fw.rom then s.serviceAnswer 8 4
    else if n < 63 ∨ 65534 < n then s.serviceAnswer 8 3
    else (s.serviceAnswer 8 0).onGate fun g => { g with recovery := some (n, 0) }

/-- RECOVERY_WORD: the next image word goes into slot 0. -/
def State.recoveryWord (s : State) : State :=
  match s.gate.recovery, s.word8 with
  | some (n, k), some w =>
    if k < n ∧ s.fw.rom ∧ (s.chan 8).formal then
      (((s.putFw 0 (8 + 4 * k) (leBytes 4 w)).serviceAnswer 8 0).onGate fun g => { g with recovery := some (n, k + 1) })
    else s
  | _, _ => s

/-- RECOVERY_END: verify slot 0, commit it without the rollback rule, and climb rung 3. [DESIGN CHOICE, log 79] -/
def State.recoveryEnd (s : State) : State :=
  match s.word8 with
  | some 0x32000000 =>
    let s := s.disarmShip
    if !(s.chan 8).formal then s.plainRefuse
    else if !s.fw.rom then s.serviceAnswer 8 4
    else
      match s.gate.recovery with
      | none => s.serviceAnswer 8 0x8010
      | some (n, k) =>
        let s := s.onGate fun g => { g with recovery := none }
        if k < n then s.serviceAnswer 8 0x8010
        else match s.imageFault 0 with
          | some st => s.serviceAnswer 8 (if st = 0x702 then 0x8011 else if st = 0x703 then 0x8012 else 0x8013)
          | none => ((s.writeCommit 0 ((if s.committed 1 then s.commitSeq 1 + 1 else 1) % 2 ^ 32)).serviceAnswer 8 0).climb false 3
  | _ => s

/-! ### Ship mode (R480, R481) -/

/-- Format, confirm code and string of a ship word; none is BAD_WORD. -/
def State.shipString (s : State) (w : Nat) : Option (Nat × BatString) :=
  let str := bitsAt w 16 5
  if bitsAt w 21 3 ≠ 0 ∨ bitsAt w 0 16 = 0 then none
  else match s.string str with
    | some b => if b.cfg.ship.isEmpty then none else some (str, b)
    | none => none

/-- The last fresh current reading is above I_REST. -/
def BatString.currentHigh (b : BatString) : Bool := match b.lastFresh with
  | some i => decide (b.cfg.iRest < i.abs)
  | none => false

/-- SHIP_ARM. -/
def State.shipArm (s : State) : State :=
  s.command8 (fun w => decide (w / 2 ^ 24 = 0x53)) fun s w =>
    let s := s.disarmShip
    match s.shipString w with
    | none => s.serviceAnswer 8 3
    | some (str, b) =>
      if b.currentHigh then s.serviceAnswer 8 0x8003
      else (s.serviceAnswer 8 0x8001).onTally fun t => { t with armed := some (str, bitsAt w 0 16, s.now) }

/-- Ship write `i` of a string, ahead of its port's work; one that cannot run has failed (R290). -/
def State.shipWrite (s : State) (str i : Nat) : State :=
  match s.string str with
  | none => s.onPorts fun p => { p with shipResult := some false }
  | some b =>
    match b.cfg.ship[i]? with
    | none => s
    | some (pt, data) =>
      let q := s.point pt
      let p := q.src
      if !q.valid || p < 64 || 128 ≤ p || s.halterOn || s.portMode p = 0 || s.portFenced p then s.onPorts fun x => { x with shipResult := some false }
      else
        let c := BitVec.ofNat 8 q.cmd
        let x : TwXfer := { use := .ship str i, addr := q.addr, pec := q.pec, left := q.retry, arbLeft := s.arbRetries
                            tx := some (if q.xfer = 5 then data else if q.xfer = 4 then c :: BitVec.ofNat 8 data.length :: data else c :: data) }
        s.onPortQ p fun q => { q with ship := q.ship ++ [x] }

/-- The SHIP_GO word is acknowledged, if it still stands. -/
def State.shipAnswer (s : State) (str code : Nat) : State :=
  let s := (s.disarmShip).onTally fun t => { t with going := none }
  match s.serviceWord 8 with
  | some w => if w.toNat / 2 ^ 24 = 0x54 ∧ bitsAt w.toNat 16 5 = str then s.serviceAnswer 8 code else s
  | none => s

/-- A ship write has ended: the next one, or the end (R480, R481). [DEDUCED, log 55] -/
def State.settleShip (s : State) : Nat → State
  | 0 => s
  | fuel + 1 =>
    match s.ports.shipResult, s.tally.going with
    | some ok, some (str, i) =>
      let s := s.onPorts fun p => { p with shipResult := none }
      let n := match s.string str with
        | some b => b.cfg.ship.length
        | none => 0
      if !ok then (s.onString str fun b => { b with shipped := true }).shipAnswer str 0x8004
      else if n ≤ i + 1 then (s.onString str fun b => { b with shipped := true }).shipAnswer str 0
      else ((s.onTally fun t => { t with going := some (str, i + 1) }).shipWrite str (i + 1)).settleShip fuel
    | some _, none => s.onPorts fun p => { p with shipResult := none }
    | none, _ => s

/-- SHIP_GO: accepted only as the next word after its SHIP_ARM, within 10 s. [DEDUCED, log 55] -/
def State.shipGo (s : State) : State :=
  s.command8 (fun w => decide (w / 2 ^ 24 = 0x54)) fun s w =>
    match s.shipString w with
    | none => s.disarmShip.serviceAnswer 8 3
    | some (str, b) =>
      match s.tally.armed with
      | none => s.disarmShip.serviceAnswer 8 4
      | some (k, code, at') =>
        if k ≠ str ∨ at' + 2560000000 < s.now then s.disarmShip.serviceAnswer 8 4
        else if code ≠ bitsAt w 0 16 then s.disarmShip.serviceAnswer 8 0x8002
        else if b.currentHigh then s.disarmShip.serviceAnswer 8 0x8003
        else
          let s := s.firmwareRead 8
          (((s.onTally fun t => { t with armed := none, going := some (str, 0) }).onPorts fun p => { p with shipResult := none }).shipWrite str 0).settleShip 4

/-! ### What the firmware writes on the other channels (R395, R534, R580) -/

/-- The service on channel 8 knows the word, so its own command takes it. -/
def knownWord8 (w : Nat) : Bool :=
  w == 0x10000000 || w == 0x11000000 || w == 0x20001DA5 || w == 0x21001DA5 || w == 0x32000000
    || (w / 2 ^ 24 == 0x30) || (w / 2 ^ 24 == 0x53) || (w / 2 ^ 24 == 0x54)

/-- FIRMWARE_ACK_IN on a rail channel: channel 0 answers the report's request, channel 8 what it does not
know, and the others have no service. [DESIGN CHOICE, log 111] -/
def State.firmwareAnswer (s : State) (c : Nat) : State :=
  if c = 0 then
    match s.serviceWord 0 with
    | some w =>
      if w = 0x01000000 then (s.firmwareAck 0 0).restartReport
      else s.firmwareAck 0 3
    | none => s.firmwareAck 0 3
  else if c = 8 then
    match s.serviceWord 8 with
    | some w =>
      if knownWord8 w.toNat ∨ (s.gate.recovery.any fun x => decide (x.2 < x.1)) then s
      else s.disarmShip.firmwareAck 8 3
    | none => s.firmwareAck 8 3
  else s.firmwareAck c 2

end Sys2Proof.Machine
end

