-- ==== Sys2Proof/Machine/Bringup.lean ====
section
/-! DEFINITION. Resets of the two dies and start-up (R524 to R534, R546, R560), self-tests (R128, R236,
R529, R531), Foreman restarts (R532), and the brown-out (R550 to R554). -/
namespace Sys2Proof.Machine

/-! ### The Beam die in reset (R387, R409, R546) -/

/-- Everything on the Beam die returns to reset; the Cinch die, the Sill, MRAM and host memory stand
(R387), with ID_LADDER and ID_HALTER but without ID_HALTER_POS (R595). With the rails off RDY_CINCH is lost as well
(R526, R529). [DESIGN CHOICE, log 68, 83, 114] -/
def State.beamReset (s : State) (cause : Nat) (rails : Bool) : State :=
  { now := s.now, pending := s.pending, free := s.free, lastRead := s.lastRead
    cinch := s.cinch, halter := { s.halter with pulse := false, rung := none, waitingRung := none, exitWait := false, viol := 0, miss := 0 }
    power := { warn := s.power.warn, holdOk := s.power.holdOk, warnAt := s.power.warnAt, vinCode := s.power.vinCode, railsOff := rails }
    sill := { s.sill with pgmRow := 0, pgmData := 0, pgmState := if s.sill.busy.isSome then 1 else 0, pgmResult := 0, pgmBlown := 0, c := 0, m := 0 }
    mram := s.mram, tally := { ledger := s.tally.ledger, timerAt := s.now + seconds 2 }, gate := { run := s.gate.run, failedAt := s.gate.failedAt }
    ports := { conv := s.ports.conv }
    link := { mem := s.link.mem, sent := s.link.sent, perst := s.link.perst, wakeN := s.link.wakeN }
    core := { ready := s.core.ready &&& (if rails then 0x300 else 0x301), resetCause := BitVec.ofNat 4 cause, cinchResetAt := s.core.cinchResetAt } }

/-- BEAM_WARM_RESET: the rung-3 reset that was climbed begins (R546, R560). -/
def State.warmReset (s : State) : State :=
  match s.halter.rung with
  | some (false, cause) =>
    let s := s.onHalter fun h =>
      if cause = 2 then { h with warmHost := satInc h.warmHost } else if cause = 3 then { h with warmSecure := satInc h.warmSecure }
      else { h with warmWatchdog := satInc h.warmWatchdog }
    s.beamReset cause s.power.railsOff
  | _ => s

/-- BEAM_POWER_CYCLE: HK2 and the rails go off (R546). -/
def State.powerCycle (s : State) : State :=
  match s.halter.rung with
  | some (true, cause) => (s.onHalter fun h => { h with cycles := satInc h.cycles }).beamReset cause true
  | _ => s

/-- The rails are off for a brown-out, until the warning clears (R554). -/
def State.brownedOut (s : State) : Bool := s.power.railsOff && s.power.warn && decide (s.core.resetCause = 7)

/-- POWER_CYCLE_END: the rails come back, unless a brown-out holds them off (R526, R554). -/
def State.powerCycleEnd (s : State) : State :=
  if s.power.railsOff && !s.brownedOut then { s with power := { s.power with railsOff := false } } else s

/-! ### The Cinch die (R524, R514, R525, R529) -/

/-- CINCH_RESET: both dies return to reset; Sill, MRAM and the pins stand, and the
charge on TMEM (R514). -/
def State.cinchReset (s : State) : State :=
  let s := (s.beamReset 1 true)
  { s with cinch := { up := false, seatLow := s.cinch.seatLow, vin := s.cinch.vin, vout := s.cinch.vout, tmem := s.cinch.tmem }
           halter := {}, power := { railsOff := true }, gate := {}, ports := {}, core := { s.core with ready := 0x100 } }

/-- CINCH_RESET_EXIT: the Sill and TMEM are read, and Halter mode is in force (R496, R514, R524);
`tmemUv` is what the discharge has left on TMEM. [DESIGN CHOICE, log 161] -/
def State.cinchResetExit (s : State) (tmemUv : Nat) : State :=
  if s.cinch.up then s
  else
    let dt2 : Rat := (tmemUv : Rat) / 20000
    let hot := decide (5 ≤ dt2)
    let s := s.readCinchSill
    let s := s.onCinch fun c => { c with up := true, dt1 := 0, dt2 := dt2, tmem := (tmemUv : Rat) / 1000000, tmemStart := hot
                                         holdFrom := if hot then some s.now else none, stAt := s.now, offAt := s.now }
    let s := (if s.cinch.seatLow then s.toEntry .seating else s).onHalter fun h => { h with enteredAt := s.now }
    (s.onCore fun c => { c with cinchResetAt := s.now }).onHalter fun h => { h with cause := 1 }

/-- CINCH_READY: HK1 and HK2 are in regulation (R525, R529). -/
def State.cinchReady (s : State) : State :=
  if s.cinch.up then ({ s with power := { s.power with railsOff := false } }).setReady 0 true else s

/-- HK_REGULATION_LOSS. -/
def State.hkLoss (s : State) : State := s.setReady 0 false

/-! ### The Beam die leaves reset (R2 to R4, R386, R404, R420, R525) -/

/-- The role from Sill group C or the straps: 0b11 is the strap fault and acts as standalone (R2, R3). -/
def roleOf (code : Nat) : Role := if code = 1 then .worker else if code = 2 then .manager else .standalone

/-- The payload of ID_RESET_CAUSE (R557, R560). -/
def State.resetCauseWord (s : State) : Nat := packNat [(0, s.core.resetCause.toNat), (4, min 15 s.halter.run)]

/-- BEAM_DIE_RESET_EXIT with the straps as sampled. [DESIGN CHOICE, log 114] -/
def State.beamExit (s : State) (roleSel slot : Nat) : State :=
  if s.core.up || s.power.railsOff || !bitAt s.core.ready.toNat 0 then s
  else
    let s := s.readBeamSill
    let c := s.sill.c.toNat
    let code := if bitAt c 0 then bitsAt c 1 2 else roleSel % 4
    let role := roleOf code
    let node := if role = Role.worker then (if bitAt c 3 then bitsAt c 4 5 else slot % 32) else 0
    let boot := s.mram.bootId + 1
    let s := (s.onMram fun m => { m with bootId := boot }).onCore fun k =>
      { k with up := true, outAt := s.now, role := role, node := BitVec.ofNat 5 node, roleSel := BitVec.ofNat 2 roleSel, slotSel := BitVec.ofNat 5 slot
               strapFault := decide (code = 3), bootId := boot }
    let s := s.onRail fun r => { r with hostEpoch := 0, hostSEpoch := 0, fgEpoch := boot.setWidth 8, fsEpoch := boot.setWidth 8 }
    let s := { s with aeloon := { s.aeloon with
      slotBad := decide (role = Role.worker) && decide (node = 0), state := if role = Role.worker ∧ node ≠ 0 then 1 else 0
      ctrl := if role = Role.standalone then 2 else 3, ctrlReg := if role = Role.standalone then 2 else 3 } }
    let s := s.onWheel fun w => { w.anchor s.now 0 .run with count := 0 }
    let s := if role = Role.worker then s.onWheel fun w => { w with ctrl := 5, active := 5 } else s
    (((s.beginAcq).phaseReady.scanHistory).writeHistory 1 (leBytes 4 s.resetCauseWord)).recordOldFault

/-! ### Foreman G and the start-up report (R529, R532 to R534, R559) -/

/-- FOREMAN_G_READY: the report starts, and a brown-out copy is restored once after a reset (R529, R559). -/
def State.foremanGReady (s : State) : State :=
  if !s.core.up || !bitAt s.core.ready.toNat 1 || bitAt s.core.ready.toNat 2 then s
  else
    let s := if s.core.report.isNone then s.restoreCopy else s
    let s := s.onCore fun c => { c with gAnswers := true }
    (s.setReady 2 true).restartReport

/-- Every job in flight ends with ABORTED, those on the wire once they have drained (R532). -/
def State.abortJobs (s : State) : State :=
  let slots := (s.link.jobs.filter fun j => !j.posted && !j.draining).map (·.slot)
  slots.foldl (fun s k =>
    match s.job? k with
    | none => s
    | some j => if j.onWire then s.onJob k fun j => { j with aborted := true } else (s.unlist (· == k)).endAborted j) s

/-- FOREMAN_G_RESTART, once Foreman G has been released (R404, R532): jobs and their changes that are not in force are lost; tables, cut
lists and ports go on. [DESIGN CHOICE, log 82] -/
def State.restartG (s : State) : State :=
  if !s.core.up || (s.core.gStart.isNone && !bitAt s.core.ready.toNat 2) then s
  else
    let s := (s.setReady 2 false).abortJobs
    let s := s.onPorts fun p => { p with awl := tmap {} (fun a => { a with unfenceJobs := [] }) p.awl, tw := tmap {} (fun a => { a with unfenceJobs := [] }) p.tw }
    let s := ((s.onTrace fun k => { k with freezeJobs := [], copySlots := [] }).settleRearm).onStitch fun u => { u with units := [], waiting := [] }
    let s := (s.onFw fun f => { f with running := none, waiting := [], paused := false, begun := f.begun && f.running.isNone }).onTally fun t => { t with cmds := [] }
    let s := { s with aeloon := { s.aeloon with pushes := [], staged := s.aeloon.staged.map fun x => Staged.settled x } }
    let s := s.withdraw fun c => c.slot.isSome
    let s := s.onCore fun c => { c with gAnswers := false, gStart := some s.now, reportOut := false }
    (s.firmwareReset true).writeHistory 7 [0]

/-- FOREMAN_S_RESTART, from the boot ROM too: it verifies the image again (R404, R532). [DESIGN CHOICE, log 82] -/
def State.restartS (s : State) : State :=
  if !s.core.up then s
  else ((s.setReady 1 false).firmwareReset false).writeHistory 7 [1]

/-! ### Self-tests (R128, R221, R529, R531) -/

/-- ENGINE_SELFTEST_DONE: the readiness bit of the port, or the port held off, with a SELFTEST_FAIL record (R531, R557). -/
def State.engineTest (s : State) (p : Nat) (pass : Bool) : State :=
  if 128 ≤ p ∨ !s.core.up then s
  else if pass then
    let n := p % 64
    let old := if p < 64 then s.core.readyAwl else s.core.readyBkl
    let new := old ||| BitVec.ofNat 64 (2 ^ n)
    let s := s.onCore fun c => if p < 64 then { c with readyAwl := new } else { c with readyBkl := new }
    let half (v : Quad) : Nat := bitsAt v.toNat (32 * (n / 32)) 32
    s.postReady ((if p < 64 then 1 else 3) + n / 32) (half new) (half old)
  else (if p < 64 then s.onAwl p fun a => { a with selfTest := true, cfg := a.cfg &&& ~~~3, cfgReg := a.cfgReg &&& ~~~3, life := .off }
  else s.onTw (p - 64) fun a => { a with selfTest := true, cfg := a.cfg &&& ~~~3, cfgReg := a.cfgReg &&& ~~~3 }).selftestRecord 0

/-- STORE_SELFTEST_DONE: RDY_STORE, or the cause in ID_SELFTEST, with a SELFTEST_FAIL record (R531, R557). -/
def State.storeTest (s : State) (banks trace unit2 : Bool) : State :=
  if !s.core.up then s
  else
    let s := s.stitchSelftest 2 unit2
    if banks && trace && !bitAt s.stitch.failed.toNat 2 then s.setReady 3 true else s.selftestRecord (b2n (!banks) + 2 * b2n (!trace))

/-! ### Brown-out (R550 to R555) -/

def State.onPower (s : State) (f : Power → Power) : State := { s with power := f s.power }

/-- Strong pull-ups are shed (R552). [DESIGN CHOICE, log 77] -/
def State.shedPullUps (s : State) : State :=
  (List.range 64).foldl (fun s n => if (s.awl n).spu = 0 then s else (s.onAwl n fun a => { a with spu := 0 }).settleChange n) s

/-- BROWNOUT_WARNING: with the VIN code at the warning and HOLD_OK as it stands. -/
def State.brownoutWarning (s : State) (vinCode : Nat) (holdOk : Bool) : State :=
  if s.power.warn then s
  else
    let s := s.onPower fun p => { p with warn := true, holdOk := holdOk, warnAt := s.now, vinCode := vinCode % 4096 }
    if !s.core.up then (s.setReady 9 true).sillAbort
    else
      let s := s.onPower fun p => { p with warnings := satInc p.warnings }
      ((((s.setReady 9 true).shedPullUps).traceBrownout).startCopy).sillAbort

/-- BROWNOUT_WARNING_CLEAR: the Beam die is powered again after a brown-out, or the Slovor resumes (R554). -/
def State.warningClear (s : State) : State :=
  if !s.power.warn then s
  else
    let s := (s.onPower fun p => { p with warn := false }).setReady 9 false
    if s.power.railsOff then (if s.core.resetCause = 7 then s.onPower fun p => { p with railsOff := false } else s)
    else if !s.core.up then s
    else
      let s := ((s.onScr fun c => { c with paused := true }).commitDue).fwResume
      if s.halter.exitWait then (s.onHalter fun h => { h with exitWait := false }).halterExit else s

/-- BROWN_OUT: Halter mode, whose round stops, then the rails go off as in rung 4 (R554, R555). [DEDUCED, log 75] -/
def State.brownOut (s : State) : State :=
  (((s.enterHalter 4).onHalter fun h => { h with cycles := satInc h.cycles, inRound := false, repeated := none })).beamReset 7 true

/-- BROWNOUT_COPY_DONE: a rung that waited is climbed (R553, R555). -/
def State.copyComplete (s : State) : State := if s.power.copying then s.finishCopy.climbWaiting else s

end Sys2Proof.Machine
end

