-- ==== Sys2Proof/Machine/Registers.lean ====
section
/-! DEFINITION. Every BAR0 register as it reads, by page and offset (15_register_index R591 to R593 and the
register tables of 01 to 14), and what a read does beside returning its value: RC fields (R17), the latch
of R67 and the word HR_OUT releases (R398). -/
namespace Sys2Proof.Machine

/-! ### Helpers -/

/-- Whole seconds to an instant, rounded up, at most `top`. [DEDUCED, log 85] -/
def secondsLeft (now at' top : Nat) : Nat := min top ((at' - now + 255999999) / 256000000)

def secondsTo (now : Nat) (at' : Option Nat) (top : Nat) : Nat := match at' with
  | some t => secondsLeft now t top
  | none => 0

/-! ### ID_: page 0x0000 (R560) -/

def State.strapsWord (s : State) : Word :=
  let role : Nat := match s.core.role with
    | .standalone => 0
    | .worker => 1
    | .manager => 2
  pack [(0, role), (2, s.core.node.toNat), (7, b2n s.core.strapFault), (8, b2n (bitAt s.sill.c.toNat 0)), (9, b2n (bitAt s.sill.c.toNat 3)),
        (10, s.core.roleSel.toNat), (12, s.core.slotSel.toNat)]

/-- ID_BROWNOUT.HOLD_OK: as it stood at the warning, from which HOLD no longer charges, so that a 0 stays and a 1 may go
to 0 later (R551). [DESIGN CHOICE, log 124] -/
def State.holdOkNow (s : State) : Bool :=
  if s.power.warn then s.power.holdOk && (decide (s.now = s.power.warnAt) || Config.holdAbove s.now) else Config.holdAbove s.now

/-- [DESIGN CHOICE, log 107] -/
def State.readId (s : State) (o : Nat) : Word :=
  let h := s.halter
  match o with
  | 0x00 => pack [(0, 0x8192), (16, Config.revision.toNat)]
  | 0x04 => s.strapsWord
  | 0x08 => pack [(0, s.fw.version.toNat), (16, b2n s.fw.image), (17, b2n s.fw.fallback)]
  | 0x0C => halfOf Config.dieId 0
  | 0x10 => halfOf Config.dieId 1
  | 0x20 => s.core.ready.setWidth 32
  | 0x24 => halfOf s.core.readyAwl 0
  | 0x28 => halfOf s.core.readyAwl 1
  | 0x2C => halfOf s.core.readyBkl 0
  | 0x30 => halfOf s.core.readyBkl 1
  | 0x34 => s.core.selftest.setWidth 32
  | 0x44 => BitVec.ofNat 32 s.resetCauseWord
  | 0x48 => pack [(0, h.warmHost.toNat), (6, h.warmSecure.toNat), (12, h.warmWatchdog.toNat), (18, h.cycles.toNat), (24, h.keyBad.toNat)]
  | 0x4C => pack [(0, b2n s.halterOn), (1, h.cause), (4, b2n h.tripped), (5, b2n s.secureHeld), (6, h.entries.toNat), (16, h.rounds.toNat)]
  | 0x50 => pack [(0, h.viol.toNat), (16, h.miss.toNat)]
  | 0x54 => pack [(0, b2n s.power.warn), (1, b2n s.holdOkNow), (2, b2n s.power.copying), (3, b2n s.power.copyDone), (8, s.power.warnings.toNat)]
  | 0x58 => pack [(0, s.mram.histSlot), (10, b2n s.mram.histAny), (11, b2n s.copyValid), (12, b2n s.core.restored), (13, b2n s.copyCollected)]
  | 0x5C => s.core.frecSel.setWidth 32
  | 0x60 => BitVec.ofNat 32 (leNat (s.faultBytes (64 * bitsAt s.core.frecSel.toNat 0 10 + 4 * bitsAt s.core.frecSel.toNat 10 4) 4))
  | _ => 0

/-- The identity fields of the configuration header, by PCI offset: Vendor and Device ID, Revision ID and Class Code, and
the Subsystem IDs of Sill group M (R342, R569); the type bits of BAR0, BAR2 and BAR3, whose addresses are the bus's. No
command of the table reads it. [DESIGN CHOICE, log 113] -/
def State.configWord (s : State) (o : Nat) : Word :=
  match o with
  | 0x00 => 0x81921FA7
  | 0x08 => pack [(0, Config.revision.toNat), (8, 0x118000)]
  | 0x10 => 0
  | 0x18 => 0xC
  | 0x2C => if s.sill.m = 0 then 0x1FA7 else s.sill.m
  | _ => 0

/-- What the BARs read once all ones have been written to them: 64 KiB, 32-bit; 8 MiB, 64-bit prefetchable (R342). -/
def barSizing (o : Nat) : Word :=
  match o with
  | 0x10 => 0xFFFF0000
  | 0x18 => 0xFF80000C
  | 0x1C => 0xFFFFFFFF
  | _ => 0

/-! ### HL_: page 0x1000 (R392) -/

def Msix.word (m : Msix) (k : Nat) : Word := match k with
  | 0 => m.lo
  | 1 => m.hi
  | 2 => m.data
  | _ => m.ctrl

def State.drainingCount (s : State) : Nat := (s.link.jobs.filter (·.draining)).length

def State.readHl (s : State) (o : Nat) : Word :=
  let l := s.link
  match o with
  | 0x00 => pack [(0, b2n l.go)]
  | 0x04 => pack [(0, b2n l.running), (1, b2n l.quiesced), (2, b2n s.draining), (3, l.goErr.toNat), (6, b2n l.bmeLost), (7, b2n l.linkLost), (8, b2n l.dbFail)]
  | 0x08 => l.dbLo
  | 0x0C => l.dbHi
  | 0x10 => pack [(0, l.dbInterval.toNat), (8, l.dbFails.toNat)]
  | 0x14 => l.evtRoute
  | 0x18 => s.core.bootId
  | 0x1C => pack [(0, s.jobsInFlight), (16, s.drainingCount)]
  | _ =>
    match inst 0x40 4 32 o, inst 0xC0 4 32 o, inst 0x140 4 64 o, inst 0x800 4 128 o with
    | some k, _, _, _ =>
      let r := s.ring (k / 4)
      match k % 4 with
      | 0 => r.lo
      | 1 => r.hi
      | 2 => r.cfg
      | _ => pack [(0, r.ci.toNat), (16, r.err.toNat)]
    | _, some k, _, _ =>
      let q := s.queue (k / 4)
      match k % 4 with
      | 0 => q.lo
      | 1 => q.hi
      | 2 => q.cfg
      | _ => pack [(0, q.pi.toNat), (16, q.hold.length), (23, b2n q.err), (24, q.lost.toNat)]
    | _, _, some k, _ =>
      let r := s.snapRing (k / 4)
      match k % 4 with
      | 0 => r.lo
      | 1 => r.hi
      | 2 => r.cfg
      | _ => pack [(0, r.pi.toNat), (16, r.full.toNat), (24, r.small.toNat)]
    | _, _, _, some k => (s.msixEntry (k / 4)).word (k % 4)
    | _, _, _, _ => if o = 0xA00 then l.pba else 0

/-! ### HR_: pages 0x2000 and 0x3000 (R393, R419) -/

/-- Bell words read zero while the compatibility bit is blank, and the secure channels' bits without a
session (R403). -/
def State.bellWord (s : State) : Word :=
  if !bitAt s.sill.c.toNat 9 then 0 else if s.gate.session then s.rail.bell else s.rail.bell &&& 0x00FF00FF

def State.readChannel (s : State) (c k : Nat) : Word :=
  let x := s.chan c
  match k with
  | 1 => s.hrOutValue c
  | 2 => x.ackWord
  | 4 => pack [(0, b2n x.formal), (1, b2n !(s.servedByG c)), (2, b2n x.modeRefused)]
  | 5 => s.chanStat c
  | _ => 0

def State.readHr (s : State) (o : Nat) : Word :=
  let r := s.rail
  match o with
  | 0x00 => s.railStat 0
  | 0x04 => pack [(0, r.hostEpoch.toNat), (8, r.hostSEpoch.toNat), (16, r.fgEpoch.toNat), (24, r.fsEpoch.toNat)]
  | 0x08 => pack [(8, r.crossTimeout.toNat)]
  | 0x0C => s.bellWord
  | 0x10 => if bitAt s.sill.c.toNat 9 then r.bellMask else 0
  | 0x14 => pack [(0, r.cnt0.toNat), (8, r.cnt1.toNat), (16, r.cnt2.toNat), (24, r.cnt3.toNat)]
  | _ => match inst 0x100 4 64 o with
    | some k => s.readChannel (k / 8) (k % 8)
    | none => 0

def State.readHrS (s : State) (o : Nat) : Word :=
  if !s.gate.session then 0
  else if o = 0 then s.railStat 8
  else match inst 0x100 4 64 o with
    | some k => s.readChannel (8 + k / 8) (k % 8)
    | none => 0

/-! ### PW_: page 0x4000 (R66) -/

def PoleEntry.word (e : PoleEntry) (k : Nat) : Word :=
  if k = 0 then pack [(0, e.angle.toNat), (16, e.action.toNat), (24, e.arg.toNat)] else pack [(0, e.div.toNat), (8, e.offs.toNat)]

/-- A word of the pole window; an entry beyond the image is NOP and reads zero. -/
def State.poleWord (s : State) (k : Nat) : Word := match s.pole.entries[k / 2]? with
  | some e => e.word (k % 2)
  | none => 0

def State.polePending (s : State) : Bool := s.scr.ready.any fun r => r.changes.any Change.isPole

def ZxInput.counts (x : ZxInput) : Word := pack [(0, x.reject.toNat), (16, x.miss.toNat)]

/-- [DESIGN CHOICE, log 24] -/
def State.readPw (s : State) (o : Nat) : Word :=
  let w := s.wheel
  match o with
  | 0x00 => w.ctrl
  | 0x04 => w.nominalReg.setWidth 32
  | 0x08 => w.glitch
  | 0x0C => w.a.offset.setWidth 32
  | 0x10 => w.b.offset.setWidth 32
  | 0x14 => pack [(0, s.wheelReported.code), (2, b2n w.acq), (3, w.active.toNat), (6, w.missRun.toNat), (10, w.holdLeft.toNat),
                  (14, b2n (s.isWorker && decide (w.state ≠ .locked)))]
  | 0x18 => w.period
  | 0x1C => BitVec.ofNat 32 (divRound 256000000000 w.period.toNat % 2 ^ 20)
  | 0x20 => w.count.setWidth 32
  | 0x24 => w.cycleHi.setWidth 32
  | 0x28 => pack [(0, w.angleAt s.now), (16, b2n (w.motion matches .hold))]
  | 0x2C => w.phaseErr.setWidth 32
  | 0x30 => w.a.counts
  | 0x34 => w.b.counts
  | 0x38 => pack [(0, w.steps.toNat), (16, w.holds.toNat)]
  | 0x3C => pack [(0, w.skipped.toNat), (10, w.missed.toNat), (21, w.shed.toNat)]
  | 0x40 => pack [(0, (s.pole.entries.filter fun e => decide (e.action ≠ 0)).length),
                  (9, (s.pole.entries.filter fun e => decide (e.action = 1)).length), (14, b2n s.polePending)]
  | 0x44 => w.evtThr.setWidth 32
  | _ => match inst 0x800 4 512 o with
    | some k => s.poleWord k
    | none => 0

/-! ### PT_: page 0x5000 (R129, R170, R222, R292) -/

/-- PT_AWL_STAT.STATE. The RESET, presence count and delay probe of a prefix read show as a search. [DESIGN CHOICE, log 86] -/
def State.awlStateCode (s : State) (n : Nat) : Nat :=
  let a := s.awl n
  if a.mode = 0 then 0
  else if s.halterOn then 6
  else if a.life = .fenced then 5
  else if a.life = .search ∨ a.search.any (fun q => q.step matches .prePresence | .preProbe) then 4
  else if a.spu ≠ 0 then 3
  else if a.cmd.isSome || a.armed.isSome then 2
  else 1

/-- PT_TW_STAT.STATE. A bus clear shows as one where a command tells that it runs, in an unfence attempt.
[DESIGN CHOICE, log 146] -/
def State.twStateCode (s : State) (m : Nat) : Nat :=
  let t := s.tw m
  if t.mode = 0 then 0
  else if t.watch && t.scl && !t.sda then 4
  else if t.fenced then 5
  else if t.waking then 7
  else if t.lpi then 6
  else if t.target then 3
  else if t.xfer.isSome then 2
  else 1

def State.awlWord (s : State) (n k : Nat) : Word :=
  let a := s.awl n
  match k with
  | 0 => a.cfgReg
  | 1 => pack [(0, s.awlStateCode n), (3, a.chainLen.toNat), (10, a.seq.toNat), (14, b2n a.tickDown), (15, b2n a.alertSeen), (16, b2n a.nvBusySeen), (17, b2n a.echoOk)]
  | 2 => pack [(0, a.rt.toNat), (12, a.rtLast.toNat)]
  | _ => a.sentReg

/-- The next automatic attempt: of a fenced port none while AUTO is 0 or the cause is HOST (R160, R171). -/
def State.nextAttempt (s : State) (fenced : Bool) (cause : BitVec 3) (at' : Option Nat) : Nat :=
  if fenced && (!s.fenceAuto || decide (cause = 4)) then 0 else secondsTo s.now at' 127

/-- [DESIGN CHOICE, log 142, 143] -/
def State.chainWord (s : State) (n k : Nat) : Word :=
  let a := s.awl n
  if k = 0 then
    pack [(0, a.gen.toNat), (16, a.life.code), (19, if a.life = .unstable then a.pfx.toNat else 0), (26, if a.life = .search then (a.search.map (·.restarts)).getD 0 else 0)]
  else
    pack [(0, a.fenceCause.toNat), (3, a.tries.toNat), (11, if a.life = .fenced ∨ a.life = .unstable then s.nextAttempt (decide (a.life = .fenced)) a.fenceCause a.nextAt else 0)]

def State.twWord (s : State) (m k : Nat) : Word :=
  let t := s.tw m
  match k with
  | 0 => t.cfgReg
  | 1 => pack [(0, s.twStateCode m), (3, b2n t.scl), (4, b2n t.sda), (5, t.fenceCause.toNat), (8, t.tries.toNat),
               (16, if t.fenced then s.nextAttempt true t.fenceCause t.nextAt else 0)]
  | 2 => t.arb
  | _ => t.zoneReg

/-- Planned busy time of a port as a percentage of the cycle, reserves excluded. [DEDUCED, log 85] -/
def CutList.load (l : CutList) : Nat :=
  let busy := l.entries.foldl (fun a e => if e.kind = .reserve then a else a + (e.stop - e.start).toNat) 0
  min 100 (100 * busy / 65536)

def State.scrListWord (s : State) : Word :=
  let l := tget {} s.scr.lists s.scr.psel.toNat
  pack [(0, (l.entries.filter fun e => decide (e.kind ≠ .reserve)).length), (12, l.load), (19, min 255 l.dropped)]

def State.scrCtrKey (s : State) : Nat := 32 * bitsAt s.scr.cntSel.toNat 0 8 + bitsAt s.scr.cntSel.toNat 8 5
def State.awlCtrKey (s : State) : Nat := 32 * bitsAt s.ports.awlCntSel.toNat 0 6 + bitsAt s.ports.awlCntSel.toNat 8 5
def State.bklCtrKey (s : State) : Nat := 32 * bitsAt s.ports.bklCntSel.toNat 0 6 + bitsAt s.ports.bklCntSel.toNat 8 5

def State.alertStat (s : State) : Word :=
  let eight (f : AlertSvc → Bool) : Nat := (List.range 8).foldl (fun a i => a + (if f (s.alertOf i) then 2 ^ i else 0)) 0
  pack [(0, eight (·.level)), (8, eight (·.pending)), (16, eight (·.unclaimed))]

def State.readPt (s : State) (o : Nat) : Word :=
  let c := s.scr
  let p := s.ports
  match o with
  | 0x080 => c.cfgReg
  | 0x084 => pack [(0, b2n c.compiling), (1, b2n !c.ready.isEmpty), (2, c.last.toNat), (4, c.lastTime.toNat), (16, min 65535 (c.lists.foldl (fun a x => a + x.2.dropped) 0))]
  | 0x088 => c.cntSel
  | 0x08C => tget 0 c.ctr s.scrCtrKey
  | 0x090 => c.psel.setWidth 32
  | 0x094 => s.scrListWord
  | 0x098 => c.krisk.setWidth 32
  | 0x09C => pack [(0, c.done.toNat), (16, c.refused.toNat)]
  | 0x100 => p.awlCntSel
  | 0x104 => tget 0 p.awlCtr s.awlCtrKey
  | 0x108 => halfOf p.awlErr 0
  | 0x10C => halfOf p.awlErr 1
  | 0x110 => p.chainCfgReg
  | 0x114 => p.chainLimitReg
  | 0x118 => p.fenceCfgReg
  | 0x11C => bits32 fun j => decide ((s.awl j).life = .fenced)
  | 0x120 => bits32 fun j => decide ((s.awl (32 + j)).life = .fenced)
  | 0x124 => p.mapSel
  | 0x128 => p.mapLo
  | 0x12C => p.mapHi
  | 0x130 => p.mapInfo
  | 0x140 => p.bklCntSel
  | 0x144 => tget 0 p.bklCtr s.bklCtrKey
  | 0x148 => halfOf p.bklErr 0
  | 0x14C => halfOf p.bklErr 1
  | 0x150 => p.bklCfgReg
  | 0x154 => p.zoneAddrReg
  | 0x158 => bits32 fun j => (s.tw j).lpi
  | 0x15C => bits32 fun j => (s.tw (32 + j)).lpi
  | 0x1A0 => p.alertCfgReg
  | 0x1A4 => s.alertStat
  | 0x1A8 => bits32 fun j => (s.tw j).fenced
  | 0x1AC => bits32 fun j => (s.tw (32 + j)).fenced
  | _ =>
    match inst 0 4 32 o, inst 0x160 4 16 o, inst 0x400 4 256 o, inst 0x800 4 128 o, inst 0xC00 4 256 o with
    | some i, _, _, _, _ => tget 0 c.pgrpReg i
    | _, some k, _, _, _ => halfOf (tget 0 p.alertBindReg (k / 2)) (k % 2)
    | _, _, some k, _, _ => s.awlWord (k / 4) (k % 4)
    | _, _, _, some k, _ => s.chainWord (k / 2) (k % 2)
    | _, _, _, _, some k => s.twWord (k / 4) (k % 4)
    | _, _, _, _, _ => 0

/-! ### CS_: page 0x6000 (R339) -/

def courseBits (s : State) (f : Course → Bool) : Nat := courseNumbers.foldl (fun a c => a + (if f (s.course c) then 2 ^ c else 0)) 0

def State.courseWord (s : State) (c k : Nat) : Word :=
  let x := s.course c
  match k with
  | 0 => x.cfg.w0
  | 1 => let (limit, auto) := s.kerfLimit c
    pack [(0, limit), (21, b2n auto)]
  | 2 => pack [(0, x.cfg.base), (16, x.cfg.size)]
  | 3 => x.seq
  | 4 => x.ach
  | 5 => let ps := s.coursePoints c
    pack [(0, ps.length), (16, (ps.filter fun p => (s.point p).mand).length)]
  | 6 => pack [(0, x.inconsistentCnt.toNat), (16, x.overrun.toNat)]
  | _ => pack [(0, x.lateSlices.toNat), (8, x.missing.toNat), (16, x.cfg.wait)]

def State.readCs (s : State) (o : Nat) : Word :=
  let k := s.tack.trace
  match o with
  | 0x00 => pack [(0, courseBits s fun c => c.cfg.enabled), (16, courseBits s fun c => c.cfg.traced)]
  | 0x04 => pack [(0, courseBits s (·.half)), (16, courseBits s (·.consistent))]
  | 0x10 => pack [(0, k.ctrl.toNat), (18, b2n k.rearm)]
  | 0x14 => pack [(0, k.state.toNat), (2, k.cause.toNat), (5, k.postLeft.toNat), (21, b2n k.copying)]
  | 0x18 => k.wptr.setWidth 32
  | 0x1C => BitVec.ofNat 32 k.oldest
  | 0x20 => k.trig.setWidth 32
  | 0x24 => pack [(0, k.ignored.toNat), (16, k.wraps.toNat)]
  | _ =>
    match inst 0x40 4 8 o, inst 0x100 4 128 o with
    | some i, _ => let r := k.rules.getD (i / 2) (0x10000, 0x7F800000)
      if i % 2 = 0 then r.1 else r.2
    | _, some i => s.courseWord (i / 8) (i % 8)
    | _, _ => 0

/-! ### CN_: page 0x7000 (R523) -/

/-- [DEDUCED, log 85] -/
def State.readCn (s : State) (o : Nat) : Word :=
  let c := s.cinch
  match o with
  | 0x00 => pack [(0, c.st.code), (4, b2n c.pg), (5, b2n c.flt), (6, s.whyShown), (13, b2n c.limiting), (14, b2n (decide (s.limitNow < s.vlim))), (15, b2n c.tfetBad),
                  (16, b2n c.modelLow), (17, b2n c.pgLate), (18, b2n !(s.locked 0)), (19, b2n s.builtIn), (20, b2n c.tmemStart)]
  | 0x04 => pack [(0, b2n c.loadOn), (8, c.seatDb.toNat)]
  | 0x08 => pack [(0, c.soft.toNat), (8, s.limitNow / 250)]
  | 0x10 => pack [(0, s.convCode 0), (16, s.convCode 1)]
  | 0x14 => pack [(0, s.convCode 2), (16, s.convCode 3)]
  | 0x18 => pack [(0, s.convCode 4), (16, s.convCode 5)]
  | 0x1C => pack [(0, c.fault.toNat), (4, c.faultState.toNat), (8, min 255 c.consec), (16, c.faultPeak.toNat)]
  | 0x20 => pack [(0, c.overload.toNat), (8, c.fastTrip.toNat), (16, c.tfetHot.toNat), (24, c.pchCnt.toNat)]
  | 0x24 => pack [(0, c.halterTrip.toNat), (8, c.limitEntries.toNat), (16, c.modelLowCnt.toNat), (24, c.gateFs.toNat)]
  | 0x28 => pack [(0, min 65535 (c.pchEnergy * 1000).floor.toNat), (16, min 65535 (c.pchTicks / 25600))]
  | 0x2C => BitVec.ofNat 32 (min 65535 ((max s.retryLeft s.coolLeft + 2559999) / 2560000))
  | _ => match inst 0x40 4 6 o with
    | some k => s.sill.p.getD k 0 &&& BitVec.ofNat 32 (sillMask (6 + k))
    | none => 0

/-! ### AL_: page 0x8000 (R465) -/

/-- AL_JOINED. -/
def State.joinedWord (s : State) : Word :=
  let a := s.aeloon
  if a.state ≠ 4 then 0
  else if s.isManager then bits32 fun n => decide (n = 0) || (tget {} a.nodes n).joined
  else if s.isWorker then bits32 fun n => decide (n = 0) || decide (n = s.core.node.toNat)
  else 0

def State.alCtrKey (s : State) : Nat := 32 * s.aeloon.nodeSel.toNat + s.aeloon.cntSel.toNat

def State.nodeInfo (n : ANode) : Word :=
  pack [(0, n.units), (8, n.d.toNat), (24, n.gen.toNat), (28, min 3 n.missRun), (30, b2n n.joined)]

def State.readAl (s : State) (o : Nat) : Word :=
  let a := s.aeloon
  let n := tget {} a.nodes a.nodeSel.toNat
  let mine (v : Word) : Word := if s.isManager then v else 0
  match o with
  | 0x00 => a.ctrlReg
  | 0x04 => pack [(0, bitsAt s.strapsWord.toNat 0 2), (2, s.core.node.toNat), (7, a.state), (10, b2n a.slotBad), (11, b2n a.dupSlot), (12, b2n a.alpOk),
                  (13, if s.isWorker && decide (a.state = 4) then a.gen.toNat else 0)]
  | 0x08 => s.joinedWord
  | 0x0C => a.sfc
  | 0x10 => a.mapCfgReg
  | 0x14 => if s.isWorker then a.d.setWidth 32 else 0
  | 0x18 => a.nodeSel.setWidth 32
  | 0x1C =>
    if s.isManager then (if a.nodeSel = 0 ∧ a.state = 4 then pack [(0, a.units), (30, 1)] else State.nodeInfo n)
    else pack [(30, b2n (bitAt s.joinedWord.toNat a.nodeSel.toNat))]
  | 0x20 => mine n.boot
  | 0x24 => mine n.ready
  | 0x28 => a.cntSel.setWidth 32
  | 0x2C => tget 0 a.ctr s.alCtrKey
  | _ => 0

/-! ### SU_, SG_ and SL_: pages 0x9000, 0xA000 and 0xB000 (R246, R589, R590) -/

/-- [DESIGN CHOICE, log 86] -/
def State.readSu (s : State) (o : Nat) : Word :=
  let u := s.stitch
  match o with
  | 0x00 => pack [(0, (List.range 8).foldl (fun a i => a + (if (s.stitchUnit i).isSome || (decide (i = 2) && !s.tack.checkQ.isEmpty) then 2 ^ i else 0)) 0),
                  (8, u.failed.toNat), (16, min 512 u.waiting.length)]
  | 0x04 => u.rxFail
  | 0x08 => pack [(0, u.ledgerFail.toNat), (16, u.faultFail.toNat)]
  | 0x0C => pack [(0, u.runs.toNat), (16, u.mismatch.toNat)]
  | _ => match inst 0x100 4 64 o with
    | some k =>
      let p := s.profile (k / 4)
      match k % 4 with
      | 0 => pack [(0, p.cfg.toNat), (12, b2n p.refin)]
      | 1 => p.poly
      | 2 => p.init
      | _ => p.xor
    | none => 0

/-- [DEDUCED, log 85] -/
def State.readSg (s : State) (o : Nat) : Word :=
  let g := s.gate
  match o with
  | 0x04 => pack [(0, g.state), (2, b2n !(s.locked 2)), (3, b2n s.fw.rom), (4, if g.session then secondsLeft s.now (g.activeAt + seconds 600) 600 else 0),
                  (14, secondsLeft s.now g.heldUntil 64)]
  | 0x08 => pack [(0, g.fails.toNat), (16, g.run.toNat)]
  | _ => match inst 0x20 4 8 o with
    | some i => if g.state = 1 then BitVec.ofNat 32 (leAt g.nonce (4 * i) 4) else 0
    | none => 0

def State.readSl (s : State) (o : Nat) : Word :=
  let x := s.sill
  match o with
  | 0x00 => pack [(0, bitsAt (s.sillRow 127).toNat 0 5), (5, b2n x.pin), (6, b2n x.vqps), (7, b2n (s.gate.session && x.pin && x.vqps && !s.warning)), (8, x.mismatch.toNat)]
  | 0x04 => x.pgmRow.setWidth 32
  | 0x08 => x.pgmData
  | 0x10 => pack [(0, x.pgmState.toNat), (2, x.pgmResult.toNat), (6, x.pgmBlown.toNat)]
  | _ => match inst 0x100 4 128 o with
    | some n => if 24 ≤ n ∧ n ≤ 31 then 0 else s.sillRow n
    | none => 0

/-! ### The whole of BAR0 (R591, R592) -/

/-- The value an aligned 32-bit read of an offset returns. [DESIGN CHOICE, log 16] -/
def State.readReg (s : State) (off : Nat) : Word :=
  let o := off % 4096
  match off / 4096 with
  | 0 => s.readId o
  | 1 => s.readHl o
  | 2 => s.readHr o
  | 3 => s.readHrS o
  | 4 => s.readPw o
  | 5 => s.readPt o
  | 6 => s.readCs o
  | 7 => s.readCn o
  | 8 => s.readAl o
  | 9 => s.readSu o
  | 10 => s.readSg o
  | 11 => s.readSl o
  | _ => 0

/-! ### What a read does beside -/

def ZxInput.clearCounts (x : ZxInput) : ZxInput := { x with reject := 0, miss := 0 }

def State.clearId (s : State) (o : Nat) : State :=
  match o with
  | 0x48 => s.onHalter fun h => { h with warmHost := 0, warmSecure := 0, warmWatchdog := 0, cycles := 0, keyBad := 0 }
  | 0x4C => s.onHalter fun h => { h with entries := 0 }
  | 0x54 => s.onPower fun p => { p with warnings := 0 }
  | _ => s

def State.clearHl (s : State) (o : Nat) : State :=
  if o = 0x10 then s.onLink fun l => { l with dbFails := 0 }
  else match inst 0xCC 16 8 o, inst 0x14C 16 16 o with
    | some q, _ => s.onQueue q fun x => { x with lost := 0 }
    | _, some c => s.onSnapRing c fun x => { x with full := 0, small := 0 }
    | _, _ => s

def State.clearPw (s : State) (o : Nat) : State :=
  match o with
  | 0x20 => s.onWheel fun w => { w with cycleHi := BitVec.ofNat 16 (bitsAt w.count.toNat 32 16) }
  | 0x30 => s.onWheel fun w => { w with a := w.a.clearCounts }
  | 0x34 => s.onWheel fun w => { w with b := w.b.clearCounts }
  | 0x38 => s.onWheel fun w => { w with steps := 0, holds := 0 }
  | 0x3C => s.onWheel fun w => { w with skipped := 0, missed := 0, shed := 0 }
  | _ => s

def State.clearPt (s : State) (o : Nat) : State :=
  match o with
  | 0x08C => s.onScr fun c => { c with ctr := tset 0 c.ctr s.scrCtrKey 0 }
  | 0x09C => s.onScr fun c => { c with done := 0, refused := 0 }
  | 0x104 => s.onPorts fun p => { p with awlCtr := tset 0 p.awlCtr s.awlCtrKey 0 }
  | 0x108 => s.onPorts fun p => { p with awlErr := clearHalf p.awlErr 0 }
  | 0x10C => s.onPorts fun p => { p with awlErr := clearHalf p.awlErr 1 }
  | 0x144 => s.onPorts fun p => { p with bklCtr := tset 0 p.bklCtr s.bklCtrKey 0 }
  | 0x148 => s.onPorts fun p => { p with bklErr := clearHalf p.bklErr 0 }
  | 0x14C => s.onPorts fun p => { p with bklErr := clearHalf p.bklErr 1 }
  | _ =>
    match inst 0x804 8 64 o, inst 0xC04 16 64 o with
    | some n, _ => s.onAwl n fun a => { a with tries := 0 }
    | _, some m => s.onTw m fun t => { t with tries := 0 }
    | _, _ => s

def State.clearCs (s : State) (o : Nat) : State :=
  if o = 0x24 then s.onTrace fun k => { k with ignored := 0, wraps := 0 }
  else match inst 0x118 32 16 o, inst 0x11C 32 16 o with
    | some c, _ => s.onCourse c fun x => { x with inconsistentCnt := 0, overrun := 0 }
    | _, some c => s.onCourse c fun x => { x with lateSlices := 0, missing := 0 }
    | _, _ => s

def State.clearCn (s : State) (o : Nat) : State :=
  match o with
  | 0x20 => s.onCinch fun c => { c with overload := 0, fastTrip := 0, tfetHot := 0, pchCnt := 0 }
  | 0x24 => s.onCinch fun c => { c with halterTrip := 0, limitEntries := 0, modelLowCnt := 0, gateFs := 0 }
  | _ => s

def State.clearSu (s : State) (o : Nat) : State :=
  match o with
  | 0x04 => s.onStitch fun u => { u with rxFail := 0 }
  | 0x08 => s.onStitch fun u => { u with ledgerFail := 0, faultFail := 0 }
  | 0x0C => s.onStitch fun u => { u with runs := 0, mismatch := 0 }
  | _ => s

/-- HR_CNT's counters clear; the word an HR_OUT read releases: channel of the offset, in its page (R398, R406). -/
def State.clearHr (s : State) (base o : Nat) : State :=
  let s := if base = 0 ∧ o = 0x14 then s.onRail fun r => { r with cnt0 := 0, cnt1 := 0, cnt2 := 0, cnt3 := 0 } else s
  match inst 0x104 32 8 o with
  | some k => s.hrOutRead (base + k)
  | none => s

/-- RC fields clear; PW_CYCLE_LO latches; HR_OUT releases. -/
def State.readEffect (s : State) (off : Nat) : State :=
  let o := off % 4096
  match off / 4096 with
  | 0 => s.clearId o
  | 1 => s.clearHl o
  | 2 => s.clearHr 0 o
  | 3 => s.clearHr 8 o
  | 4 => s.clearPw o
  | 5 => s.clearPt o
  | 6 => s.clearCs o
  | 7 => s.clearCn o
  | 8 => if o = 0x2C then s.onAeloon fun a => { a with ctr := tset 0 a.ctr s.alCtrKey 0 } else s
  | 9 => s.clearSu o
  | 10 => if o = 0x08 then s.onGate fun g => { g with fails := 0 } else s
  | _ => s

/-- A host read of BAR0: an aligned 32-bit read returns the register and has its effect; any other size
returns zero and has none (R343, R591). [DESIGN CHOICE, log 4, 88] -/
def State.hostRead (s : State) (off size : Nat) : State :=
  if size = 4 ∧ off % 4 = 0 then { s.readEffect off with lastRead := s.readReg off } else { s with lastRead := 0 }

end Sys2Proof.Machine
end

