-- ==== Sys2Proof/Machine/Writes.lean ====
section
/-! DEFINITION. Every write of a BAR0 register (R16, R17, R343, R591, R592): which fields take the value,
which ignore it, what waits for a boundary and what happens at once (R594). The manager's REG_SET writes
through the same function (R456). -/
namespace Sys2Proof.Machine

/-! ### ID_ and HL_ (R348, R392, R560) -/

def State.writeId (s : State) (o : Nat) (v : Word) : State :=
  match o with
  | 0x40 => s.writeReset v
  | 0x50 => s.onHalter fun h => { h with viol := h.viol &&& ~~~(v.setWidth 16), miss := h.miss &&& ~~~((v >>> 16).setWidth 16) }
  | 0x54 => if bitAt v.toNat 3 then s.onPower fun p => { p with copyDone := false } else s
  | 0x5C => s.onCore fun c => { c with frecSel := v.setWidth 14 }
  | _ => s

def ringFields : List FieldSpec := [(0, 1, any), (1, 4, range 6 12), (5, 5, range 1 16)]
def coalFields : List FieldSpec := [(10, 6, range 1 63), (16, 8, any)]
def queueFields : List FieldSpec := [(0, 1, any), (1, 4, range 6 12), (5, 5, any)] ++ coalFields
def snapFields : List FieldSpec := [(0, 1, any), (1, 4, range 1 12), (5, 13, range 1 4096), (18, 3, any)]

/-- A base address: bits 11 to 0 are reserved. -/
def pageBase (v : Word) : Word := v &&& 0xFFFFF000

/-- HL_EQ_CFG: COAL_CNT and COAL_TIME at any time, the rest only while GO is 0 (R348). -/
def State.writeQueueCfg (s : State) (q : Nat) (v : Word) : State :=
  let old := (s.queue q).cfg
  let w := if s.link.go then takeFields old ((v &&& 0xFFFC00) ||| (old &&& 0x3FF)) queueFields else takeFields old v queueFields
  s.onQueue q fun x => { x with cfg := w }

/-- A word of an MSI-X table entry, in the form of the PCI Express specification; unmasking a pending
vector sends it (R374, R392). [PRESUMED, log 35] -/
def State.writeMsix (s : State) (e k : Nat) (v : Word) : State :=
  (s.onLink fun l => { l with msix := tmod {} l.msix e fun m =>
    match k with
    | 0 => { m with lo := v &&& 0xFFFFFFFC }
    | 1 => { m with hi := v }
    | 2 => { m with data := v }
    | _ => { m with ctrl := v &&& 1 } }).sendPending e

/-- HL_CTRL: GO set or cleared (R346, R349). -/
def State.writeGo (s : State) (v : Word) : State := if bitAt v.toNat 0 then s.goSet s.link.bme else s.goClear

def State.writeHl (s : State) (o : Nat) (v : Word) : State :=
  let open' (t : State) : State := if s.link.go then s else t
  match o with
  | 0x00 => s.writeGo v
  | 0x04 => s.onLink fun l => { l with bmeLost := l.bmeLost && !bitAt v.toNat 6, linkLost := l.linkLost && !bitAt v.toNat 7, dbFail := l.dbFail && !bitAt v.toNat 8 }
  | 0x08 => open' (s.onLink fun l => { l with dbLo := pageBase v })
  | 0x0C => open' (s.onLink fun l => { l with dbHi := v })
  | 0x10 => if 1 ≤ bitsAt v.toNat 0 8 ∧ bitsAt v.toNat 0 8 ≤ 128 then s.onLink fun l => { l with dbInterval := v.setWidth 8 } else s
  | 0x14 => s.onLink fun l => { l with evtRoute := v }
  | _ =>
    match inst 0x40 4 32 o, inst 0xC0 4 32 o, inst 0x140 4 64 o, inst 0x800 4 128 o with
    | some k, _, _, _ => open' (s.onRing (k / 4) fun r =>
      match k % 4 with
      | 0 => { r with lo := pageBase v }
      | 1 => { r with hi := v }
      | 2 => { r with cfg := takeFields r.cfg v ringFields }
      | _ => r)
    | _, some k, _, _ =>
      if k % 4 = 2 then s.writeQueueCfg (k / 4) v
      else open' (s.onQueue (k / 4) fun r =>
        match k % 4 with
        | 0 => { r with lo := pageBase v }
        | 1 => { r with hi := v }
        | _ => r)
    | _, _, some k, _ => open' (s.onSnapRing (k / 4) fun r =>
      match k % 4 with
      | 0 => { r with lo := pageBase v }
      | 1 => { r with hi := v }
      | 2 => { r with cfg := takeFields r.cfg v snapFields }
      | _ => r)
    | _, _, _, some k => s.writeMsix (k / 4) (k % 4) v
    | _, _, _, _ => s

/-! ### HR_ (R393, R397 to R404, R419) -/

def State.writeChannel (s : State) (c k : Nat) (v : Word) : State :=
  match k with
  | 0 => s.hrInWrite c v
  | 3 => s.hostAck c (v.setWidth 16)
  | 4 => s.hrModeWrite c v
  | 5 => s.onChan c fun x => { x with aborted := x.aborted && !bitAt v.toNat 7, inReject := x.inReject && !bitAt v.toNat 8, ackReject := x.ackReject && !bitAt v.toNat 9 }
  | _ => s

/-- HR_CTRL: CROSS_TIMEOUT, and HOST_BUMP (R404). -/
def State.writeHrCtrl (s : State) (v : Word) : State :=
  let x := bitsAt v.toNat 8 14
  let s := if 10 ≤ x ∧ x ≤ 10000 then s.onRail fun r => { r with crossTimeout := BitVec.ofNat 14 x } else s
  if bitAt v.toNat 0 then s.hostBump else s

def State.writeHr (s : State) (o : Nat) (v : Word) : State :=
  let bells := bitAt s.sill.c.toNat 9
  match o with
  | 0x08 => s.writeHrCtrl v
  | 0x0C => if bells then s.onRail fun r => { r with bell := r.bell &&& ~~~v } else s
  | 0x10 => if bells then s.onRail fun r => { r with bellMask := v } else s
  | _ => match inst 0x100 4 64 o with
    | some k => s.writeChannel (k / 8) (k % 8) v
    | none => s

def State.writeHrS (s : State) (o : Nat) (v : Word) : State :=
  if !s.gate.session then s
  else match inst 0x100 4 64 o with
    | some k => s.writeChannel (8 + k / 8) (k % 8) v
    | none => s

/-! ### CS_, CN_, AL_, SU_, SG_, SL_ -/

/-- CS_TR_CTRL, with REARM (R334). -/
def State.writeTrCtrl (s : State) (v : Word) : State :=
  let s := s.onTrace fun k => { k with ctrl := v &&& 0x3FFFF }
  if bitAt v.toNat 18 then s.csRearm else s

def State.writeCs (s : State) (o : Nat) (v : Word) : State :=
  if o = 0x10 then s.writeTrCtrl v
  else match inst 0x40 4 8 o with
    | some i => s.onTrace fun k => { k with rules := lmod k.rules (i / 2) fun r =>
      if i % 2 = 0 then (v &&& 0x1FFFF, r.2) else if (Fl.of32 v.toNat).isNan then r else (r.1, v) }
    | none => s

/-- CN_STAT's MODEL_LOW and PG_LATE are W1C (R523). -/
def State.writeCn (s : State) (o : Nat) (v : Word) : State :=
  match o with
  | 0x00 => s.onCinch fun c => { c with modelLow := c.modelLow && !bitAt v.toNat 16, pgLate := c.pgLate && !bitAt v.toNat 17 }
  | 0x04 => s.writeCnCtrl v
  | 0x08 => s.writeCnSoft v
  | 0x0C => s.writeCnClear v
  | _ => s

/-- AL_CTRL: ENABLE ignores writes where the role never drives the link (R421). -/
def State.writeAlCtrl (s : State) (v : Word) : State :=
  s.onAeloon fun a => { a with ctrlReg := takeFields a.ctrlReg v [(0, 1, fun _ => decide (s.core.role ≠ .standalone)), (1, 1, any)] }

def State.writeAl (s : State) (o : Nat) (v : Word) : State :=
  match o with
  | 0x00 => s.writeAlCtrl v
  | 0x10 => s.onAeloon fun a => { a with mapCfgReg := takeFields a.mapCfgReg v [(0, 8, range 4 64), (8, 5, range 2 16)] }
  | 0x18 => s.onAeloon fun a => { a with nodeSel := v.setWidth 5 }
  | 0x28 => s.onAeloon fun a => { a with cntSel := v.setWidth 5 }
  | _ => s

/-- A profile register; profiles 0 to 7 are fixed (R246). -/
def State.writeSu (s : State) (o : Nat) (v : Word) : State :=
  match inst 0x100 4 64 o with
  | some k =>
    if k / 4 < 8 then s
    else s.onStitch fun u => { u with profiles := tmod {} u.profiles (k / 4) fun p =>
      match k % 4 with
      | 0 => { p with cfg := takeFields p.cfg v [(0, 6, range 0 32), (6, 1, any), (7, 1, any), (8, 3, range 0 5)] }
      | 1 => { p with poly := v }
      | 2 => { p with init := v }
      | _ => { p with xor := v } }
  | none => s

def State.writeSg (s : State) (o : Nat) (v : Word) : State :=
  if o = 0 then s.writeSgCtrl v
  else match inst 0x40 4 8 o with
    | some i => s.onGate fun g => { g with response := tset 0 g.response i v }
    | none => s

/-- SL_PGM_ROW and SL_PGM_DATA are ignored without a session (R590) and while an operation is busy (R571). -/
def State.writeSl (s : State) (o : Nat) (v : Word) : State :=
  match o with
  | 0x04 => if s.gate.session && s.sill.busy.isNone then s.onSill fun x => { x with pgmRow := v.setWidth 7 } else s
  | 0x08 => if s.gate.session && s.sill.busy.isNone then s.onSill fun x => { x with pgmData := v } else s
  | 0x0C => s.sillProgram v
  | _ => s

/-! ### The whole of BAR0 -/

/-- A write of a register, by whichever master the role allows. -/
def State.writeReg (s : State) (off : Nat) (v : Word) : State :=
  let o := off % 4096
  match off / 4096 with
  | 0 => s.writeId o v
  | 1 => s.writeHl o v
  | 2 => s.writeHr o v
  | 3 => s.writeHrS o v
  | 4 => if o = 0 then s.writePwCtrl v else s.writePw o v
  | 5 => s.writePt o v
  | 6 => s.writeCs o v
  | 7 => s.writeCn o v
  | 8 => s.writeAl o v
  | 9 => s.writeSu o v
  | 10 => s.writeSg o v
  | 11 => s.writeSl o v
  | _ => s

/-- Selector registers that a worker's host may write (R6). -/
def isSelector (off : Nat) : Bool := off == 0x5100 || off == 0x5140 || off == 0x5088 || off == 0x5090 || off == 0x5124

/-- Registers of the PT_ page whose writable fields are all W1C. -/
def isW1cPort (off : Nat) : Bool :=
  off == 0x51A4 || (inst 0x5404 16 64 off).isSome || (inst 0x5C08 16 64 off).isSome

/-- In the worker role the host's writes to RW fields of the PW_ and PT_ pages are ignored (R6). -/
def State.hostMay (s : State) (off : Nat) : Bool :=
  !s.isWorker || (off / 4096 != 4 && off / 4096 != 5) || isSelector off || isW1cPort off

/-- Writes that count as activity of an open session (R577); CN_CLEAR counts in its own meaning. -/
def isGatePage (off : Nat) : Bool := off / 4096 == 3 || off / 4096 == 10 || off / 4096 == 11

/-- A host write of BAR0: only aligned 32-bit writes are taken (R343). [DESIGN CHOICE, log 88] -/
def State.hostWrite (s : State) (off size : Nat) (v : Word) : State :=
  if size = 4 ∧ off % 4 = 0 ∧ s.hostMay off then
    (if isGatePage off then s.gateActive else s).writeReg off v
  else s

end Sys2Proof.Machine
end

