-- ==== Sys2Proof/Machine/Cascade.lean ====
section
/-! DEFINITION. What both ends of the Aeloon cascade share: frames and their checks (R426, R429, R430),
chunks (R438), the node counters (R466), and the link's mailbox channels (R417, R441, R463). -/
namespace Sys2Proof.Machine

def State.node (s : State) (n : Nat) : ANode := tget {} s.aeloon.nodes n
def State.onNode (s : State) (n : Nat) (f : ANode → ANode) : State :=
  if n < 32 then s.onAeloon fun a => { a with nodes := tmod {} a.nodes n f } else s

/-- Count counter `i` of a node (R466). [DESIGN CHOICE, log 98] -/
def State.alCount (s : State) (n i : Nat) : State := s.onAeloon fun a => { a with ctr := bumpTbl a.ctr (32 * n + i) }

/-- Pooled units 0 and 1, which make and verify the frame checks, have not failed (R236, R237). -/
def State.alUnits (s : State) : Bool := !bitAt s.stitch.failed.toNat 0 && !bitAt s.stitch.failed.toNat 1

/-- The link may run: a role, AL_CTRL.ENABLE in force, and the units (R421, R422, R465). [DESIGN CHOICE, log 84] -/
def State.alRuns (s : State) : Bool := s.core.up && bitAt s.aeloon.ctrl.toNat 0 && s.alUnits

/-- The nonce of R442. [DESIGN CHOICE, log 9] -/
def dieNonce : Nat := Config.dieId.toNat % 2 ^ 32

/-! ### Frames -/

/-- Header, payload and check of a frame (R426, R429). -/
def frameBytes (node kind flags : Nat) (payload : List Byte) (fold seq : Nat) : List Byte :=
  let body := [BitVec.ofNat 8 (node % 32 + 32 * kind), BitVec.ofNat 8 flags] ++ leBytes 2 payload.length ++ payload
  body ++ leBytes 4 (checkAeloon fold seq body)

/-- A received frame: 0 passes, 1 fails its check, 2 a code error or a wrong header (R430, R466). [DEDUCED, log 94] -/
def frameClass (bytes : List Byte) (codeErr : Bool) (node kind fold seq : Nat) : Nat :=
  let n := bytes.length - 4
  if codeErr || decide (bytes.length < 8) then 2
  else if leAt bytes n 4 ≠ checkAeloon fold seq (bytes.take n) then 1
  else if leAt bytes 0 1 ≠ node % 32 + 32 * kind || leAt bytes 2 2 ≠ n - 4 then 2
  else 0

def framePayload (bytes : List Byte) : List Byte := (bytes.drop 4).take (bytes.length - 8)

/-- Unit 1 counts a frame that fails its check (R237); the node's counters tell the causes (R430). [DEDUCED, log 90] -/
def State.countFrame (s : State) (node cls : Nat) : State :=
  let s := if cls = 1 then s.onStitch fun u => { u with rxFail := satInc u.rxFail } else s
  s.alCount node cls

/-! ### Chunks -/

def Chunk.len (c : Chunk) : Nat := 2 + c.body.length
def Chunk.bytes (c : Chunk) : List Byte := leBytes 2 (c.kind % 16 + 16 * c.body.length) ++ c.body

/-- The chunks of a payload: PAD ends it, fewer than 2 bytes end it. -/
def parseChunks : Nat → List Byte → List Chunk
  | fuel + 1, a :: b :: rest =>
    let h := a.toNat + 256 * b.toNat
    if h % 16 = 0 || decide (rest.length < h / 16) then [] else { kind := h % 16, body := rest.take (h / 16) } :: parseChunks fuel (rest.drop (h / 16))
  | _, _ => []

def chunksOf (bytes : List Byte) : List Chunk := let p := framePayload bytes; parseChunks p.length p

/-- Fill a payload to its slot with PAD, or with zero bytes when fewer than 2 remain. -/
def padPayload (n : Nat) (bs : List Byte) : List Byte :=
  let r := n - bs.length
  if 2 ≤ r then bs ++ leBytes 2 (16 * (r - 2)) ++ List.replicate (r - 2) 0 else bs ++ List.replicate r 0

/-- The chunks that fit, in order, and those that wait. -/
def fitChunks : Nat → List Chunk → List Chunk × List Chunk
  | _, [] => ([], [])
  | room, c :: cs => if c.len ≤ room then let (t, w) := fitChunks (room - c.len) cs; (c :: t, w) else ([], c :: cs)

def chunksLen (cs : List Chunk) : Nat := cs.foldl (fun a c => a + c.len) 0

/-- Kept until acknowledged: every chunk but PAD and STATUS (R440). -/
def Chunk.kept (c : Chunk) : Bool := c.kind ≠ 0 && decide (c.kind ≠ 3)

def State.send (s : State) (c : Chunk) : State := s.onAeloon fun a => { a with queue := a.queue ++ [c] }

/-! ### Mailboxes on the link (R417, R463): channels 16 + 4 * node + k; a worker's stand at node 0 -/

def State.box (s : State) (k : Nat) : LinkBox := tget {} s.aeloon.boxes k
def State.onBox (s : State) (k : Nat) (f : LinkBox → LinkBox) : State :=
  if k < 128 then s.onAeloon fun a => { a with boxes := tmod {} a.boxes k f } else s

/-- The channel's peer is joined: the node in the manager, the manager in a joined worker. -/
def State.linked (s : State) (k : Nat) : Bool :=
  if s.isManager then decide (4 ≤ k) && (s.node (k / 4)).joined
  else s.isWorker && decide (s.aeloon.state = 4) && decide (k < 4)

/-- An MBOX chunk. [DESIGN CHOICE, log 96] -/
def State.mboxChunk (s : State) (k op num word : Nat) : Chunk :=
  { kind := 2, body := [BitVec.ofNat 8 (k % 4 + 4 * op), BitVec.ofNat 8 num, s.core.bootId.setWidth 8, 0] ++ leBytes 4 word }

/-- The firmware posts a word on a link channel, only while its last one is acknowledged. [DESIGN CHOICE, log 97] -/
def State.linkPost (s : State) (k : Nat) (v : Word) : State :=
  if !s.linked k || (s.box k).outWord.isSome then s
  else
    let num := (s.box k).outNum + 1
    (s.onBox k fun b => { b with outWord := some v, outOrphan := false, outAt := s.now, outNum := num, ackCode := none, aborted := false }).send
      (s.mboxChunk k 0 num.toNat v.toNat)

/-- The firmware reads the word it received: an orphan goes, and a PLAIN word; any other is taken (R398, R406). -/
def State.linkRead (s : State) (k : Nat) : State :=
  s.onBox k fun b => if b.inWord.isNone then b else if b.inOrphan || !b.formal then { b with inWord := none, inOrphan := false, inTaken := false } else { b with inTaken := true }

/-- The firmware acknowledges the word it received. -/
def State.linkAck (s : State) (k : Nat) (code : BitVec 16) : State :=
  let b := s.box k
  if b.inWord.isNone || (!b.formal && !b.inOrphan) then s
  else
    let s := s.onBox k fun b => { b with inWord := none, inOrphan := false, inTaken := false, crossed := false }
    if b.inOrphan then s else s.send (s.mboxChunk k 1 (b.lastPost.getD 0) code.toNat)

/-- An MBOX chunk comes in: a repeat is ignored (R441), a post that finds a word still posted is discarded, and an
acknowledge of no word rejected (R397, R399, R417). [DESIGN CHOICE, log 96] -/
def State.takeMbox (s : State) (k : Nat) (body : List Byte) : State :=
  let num := leAt body 1 1
  let v : Word := BitVec.ofNat 32 (leAt body 4 4)
  let b := s.box k
  if bitsAt (leAt body 0 1) 2 2 = 0 then
    if b.lastPost = some num then s
    else if b.inWord.isSome then s.onBox k fun b => { b with inReject := true }
    else s.onBox k fun b => { b with lastPost := some num, inWord := some v, inEpoch := BitVec.ofNat 8 (leAt body 2 1), inTaken := false,
                                     inOrphan := false, inAt := s.now }
  else if b.lastAck = some num then s
  else s.onBox k fun b =>
    let b := { b with lastAck := some num }
    if b.formal && b.outWord.isSome && decide (b.outNum.toNat = num) then
      { b with outWord := none, outOrphan := false, crossed := false, ackCode := some v, ackEpoch := BitVec.ofNat 8 (leAt body 2 1) }
    else { b with ackReject := true }

/-- CROSS_TIMEOUT on a link channel, 500 µs from the later post: told to the firmware only (R417). -/
def State.linkCross (s : State) (k : Nat) : State :=
  s.onBox k fun b => if b.formal && b.inWord.isSome && b.outWord.isSome && !b.inOrphan && decide (max b.inAt b.outAt + 500 * 256 ≤ s.now) then { b with crossed := true } else b

/-- The peer's party is reset: words to it are aborted, its own word becomes an orphan (R404 to R408, R417). -/
def LinkBox.peerReset (b : LinkBox) : LinkBox :=
  { b with outWord := none, outOrphan := false, aborted := b.aborted || b.outWord.isSome, inOrphan := b.inWord.isSome, crossed := false
           lastPost := none, lastAck := none, formal := true }

/-- [DESIGN CHOICE, log 97] -/
def State.resetBoxes (s : State) (node : Nat) : State :=
  s.onAeloon fun a => { a with boxes := (a.boxes.map fun x => if x.1 / 4 = node then (x.1, x.2.peerReset) else x).filter fun x => decide (x.2 ≠ {}) }

/-! ### What a push carries (R455 to R457) -/

/-- Opcodes a WORKER_PUSH may carry, and those among them that configure. -/
def pushConfig (inner : Nat) : Bool := (1 ≤ inner && decide (inner ≤ 4)) || decide (inner = 0x2C)
def pushAllowed (inner : Nat) : Bool :=
  pushConfig inner || inner = 8 || inner = 9 || (0x10 ≤ inner && decide (inner ≤ 0x13)) || inner = 0x30

def popcount (w : Nat) : Nat := (List.range 32).foldl (fun a i => a + b2n (bitAt w i)) 0

/-- Bytes of image that an INNER job's words ask for; `tw`: its point stands on a two-wire port.
[DESIGN CHOICE, log 106] -/
def pushImageLen (inner : Nat) (w : Nat → Nat) (tw : Bool) : Nat :=
  match inner with
  | 1 => w 4
  | 2 => 16 * bitsAt (w 1) 16 13
  | 3 => 16 * popcount (bitsAt (w 1) 0 16)
  | 4 => 8 * bitsAt (w 1) 0 9
  | 9 => if tw && decide (8 < bitsAt (w 2) 0 8) then bitsAt (w 2) 0 8 else 0
  | 0x2C => w 4
  | 0x30 => if bitsAt (w 1) 0 8 = 1 then 320 else if bitsAt (w 1) 0 8 = 3 then 4 * bitsAt (w 4) 16 13 else 0
  | _ => 0

/-- Word `i` of the pushed job, from the push's first 60 bytes. -/
def pushWord (data : List Byte) (i : Nat) : Nat := leAt data (4 * (i - 1)) 4

end Sys2Proof.Machine
end

