-- ==== Sys2Proof/Machine/Manager.lean ====
section
/-! DEFINITION. The manager's end of the Aeloon cascade (10): superframe, slot map and beacon (R425 to
R435, R454), joins and leaves (R442 to R447), pushes (R455 to R460), the downlink (R440), and the
worker's slot frames (R437, R439, R452). -/
namespace Sys2Proof.Machine

/-! ### The slot map (R427, R454) -/

/-- A node that holds a slot: joined, or granted and still to show its first frame. -/
def ANode.slotted (x : ANode) : Bool := x.joined || x.granted.isSome

/-- Bytes of a node's slice of a course, from the configuration pushed to it. -/
def ANode.sliceBytes (x : ANode) (c : Nat) : Nat := 64 + 8 * x.records c

/-- The uplink demand of a node, in bytes per cycle: slice bytes times strikes, over its enabled uplink courses.
[DEDUCED, log 72] -/
def ANode.demand (x : ANode) : Rat :=
  (x.pole.filter fun e => decide (e.action = 1)).foldl (fun a e =>
    let c := bitsAt e.arg.toNat 0 4
    let g : CourseCfg := tget {} x.courses c
    if g.enabled && g.toUplink then a + ((x.sliceBytes c : Nat) : Rat) / ((e.divN : Nat) : Rat) else a) 0

/-- Units every superframe shares among so many slots (R427). [DESIGN CHOICE, log 89] -/
def slotCap (slots : Nat) : Nat := (2395 - 17 * slots) / 8

/-- Keep a list in order of falling demand, the earlier first where demands are equal. -/
def insertDemand (x : Nat × Rat) : List (Nat × Rat) → List (Nat × Rat)
  | [] => [x]
  | y :: ys => if y.2 < x.2 then x :: y :: ys else y :: insertDemand x ys

/-- Units of each worker that holds a slot: a granted one has BASE until it has joined (R444, R454). Where DOWN and the
bases would pass the cap of R427, each base is less. [DEDUCED, log 72; DESIGN CHOICE, log 89] -/
def State.slotMap (s : State) (down base : Nat) : List (Nat × Nat) :=
  let ws := (s.aeloon.nodes.filter fun x => x.2.slotted).map fun x => (x.1, if x.2.joined then x.2.demand else 0)
  let base := if ws.isEmpty then base else min base ((slotCap (ws.length + 1) - down) / ws.length)
  let rest := slotCap (ws.length + 1) - down - base * ws.length
  let total := ws.foldl (fun a x => a + x.2) 0
  if total ≤ 0 then ws.map fun x => (x.1, base)
  else
    let share (d : Rat) : Nat := ((rest : Rat) * d / total).floor.toNat
    let left := rest - ws.foldl (fun a x => a + share x.2) 0
    let lucky := ((ws.foldl (fun l x => insertDemand x l) []).take left).map (·.1)
    ws.map fun x => (x.1, min 255 (base + share x.2 + b2n (lucky.contains x.1)))

/-! ### Chunks of the downlink -/

def State.rangeChunk (s : State) (n : Nat) : Chunk := { kind := 7, body := [BitVec.ofNat 8 n, 0] ++ leBytes 2 (s.node n).d.toNat }

/-- Send a node its d (R437). -/
def State.sendRange (s : State) (n : Nat) : State :=
  (s.send (s.rangeChunk n)).onNode n fun x => { x with dSent := some x.d.toNat }

def joinedNodes (s : State) : List Nat := (s.aeloon.nodes.filter fun x => x.2.joined).map (·.1)

/-- A commit or abort chunk of a push. -/
def Push.order (p : Push) (op arg : Nat) : Chunk :=
  { kind := 4, body := [BitVec.ofNat 8 (if p.all then 0 else p.nodes.headD 0), p.num, BitVec.ofNat 8 op, BitVec.ofNat 8 p.inner] ++ leBytes 4 arg }

/-! ### Pushes (R455 to R460) -/

def State.push? (s : State) (slot : Nat) : Option Push := s.aeloon.pushes.find? fun p => decide (p.slot = slot)
def State.onPush (s : State) (slot : Nat) (f : Push → Push) : State :=
  s.onAeloon fun a => { a with pushes := a.pushes.map fun p => if p.slot = slot then f p else p }
def State.dropPush (s : State) (slot : Nat) : State :=
  s.onAeloon fun a => { a with pushes := a.pushes.filter fun p => decide (p.slot ≠ slot) }

/-- DETAIL of a push (R460). -/
def Push.detail (p : Push) : Nat := pushDetail p.all (p.nodes.headD 0) p.inner

/-- [DEDUCED, log 99] -/
def nodeMask (ns : List Nat) : Nat := ns.foldl (fun a n => setBit a n true) 0

/-- The completion of a push whose workers have answered (R460). -/
def State.finishPush (s : State) (p : Push) : State :=
  let bad := p.done.filter fun x => decide (x.2.1 ≠ 0)
  let good := p.done.filter fun x => decide (x.2.1 = 0)
  let s := s.dropPush p.slot
  if p.all then
    match bad with
    | [] => s.complete p.slot 0 (leBytes 4 (nodeMask (good.map (·.1))))
    | b :: _ => s.complete p.slot b.2.1 (leBytes 4 (nodeMask (good.map (·.1))) ++ leBytes 4 (nodeMask (bad.map (·.1)))
        ++ [BitVec.ofNat 8 b.1, 0] ++ leBytes 2 b.2.1)
  else
    match p.done with
    | x :: _ => s.complete p.slot x.2.1 x.2.2 p.detail
    | [] => s.complete p.slot 0 [] p.detail

/-- A push ends before its work: the abort goes out if workers may hold data of it and it is not committed (R458). -/
def State.abortPush (s : State) (p : Push) : State :=
  if pushConfig p.inner && p.commit.isNone && decide (0 < p.sent) then s.send (p.order 2 0) else s

/-- A WORKER_PUSH job starts (R455, R461): its INNER words are ready, or its image is read first.
[DESIGN CHOICE, log 70] -/
def State.pushStart (s : State) (slot : Nat) : State :=
  match s.startable slot 0x28, s.push? slot with
  | some j, some p =>
    let s := s.onJob slot fun j => { j with started := true }
    let fail (st : Nat) : State := (s.dropPush slot).complete slot st [] p.detail
    if !pushAllowed p.inner then fail 0x502
    else if s.aeloon.state ≠ 4 then fail 0x503
    else if p.nodes.isEmpty || (!p.all && p.nodes.any fun n => !(s.node n).joined) then fail 0x500
    else
      let (v, s) := s.takeFree
      let w (i : Nat) : Nat := if i = 1 then v % 2 ^ 32 else j.word i
      let words := (List.range 15).flatMap fun i => leBytes 4 (w (i + 1))
      let tw := p.nodes.any fun n => decide (64 ≤ (tget {} (s.node n).points (bitsAt (w 1) 0 15)).src)
      let num := s.aeloon.pushNum + 1
      let ready := decide (pushImageLen p.inner w tw = 0)
      let s := s.onAeloon fun a => { a with pushNum := num }
      let s := s.onJob slot fun j => { j with words := (List.range 15).map fun i => w (i + 1), read := ready }
      s.onPush slot fun p => { p with num := num, data := if ready then words else [] }
  | _, _ => s

/-- The image of a push is in: words and image go to the workers (R457). [DESIGN CHOICE, log 70] -/
def State.pushImage (s : State) (j : Job) (data : List Byte) : State :=
  match s.push? j.slot with
  | none => s
  | some p =>
    let tw := p.nodes.any fun n => decide (64 ≤ (tget {} (s.node n).points (bitsAt (j.word 1) 0 15)).src)
    let words := (List.range 15).flatMap fun i => leBytes 4 (j.word (i + 1))
    s.onPush j.slot fun p => { p with data := words ++ padTo (pushImageLen p.inner j.word tw) data }

/-- Answers have come in: commit, abort, or complete (R457, R458, R460). [DEDUCED, log 99] -/
def State.settlePush (s : State) (slot : Nat) : State :=
  match s.push? slot with
  | none => s
  | some p =>
    let failed := p.done.any fun x => decide (x.2.1 ≠ 0)
    if pushConfig p.inner && p.commit.isNone && failed then (s.abortPush p).finishPush p
    else if p.nodes.all fun n => p.done.any fun x => decide (x.1 = n) then s.finishPush p
    else if pushConfig p.inner && p.commit.isNone && p.nodes.all fun n => p.staged.contains n then
      let c := (s.wheel.count.toNat + 2) % 2 ^ 32
      (s.onPush slot fun p => { p with commit := some c }).send (p.order 1 c)
    else s

/-- The manager's copy of a node's configuration follows a push that the node has applied (R322, R454). -/
def State.noteConfig (s : State) (n : Nat) (p : Push) : State :=
  let img := wordsOf (p.data.drop 60)
  let w := pushWord p.data
  match p.inner with
  | 1 =>
    match parseRuns img.length (img.take (w 4 / 4)) with
    | none => s
    | some runs =>
      let pts := (runs.filter fun r => decide (r.table = 0)).flatMap fun r => okOnly decodePoint (numbered r.first r.entries)
      s.onNode n fun x => { x with points := putAll {} x.points pts }
  | 3 =>
    let cs := courseNumbers.filter fun c => bitAt (w 1) c
    let recs := (cs.zip (chunk 4 cs.length img)).map fun x =>
      (x.1, ({ w0 := BitVec.ofNat 32 (wordAt x.2 0), kerf := bitsAt (wordAt x.2 1) 0 21, base := bitsAt (wordAt x.2 2) 0 16,
               size := bitsAt (wordAt x.2 2) 16 16, mergeWait := bitsAt (wordAt x.2 3) 0 16 } : CourseCfg))
    s.onNode n fun x => { x with courses := putAll {} x.courses recs }
  | 4 => s.onNode n fun x => { x with pole := (chunk 2 (bitsAt (w 1) 0 9) img).filterMap decodePole }
  | _ => s

/-- A PUSH_ACK of a node: staged, done or failed. -/
def State.takePushAck (s : State) (n : Nat) (body : List Byte) : State :=
  let num := leAt body 0 1
  let state := leAt body 1 1
  match s.aeloon.pushes.find? fun p => decide (p.num.toNat = num) && decide (0 < p.sent) && p.nodes.contains n && !(p.done.any fun x => decide (x.1 = n)) with
  | none => s
  | some p =>
    if state = 1 then (s.onPush p.slot fun p => { p with staged := if p.staged.contains n then p.staged else p.staged ++ [n] }).settlePush p.slot
    else if state = 2 ∨ state = 3 then
      let s := if state = 2 then s.noteConfig n p else s
      (s.onPush p.slot fun p => { p with done := p.done ++ [(n, if state = 2 then 0 else leAt body 2 2, (body.drop 4).take 16)] }).settlePush p.slot
    else s

/-- Every push that waits on a node that has left completes (R447). -/
def State.pushesGone (s : State) (n : Nat) : State :=
  (s.aeloon.pushes.filter fun p => p.nodes.contains n && !(p.done.any fun x => decide (x.1 = n))).foldl
    (fun s p => (s.abortPush p).finishPush { p with done := p.done ++ [(n, 0x501, [])] }) s

/-- Pushes whose jobs are gone, after an abort or a drain, end with them. -/
def State.prunePushes (s : State) : State :=
  let live (p : Push) : Bool := match s.job? p.slot with
    | some j => !j.posted
    | none => false
  (s.aeloon.pushes.filter fun p => !live p).foldl (fun s p => (s.abortPush p).dropPush p.slot) s

/-! ### Joins and leaves -/

/-- WORKER_JOIN (R464). -/
def State.postJoin (s : State) (n kind gen : Nat) (newBoot : Bool) (boot nonce : Nat) : State :=
  let x := s.node n
  s.post 0x070 n ([BitVec.ofNat 8 kind, BitVec.ofNat 8 gen, BitVec.ofNat 8 (b2n newBoot), BitVec.ofNat 8 x.units] ++ leBytes 4 boot
    ++ leBytes 4 nonce ++ leBytes 2 x.d.toNat)

/-- A worker leaves (R447, R464): its pushes, its mailbox party and its acknowledges with it. -/
def State.leave (s : State) (n cause : Nat) : State :=
  let x := s.node n
  let s := (s.post 0x071 n ([BitVec.ofNat 8 cause, x.gen.setWidth 8] ++ leBytes 4 x.lastSfc.toNat)).alCount n 7
  let s := s.onNode n fun x => { x with joined := false, granted := none, missRun := 0, heard := false, ds := [], dSent := none, slices := [] }
  (((s.onAeloon fun a => { a with ackDue := a.ackDue.filter (· != n) }).resetBoxes n).pushesGone n)

/-- The answer to a claim goes out in the next superframe's downlink slot (R444). -/
def State.answer (s : State) (c : Chunk) : State := s.onAeloon fun a => { a with nextQueue := a.nextQueue ++ [c] }

/-- GRANT, with JOIN_GEN one above the last, 15 followed by 1 (R444). [DESIGN CHOICE, log 98] -/
def State.grant (s : State) (n nonce : Nat) : State :=
  let old := (s.node n).gen.toNat
  let gen := if old = 15 then 1 else old + 1
  (s.onNode n fun x => { x with gen := BitVec.ofNat 4 gen, nonce := BitVec.ofNat 32 nonce, granted := some 3, missRun := 0, heard := false
                                denied := 0 }).answer
    { kind := 6, body := [BitVec.ofNat 8 n, 0, BitVec.ofNat 8 gen, 0] ++ leBytes 4 nonce }

/-- A duplicate claim is refused; the eighth in a row is reported (R444, R446). -/
def State.deny (s : State) (n nonce : Nat) : State :=
  let s := (s.alCount n 6).onNode n fun x => { x with denied := x.denied + 1 }
  let s := s.answer { kind := 6, body := [BitVec.ofNat 8 n, 1, (s.node n).gen.setWidth 8, 0] ++ leBytes 4 nonce }
  if (s.node n).denied = 8 then s.postJoin n 2 0 false 0 nonce else s

/-- JOIN_FRAME_RECEIVED (R430, R443, R444). [DESIGN CHOICE, log 102] -/
def State.joinFrame (s : State) (bytes : List Byte) (codeErr : Bool) : State :=
  let n := leAt (framePayload bytes) 0 1
  if !s.isManager || decide (s.aeloon.state ≠ 4) || !s.alUnits || !bitAt s.aeloon.ctrl.toNat 1 then s
  else
    let cls := frameClass bytes codeErr n 1 n 0
    let cls := if cls = 0 ∧ (n = 0 ∨ 31 < n) then 2 else cls
    if cls = 1 then s.onStitch fun u => { u with rxFail := satInc u.rxFail }
    else if cls ≠ 0 then s
    else
      let s := s.alCount n 0
      let nonce := leAt (framePayload bytes) 4 4
      let x := s.node n
      if !x.joined then s.grant n nonce
      else if x.nonce.toNat = nonce then (s.leave n 2).grant n nonce
      else s.deny n nonce

/-- SLOT_MISSED: no frame of the node passed its check in its slot (R445, R447). -/
def State.slotMissed (s : State) (n : Nat) : State :=
  let x := s.node n
  if !s.isManager || decide (s.aeloon.state ≠ 4) || decide (x.units = 0) then s
  else match x.granted with
    | some k => s.onNode n fun x => { x with granted := if k ≤ 1 then none else some (k - 1) }
    | none =>
      if !x.joined then s
      else
        let s := (s.alCount n 3).onNode n fun x => { x with missRun := x.missRun + 1, heard := false }
        if 3 ≤ (s.node n).missRun then s.leave n 1 else s

/-! ### The superframe -/

/-- The period at which the angle advances, slew included; open in a hold (R431). [DESIGN CHOICE, log 100] -/
def State.beaconRate (s : State) : Nat × State :=
  match s.wheel.motion with
  | .run => (s.wheel.period.toNat, s)
  | .slew e p => ((p * 65536 / (65536 + e) + 1 / 2).floor.toNat, s)
  | .hold => s.takeFree

/-- The beacon of this superframe (R431, R432). [DESIGN CHOICE, log 100] -/
def State.sendBeacon (s : State) (step : Bool) : State :=
  let (rate, s) := s.beaconRate
  let cyc := s.aeloon.cycleBeacon
  let res := if cyc then s.aeloon.markResid else 0
  let a := s.wheel.angleRat s.now
  let angle := min (2 ^ 32 - 1) (a * 65536).floor.toNat
  let flags := setBit (setBit (setBit (if cyc then s.wheel.state.code else 0) 2 cyc) 3 (bitAt s.aeloon.ctrl.toNat 1)) 4 step
  let ack := nodeMask ((s.aeloon.nodes.filter fun x => x.2.heard).map (·.1))
  let map := (List.range 32).map fun n => BitVec.ofNat 8 (if n = 0 then s.aeloon.units else (s.node n).units)
  let payload := leBytes 4 s.aeloon.sfc.toNat ++ leBytes 4 angle ++ leBytes 4 rate ++ leBytes 6 (if cyc then s.wheel.count.toNat else 0)
    ++ [BitVec.ofNat 8 flags, BitVec.ofNat 8 res] ++ leBytes 4 ack ++ map
  s.onAeloon fun a => { a with
    frame := frameBytes 0 0 0 payload 0 0, cycleBeacon := false, resid := if cyc then res else a.resid
    nodes := tmap {} (fun x => { x with heard := false }) a.nodes }

/-- The manager's superframe begins (R425, R431, R435, R437, R454, R465). -/
def State.managerFrame (s : State) : State :=
  if !s.alRuns || s.halterOn then s.stopManager
  else
    let first := decide (s.aeloon.state ≠ 4)
    let s := s.prunePushes
    let (phase, s) := if first then s.takeFree else (s.aeloon.alpPhase, s)
    let s := s.onAeloon fun a => { a with state := 4, alpOk := true, sfc := if first then 0 else a.sfc + 1, alpPhase := phase % 256
                                          queue := a.queue ++ a.nextQueue, nextQueue := [] }
    let s := s.setReady 6 true
    let owed := s.wheel.owed
    let s := match owed with
      | some (e, q) => (s.onWheel fun w => { w with owed := none }).applyCorrection e q
      | none => s
    let down := bitsAt s.aeloon.mapCfg.toNat 0 8
    let map := s.slotMap down (bitsAt s.aeloon.mapCfg.toNat 8 5)
    let s := s.onAeloon fun a => { a with
      units := down, nodes := tmap {} (fun x => { x with units := 0 }) a.nodes }
    let s := map.foldl (fun s x => s.onNode x.1 fun y => { y with units := x.2 }) s
    let s := if !first && decide (s.aeloon.sfc.toNat % 1024 = 0) then (joinedNodes s).foldl (fun s n => s.sendRange n) s else s
    s.sendBeacon (match owed with
      | some (e, _) => decide (64 < e.natAbs)
      | none => false)

/-! ### The downlink slot (R440, R457, R459) -/

/-- Pushes that may put data into this frame: every action, and the first configuration not yet answered. -/
def dataPushes (ps : List Push) : List Push :=
  (ps.filter fun p => !pushConfig p.inner) ++ (ps.filter fun p => pushConfig p.inner).take 1

/-- Fill room with push data: the chunks, and how far each push has come. -/
def fillPushes : Nat → List Push → List Chunk × List (Nat × Nat)
  | _, [] => ([], [])
  | room, p :: ps =>
    let left := p.data.length - p.sent
    if left = 0 then fillPushes room ps
    else if room < 11 then ([], [])
    else
      let n := min left (room - 10)
      let head := p.order 0 p.sent
      let (cs, sent) := fillPushes (room - 10 - n) ps
      ({ head with body := head.body ++ (p.data.drop p.sent).take n } :: cs, (p.slot, p.sent + n) :: sent)

/-- MANAGER_DOWNLINK_TRANSMIT. [DESIGN CHOICE, log 98] -/
def State.downlink (s : State) : State :=
  if !s.isManager || decide (s.aeloon.state ≠ 4) || !s.alRuns || s.halterOn then s
  else
    let a := s.aeloon
    let again := !a.ackDue.isEmpty
    let room := 8 * a.units
    let (fit, wait) := fitChunks room ((if again then a.kept else []) ++ a.queue)
    let (data, sent) := fillPushes (if wait.isEmpty then room - chunksLen fit else 0) (dataPushes a.pushes)
    let cs := fit ++ data
    let s := if again then s.alCount 0 4 else s
    let payload := padPayload room (cs.flatMap Chunk.bytes)
    s.onAeloon fun a => { a with
      queue := wait, kept := cs.filter Chunk.kept, ackDue := (a.nodes.filter fun x => x.2.joined).map (·.1)
      pushes := a.pushes.map fun p => match sent.find? fun x => decide (x.1 = p.slot) with
        | some x => { p with sent := x.2 }
        | none => p
      frame := frameBytes 0 2 (if again then 2 else 0) payload 0 (a.sfc.toNat % 4096) }

/-! ### Slices upward (R451, R452) -/

/-- The whole slice, once every byte that its header's RECORDS asks for is in. -/
def SliceIn.whole (x : SliceIn) : Option (List Byte) :=
  let bs := joinParts x.parts
  let n := 64 + 8 * leAt bs 24 4
  if bs.length < 64 ∨ bs.length < n then none else some (bs.take n)

/-- Node 0 may still open the rack snapshot of a strike: it is being built, or waits for its check. -/
def State.rackComing (s : State) (c stamp : Nat) : Bool :=
  (match (s.course c).snap with
    | some n => decide (stampOf n.count n.angle = stamp)
    | none => false)
  || s.tack.checkQ.any fun x => decide (x.1 = c) && decide (leAt (s.halfHeader c x.2) 8 8 = stamp)

def State.setSlice (s : State) (n c : Nat) (x : SliceIn) : State := s.onNode n fun y => { y with slices := tset {} y.slices c x }

/-- A slice that is complete goes into its rack snapshot, waits for it to open, or is late; of one still under way
the records that have come are written (R452). -/
def State.settleSlice (s : State) (n c : Nat) (force : Bool) : State :=
  let x := tget {} (s.node n).slices c
  if x.done then s
  else match x.whole with
    | none => s.sliceRecords n c (joinParts x.parts)
    | some bs =>
      let stamp := leAt bs 8 8
      let isOpen := (s.course c).merges.any fun m => decide (stampOf m.count m.angle = stamp)
      if !force && !isOpen && s.rackComing c stamp then s
      else ((s.setSlice n c { x with done := true, parts := [] }).alCount n 8).sliceArrived n c bs

/-- After a block check, slices that waited for their rack snapshot are taken. [DESIGN CHOICE, log 105] -/
def State.settleSlices (s : State) : State :=
  s.aeloon.nodes.foldl (fun s x => x.2.slices.foldl (fun s y => s.settleSlice x.1 y.1 false) s) s

/-- A SLICE chunk: a newer SEQUENCE of the course discards the bytes of the one before (R451). -/
def State.takeSlice (s : State) (n : Nat) (body : List Byte) : State :=
  let c := leAt body 0 1
  let seq := leAt body 1 2
  let off := leAt body 3 3
  if 16 ≤ c then s
  else
    let x := tget {} (s.node n).slices c
    let known := decide (x ≠ {})
    let newer := decide ((seq + 65536 - x.seq) % 65536 < 32768)
    if known && decide (x.seq ≠ seq) && !newer then s
    else
      let s := if known && decide (x.seq ≠ seq) then s.settleSlice n c true else s
      let x : SliceIn := if known && decide (x.seq = seq) then x else { seq := seq }
      if x.done then
        if x.lost.any fun n => decide (n ≤ off + (body.drop 6).length) then
          (s.setSlice n c { x with lost := none }).onCourse c fun k => { k with lateSlices := satInc k.lateSlices }
        else s
      else (s.setSlice n c { x with parts := addPart x.parts off (body.drop 6) }).settleSlice n c false

/-! ### Slot frames -/

/-- The manager measures d: 2d is the frame's arrival less its slot time, in sixteenths of a tick; the
mean of the last 16 (R437). [DESIGN CHOICE, log 93] -/
def State.measure (s : State) (n twoD : Nat) : State :=
  s.onNode n fun x =>
    let ds := (twoD :: x.ds).take 16
    { x with ds := ds, d := BitVec.ofNat 16 (min 65535 (divRound (ds.foldl (· + ·) 0) (2 * ds.length))) }

/-- d has moved by more than 0.5 ns, which is 2.048 sixteenths of a tick, since it was last sent. -/
def ANode.moved (x : ANode) : Bool :=
  match x.dSent with
  | some d => decide (3 ≤ max d x.d.toNat - min d x.d.toNat)
  | none => true

/-- One chunk of a worker's frame. -/
def State.upChunk (s : State) (n : Nat) (c : Chunk) : State :=
  match c.kind with
  | 1 => s.takeSlice n c.body
  | 2 => s.takeMbox (4 * n + leAt c.body 0 1 % 4) c.body
  | 3 => s.onNode n fun x => { x with ready := BitVec.ofNat 32 (leAt c.body 0 4), boot := BitVec.ofNat 32 (leAt c.body 4 4) }
  | 5 => s.takePushAck n c.body
  | _ => s

/-- The first frame of a granted worker has passed: it has joined (R445, R462). [DESIGN CHOICE, log 91] -/
def State.joinDone (s : State) (n : Nat) : State :=
  let x := s.node n
  let fresh := decide (x.bootSeen ≠ some x.boot)
  let s := s.postJoin n 1 x.gen.toNat fresh x.boot.toNat x.nonce.toNat
  (s.onNode n fun x => { x with bootSeen := some x.boot, denied := 0, courses := if fresh then [] else x.courses
                                points := if fresh then [] else x.points, pole := if fresh then [] else x.pole }).sendRange n

/-- SLOT_FRAME_RECEIVED (R430, R437, R445). -/
def State.slotFrame (s : State) (n : Nat) (bytes : List Byte) (codeErr : Bool) (twoD : Nat) : State :=
  let x := s.node n
  if !s.isManager || decide (s.aeloon.state ≠ 4) || !s.alUnits || decide (n = 0) || decide (31 < n) || decide (x.units = 0) || !x.slotted then s
  else
    let cls := frameClass bytes codeErr n 2 n (4096 * x.gen.toNat + s.aeloon.sfc.toNat % 4096)
    let s := s.countFrame n cls
    if cls ≠ 0 then s
    else
      let s := (s.onNode n fun x => { x with joined := true, granted := none, missRun := 0, heard := true, lastSfc := s.aeloon.sfc }).measure n twoD
      let s := if bitAt (leAt bytes 1 1) 0 then s.onAeloon fun a => { a with ackDue := a.ackDue.filter (· != n) } else s
      let s := (chunksOf bytes).foldl (fun s c => s.upChunk n c) s
      if !x.joined then s.joinDone n
      else if (s.node n).moved then s.sendRange n
      else s

end Sys2Proof.Machine
end

