-- ==== Sys2Proof/Machine/Worker.lean ====
section
/-! DEFINITION. The worker's end of the Aeloon cascade (10): the marks on ALP (R434), beacons and the
angle (R436, R448), claims (R442 to R446), its slot (R428, R439, R440, R450), and the downlink with the
pushes it stages or runs (R441, R456 to R459). -/
namespace Sys2Proof.Machine

/-- The worker takes part: enabled, its slot number not 0, its units sound (R420 to R422). -/
def State.workerOn (s : State) : Bool := s.isWorker && s.alRuns && !s.aeloon.slotBad

/-- Joined, or granted and on its way (R445). -/
def State.inSlot (s : State) : Bool := decide (s.aeloon.state = 4) || s.aeloon.joinSlots.isSome

/-! ### Departure (R448) -/

/-- Every kept chunk and uplink copy goes, the manager's mailbox party is reset, RDY_AELOON falls. -/
def State.depart (s : State) (next : Nat) : State :=
  let was := decide (s.aeloon.state = 4)
  let s := if was then (s.alCount 0 7).resetBoxes 0 else s
  let s := s.onAeloon fun a => { a with
    state := next, units := 0, queue := [], kept := [], resend := false, outstanding := false, uplinks := [], joinSlots := none, firstFrame := false
    gotDown := false, backoff := 0, pushSeen := none, staged := a.staged.filter (·.waits) }
  let s := s.onTack fun k => { k with courses := tmap {} (fun c => { c with copies := c.copies.filter fun x => !x.2 }) k.courses }
  let s := courseNumbers.foldl (fun s c => s.releasePosts c) s
  (s.onCore fun c => { c with pushResults := [] }).setReady 6 false

/-- AL_CTRL as written takes effect; ENABLE starts or stops the worker (R465). -/
def State.workerControl (s : State) : State :=
  let s := s.onAeloon fun a => { a with ctrl := a.ctrlReg, mapCfg := a.mapCfgReg }
  if !bitAt s.aeloon.ctrl.toNat 0 then (if s.aeloon.state = 0 then s else s.depart 0)
  else if s.aeloon.state = 0 && !s.aeloon.slotBad then s.onAeloon fun a => { a with state := 1 }
  else s

/-- SUPERFRAME_START: register writes take effect; the manager sends its beacon (R425, R465). -/
def State.superframe (s : State) : State :=
  if s.isWorker then s.workerControl
  else
    let s := s.onAeloon fun a => { a with ctrl := a.ctrlReg, mapCfg := a.mapCfgReg }
    if s.isManager then s.managerFrame else s

/-- So many beacons have been missed (R466). -/
def State.missBeacons (s : State) (k : Nat) : State :=
  s.onAeloon fun a => { a with ctr := tmod 0 a.ctr 3 fun c => satAdd c k, missedRun := a.missedRun + k }

/-- A valid beacon: those of the superframes since the last one that no event has told were missed too (R466). A count
that has not risen is that of a manager started anew. -/
def State.countMissed (s : State) (sfc : Nat) : State :=
  let old := s.aeloon.sfc.toNat
  let gap := sfc - old - 1
  (if s.aeloon.heardBeacon && decide (old < sfc) then s.missBeacons (gap - s.aeloon.missedRun) else s).onAeloon fun a =>
    { a with heardBeacon := true, missedRun := 0 }

/-- BEACON_LOSS: eight superframes without a valid beacon (R448, R466). [DEDUCED, log 92; DESIGN CHOICE, log 102] -/
def State.beaconLoss (s : State) : State :=
  if !s.workerOn then s
  else
    let s := s.missBeacons (8 - s.aeloon.lost)
    let s := s.onAeloon fun a => { a with lost := 0, alpOk := false }
    if s.inSlot then s.depart 1 else s

/-! ### The marks on ALP (R434) -/

/-- ALP_MARK: a low of 120 ns to 180 ns ended at `endLow`, `pulses` rising edges after the last one. The
mark lies 100 ns before the end; d and RESID back from it lies the manager's cycle start. [DESIGN CHOICE, log 100] -/
def State.alpMark (s : State) (endLow pulses : Nat) : State :=
  if !s.workerOn then s
  else
    let ratio : Rat := match s.aeloon.lastMark with
      | some l => if pulses = 0 ∨ endLow ≤ l then s.aeloon.ratio else ((endLow - l : Nat) : Rat) / ((pulses : Rat) * 256 / 10)
      | none => s.aeloon.ratio
    let s := s.onAeloon fun a => { a with ratio := ratio, lastMark := some endLow, alpOk := true }
    let start : Rat := (endLow : Rat) - 256 / 10 - ((s.aeloon.d.toNat : Nat) : Rat) / 16 - ((s.aeloon.resid : Nat) : Rat) * ratio
    s.edge 5 start.floor.toNat

/-! ### Beacons (R431, R436, R440, R442, R448) -/

/-- The acknowledge of the worker's last frame (R440, R445). -/
def State.takeAck (s : State) (ok : Bool) : State :=
  if !s.aeloon.outstanding then s
  else if !ok then s.onAeloon fun a => { a with outstanding := false, resend := true }
  else
    let whole := s.aeloon.uplinks.filter fun u => decide (u.bytes.length ≤ u.sent)
    let s := whole.foldl (fun s u => ((s.alCount 0 8).onCourse u.course fun k =>
      { k with copies := k.copies.filter fun x => !(x.1 == u.half && x.2) }).releasePosts u.course) s
    let s := s.onAeloon fun a => { a with
      outstanding := false, resend := false, kept := [], firstFrame := false, uplinks := a.uplinks.filter fun u => decide (u.sent < u.bytes.length) }
    if s.aeloon.state = 3 ∧ s.aeloon.joinSlots.isSome then
      (s.onAeloon fun a => { a with state := 4, joinSlots := none, dups := 0, dupSlot := false }).setReady 6 true
    else s

/-- The claim waits so many superframes from now. -/
def State.backOff (s : State) (n : Nat) : State := s.onAeloon fun a => { a with state := 2, backoff := n, joinSlots := none }

/-- A random wait of 1 to 32 superframes (R443). [DESIGN CHOICE, log 101] -/
def State.randomWait (s : State) : State := let (v, s) := s.takeFree; s.backOff (1 + v % 32)

/-- The waits of a worker that is not joined, one superframe on. -/
def State.joinWaits (s : State) : State :=
  match s.aeloon.state, s.aeloon.joinSlots with
  | 3, some k => if k ≤ 1 then (s.onAeloon fun a => { a with kept := [], resend := false }).randomWait else s.onAeloon fun a => { a with joinSlots := some (k - 1) }
  | 3, none => s.onAeloon fun a => if a.backoff ≤ 1 then { a with state := 1, backoff := 0 } else { a with backoff := a.backoff - 1 }
  | 2, _ => s.onAeloon fun a => if a.backoff ≤ 1 then { a with state := 1, backoff := 0 } else { a with backoff := a.backoff - 1 }
  | _, _ => s

/-- A cycle beacon: the manager's wheel state, cycle count and RESID (R41 to R43). -/
def State.takeCycle (s : State) (count st res : Nat) : State :=
  let prev := s.wheelReported
  let ws := if st = 0 then WheelState.locked else if st = 1 then WheelState.holdover else WheelState.free
  let s := s.onWheel fun w => { w with mgrState := ws, mgrCount := if w.count.toNat = count then none else some (BitVec.ofNat 48 count) }
  let s := s.onAeloon fun a => { a with resid := res }
  if s.wheelReported = prev then s else s.postPhase prev 8 0

/-- A difference of angles brought within half a cycle. -/
def wrapAngle (d : Rat) : Rat := d - 65536 * ((d + 32768) / 65536).floor

/-- A worker LOCKED on marks follows the beacon: a step or a hold beyond 64 au or under STEP, else a slew (R436).
[DEDUCED, log 92] -/
def State.followBeacon (s : State) (angle rate arrival : Nat) (step : Bool) : State :=
  if s.wheel.state ≠ .locked || (s.wheel.motion matches .hold) || decide (rate = 0) then s
  else
    let p := (rate : Rat) * s.aeloon.ratio
    let p := if p < 1 then 1 else p
    let there := (angle : Rat) / 65536 + ((s.aeloon.d.toNat : Nat) : Rat) / 16 * 65536 / p
    let diff := wrapAngle (there - s.wheel.angleNear arrival)
    if step || decide (64 < diff) || decide (diff < -64) then
      let s := s.jump diff (diff + 1 / 2).floor false
      match s.wheel.motion with
      | .hold => s
      | _ => s.anchorNow (.slew 0 p)
    else s.anchorNow (.slew diff p)

/-- BEACON_RECEIVED: its bytes and the instant its start symbol arrived. [DESIGN CHOICE, log 103] -/
def State.beacon (s : State) (bytes : List Byte) (codeErr : Bool) (arrival : Nat) : State :=
  if !s.isWorker then s
  else
    let s := s.workerControl
    if !s.workerOn then s
    else
      let cls := if bytes.length = 64 then frameClass bytes codeErr 0 0 0 0 else 2
      let s := s.countFrame 0 cls
      if cls ≠ 0 then
        (((s.missBeacons 1).takeAck false).onAeloon fun a => { a with lost := a.lost + 1, units := 0, gotDown := false, joinOpen := false }).joinWaits
      else
        let p := framePayload bytes
        let flags := leAt p 18 1
        let node := s.core.node.toNat
        let s := (s.countMissed (leAt p 0 4)).onAeloon fun a => { a with
          lost := 0, sfc := BitVec.ofNat 32 (leAt p 0 4), rate := BitVec.ofNat 32 (leAt p 8 4), gotDown := false
          joinOpen := bitAt flags 3, units := leAt p (24 + node) 1 }
        let s := s.takeAck (bitAt (leAt p 20 4) node)
        let s := s.joinWaits
        let s := if bitAt flags 2 then s.takeCycle (leAt p 12 6) (bitsAt flags 0 2) (leAt p 19 1) else s
        let s := s.followBeacon (leAt p 4 4) (leAt p 8 4) arrival (bitAt flags 4)
        if s.aeloon.state = 4 ∧ s.aeloon.units = 0 then s.depart 1 else s

/-! ### Claims (R442, R443) -/

/-- JOIN_CLAIM: the join frame goes out, and comes back as sent or collided. [DESIGN CHOICE, log 101] -/
def State.joinClaim (s : State) (collide : Bool) : State :=
  if !s.workerOn || s.halterOn || decide (s.aeloon.state ≠ 1) || !s.aeloon.joinOpen then s
  else
    let n := s.core.node.toNat
    let s := s.onAeloon fun a => { a with frame := frameBytes n 1 0 ([BitVec.ofNat 8 n, 0, 0, 0] ++ leBytes 4 dieNonce) n 0, joinOpen := false }
    if collide then (s.alCount 0 5).randomWait else s.onAeloon fun a => { a with state := 3, backoff := 2, joinSlots := none }

/-! ### The worker's slot (R428, R439, R440, R450) -/

/-- SLICE chunks into the room left, oldest copy first, with the copies as far as they have come. -/
def fillSlices : Nat → List Uplink → List Chunk × List Uplink
  | _, [] => ([], [])
  | room, u :: us =>
    let left := u.bytes.length - u.sent
    if left = 0 then let (cs, vs) := fillSlices room us; (cs, u :: vs)
    else if room < 9 then ([], u :: us)
    else
      let n := min left (room - 8)
      let (cs, vs) := fillSlices (room - 8 - n) us
      ({ kind := 1, body := [BitVec.ofNat 8 u.course] ++ leBytes 2 u.seq ++ leBytes 3 u.sent ++ (u.bytes.drop u.sent).take n } :: cs,
       { u with sent := u.sent + n } :: vs)

/-- A kept SLICE chunk whose copy has been abandoned goes no further (R451). -/
def State.keptStill (s : State) (c : Chunk) : Bool :=
  decide (c.kind ≠ 1) || s.aeloon.uplinks.any fun u => decide (u.course = leAt c.body 0 1) && decide (u.seq % 65536 = leAt c.body 1 2)

/-- STATUS (R438, R439). -/
def State.statusChunk (s : State) : Chunk :=
  { kind := 3, body := leBytes 4 s.core.ready.toNat ++ leBytes 4 s.core.bootId.toNat ++ [BitVec.ofNat 8 s.wheel.state.code, 0, 0, 0] }

/-- Results of pushed jobs become PUSH_ACK chunks (R457, R459). -/
def State.queueResults (s : State) : State :=
  let acks := s.core.pushResults.map fun r =>
    ({ kind := 5, body := [BitVec.ofNat 8 r.1, if r.2.1 = 0 then 2 else 3] ++ leBytes 2 r.2.1 ++ payload16 r.2.2.2 } : Chunk)
  (s.onAeloon fun a => { a with queue := a.queue ++ acks }).onCore fun c => { c with pushResults := [] }

/-- WORKER_SLOT_TRANSMIT. -/
def State.slotTransmit (s : State) : State :=
  if !s.workerOn || s.halterOn || !s.inSlot || decide (s.aeloon.units = 0) then s
  else
    let s := s.queueResults
    let a := s.aeloon
    let room := 8 * a.units
    let old := if a.resend then a.kept.filter fun c => s.keptStill c else []
    let status := if a.firstFrame || decide (a.sfc.toNat % 64 = 0) then [s.statusChunk] else []
    let (fit, wait) := fitChunks room (old ++ status ++ a.queue)
    let (slices, ups) := if wait.isEmpty && decide (a.state = 4) then fillSlices (room - chunksLen fit) a.uplinks else ([], a.uplinks)
    let cs := fit ++ slices
    let n := s.core.node.toNat
    let s := if a.resend then s.alCount 0 4 else s
    s.onAeloon fun a => { a with
      queue := wait.filter fun c => decide (c.kind ≠ 3), kept := cs.filter Chunk.kept, uplinks := ups, resend := false, outstanding := true
      frame := frameBytes n 2 (b2n a.gotDown + 2 * b2n a.resend) (padPayload room (cs.flatMap Chunk.bytes)) n (4096 * a.gen.toNat + a.sfc.toNat % 4096) }

/-! ### The downlink (R441, R445, R446, R456 to R459) -/

/-- GRANT to this node with its nonce. -/
def State.takeGrant (s : State) (body : List Byte) : State :=
  if leAt body 0 1 ≠ s.core.node.toNat || leAt body 4 4 ≠ dieNonce || decide (s.aeloon.state ≠ 3) then s
  else
    let gen := leAt body 2 1 % 16
    if leAt body 1 1 = 0 then
      if s.aeloon.joinSlots.isSome && decide (s.aeloon.gen.toNat = gen) then s
      else s.onAeloon fun a => { a with gen := BitVec.ofNat 4 gen, joinSlots := some 3, firstFrame := true, kept := [], resend := false, outstanding := false, dups := 0 }
    else
      let s := (s.alCount 0 6).onAeloon fun a => { a with dups := a.dups + 1 }
      if 8 ≤ s.aeloon.dups then (s.backOff 8000).onAeloon fun a => { a with dupSlot := true } else s.backOff 64

def State.pushAck (s : State) (num state status : Nat) (payload : List Byte) : State :=
  s.send { kind := 5, body := [BitVec.ofNat 8 num, BitVec.ofNat 8 state] ++ leBytes 2 status ++ payload16 payload }

def State.onStaged (s : State) (num : Nat) (f : Staged → Staged) : State :=
  s.onAeloon fun a => { a with staged := a.staged.map fun x => if x.num = num then f x else x }

/-- The job a push stands for on this worker. -/
def pushedJob (s : State) (num inner : Nat) (data image : List Byte) : Job :=
  { slot := 512 + num, w0 := BitVec.ofNat 32 inner, words := (List.range 15).map fun i => pushWord data (i + 1), ring := 8
    order := s.link.nextOrder, started := pushConfig inner, read := true, image := image }

def State.addJob (s : State) (j : Job) : State := s.onLink fun l => { l with jobs := l.jobs ++ [j], nextOrder := l.nextOrder + 1 }

/-- The pairs of a REG_SET image (R456). -/
def regPairs : List Nat → List (Nat × Nat)
  | a :: b :: r => (a, b) :: regPairs r
  | _ => []

/-- A load pushed to this worker is validated; what it would change, or why it fails (R457). [DEDUCED, log 71] -/
def State.validatePush (s : State) (slot inner : Nat) (data image : List Byte) : (Nat × List Byte) ⊕ Change :=
  if !s.descOk inner (pushWord data) then .inl (2, [])
  else match s.readLoad inner slot (pushWord data) image with
    | .inl (st, t, p, i) => .inl (st, loadFault t p i)
    | .inr c =>
      let base := (s.pendingChanges ++ s.stagedChanges).foldl Plan.apply s.plan
      match (s.withStagedRegs.takeFeasible base [c]).2 with
      | (_, f) :: _ => .inl (f.1, loadFault f.2.1 f.2.2.1 f.2.2.2)
      | [] => .inr c

/-- A configuration push is complete: staged, or failed. -/
def State.stagePush (s : State) (num inner : Nat) (data image : List Byte) : State :=
  let job := pushedJob s num inner data image
  if inner = 0x2C then
    let ps := regPairs (wordsOf image)
    if image.length % 8 ≠ 0 || ps.any fun p => !regSetOk p.1 then s.pushAck num 3 3 []
    else ((s.addJob job).onStaged num fun x => { x with waits := true, regs := ps, at' := s.now }).pushAck num 1 0 []
  else match s.validatePush (512 + num) inner data image with
    | .inl (st, pl) => s.pushAck num 3 st pl
    | .inr c => ((s.addJob job).onStaged num fun x => { x with waits := true, change := some c, at' := s.now }).pushAck num 1 0 []

/-- Why an action pushed to this worker cannot start (R360). -/
def State.actionFault (s : State) (inner : Nat) (w : Nat → Nat) : Option Nat :=
  if !s.descOk inner w then some 2
  else if s.halterOn && needsField inner then some 7
  else if inner = 0x30 ∧ (bitsAt (w 1) 0 8 = 0 ∨ 7 < bitsAt (w 1) 0 8) then some 0x603
  else none

/-- An action push is complete: it becomes a job fetched now (R459). -/
def State.runPush (s : State) (num inner : Nat) (data image : List Byte) : State :=
  let job := pushedJob s num inner data image
  let fault := s.actionFault inner job.word
  let s := s.addJob job
  match fault with
  | some st => s.complete job.slot st (s.rejectPayload job)
  | none => s

/-- Push data has come in; a push whose data are complete is taken once. [DESIGN CHOICE, log 70] -/
def State.takeData (s : State) (num inner off : Nat) (bs : List Byte) : State :=
  let s := if s.aeloon.staged.any fun x => decide (x.num = num) && decide (x.inner = inner) then s
    else s.onAeloon fun a =>
      let l := a.staged.filter fun x => decide (x.num ≠ num)
      { a with staged := l.drop (l.length - 127) ++ [({ num := num, inner := inner } : Staged)] }
  let s := s.onStaged num fun x => if x.taken then x else { x with parts := addPart x.parts off bs }
  match s.aeloon.staged.find? fun x => decide (x.num = num) with
  | none => s
  | some x =>
    let data := joinParts x.parts
    let n := pushImageLen inner (pushWord data) (decide (64 ≤ (s.point (bitsAt (pushWord data 1) 0 15)).src))
    if x.taken || decide (data.length < 60 + n) then s
    else
      let s := s.onStaged num fun x => { x with taken := true, parts := [] }
      let image := (data.drop 60).take n
      if pushConfig inner then s.stagePush num inner data image
      else if pushAllowed inner then s.runPush num inner data image
      else s.pushAck num 3 0x502 []

/-- A staged push is discarded: an abort, or no commit in time (R458). -/
def State.discardPush (s : State) (num : Nat) : State :=
  if s.aeloon.staged.any fun x => decide (x.num = num) && x.waits then (s.onStaged num Staged.settled).dropJob (512 + num) else s

/-- 125 µs in 256 MHz ticks. -/
def superframeTicks : Nat := 32000

/-- PUSH_STAGE_EXPIRY: no commit within 8,000 superframes (R458). -/
def State.stageExpiry (s : State) (num : Nat) : State :=
  if s.aeloon.staged.any fun x => decide (x.num = num) && x.commit.isNone && decide (x.at' + 8000 * superframeTicks ≤ s.now) then s.discardPush num else s

/-- A PUSH chunk of any node shows how far the push numbers have come: finished entries 128 behind are forgotten, so
that a number used again names a new push. [DESIGN CHOICE, log 104] -/
def State.seePush (s : State) (num : Nat) : State :=
  let behind (a b : Nat) : Nat := (a + 256 - b) % 256
  let newest := match s.aeloon.pushSeen with
    | some k => if behind num k < 128 then num else k
    | none => num
  s.onAeloon fun a => { a with pushSeen := some newest, staged := a.staged.filter fun x => x.waits || decide (behind newest x.num < 128) }

/-- A PUSH chunk to this node or to all. [DESIGN CHOICE, log 104] -/
def State.takePush (s : State) (body : List Byte) : State :=
  let num := leAt body 1 1
  let s := s.seePush num
  let arg := leAt body 4 4
  if leAt body 0 1 ≠ 0 ∧ leAt body 0 1 ≠ s.core.node.toNat then s
  else match leAt body 2 1 with
    | 0 => s.takeData num (leAt body 3 1) arg (body.drop 8)
    | 1 => s.onStaged num fun x => if x.waits && x.commit.isNone then { x with commit := some arg } else x
    | 2 => s.discardPush num
    | _ => s

/-- One chunk of the downlink frame. -/
def State.downChunk (s : State) (c : Chunk) : State :=
  match c.kind with
  | 2 => if s.aeloon.state = 4 then s.takeMbox (leAt c.body 0 1 % 4) c.body else s
  | 4 => if s.inSlot then s.takePush c.body else s
  | 6 => s.takeGrant c.body
  | 7 => if leAt c.body 0 1 = s.core.node.toNat then s.onAeloon fun a => { a with d := BitVec.ofNat 16 (leAt c.body 2 2) } else s
  | _ => s

/-- DOWNLINK_FRAME_RECEIVED (R430). -/
def State.downFrame (s : State) (bytes : List Byte) (codeErr : Bool) : State :=
  if !s.workerOn || decide (s.aeloon.state = 0) then s
  else
    let cls := frameClass bytes codeErr 0 2 0 (s.aeloon.sfc.toNat % 4096)
    let s := s.countFrame 0 cls
    if cls ≠ 0 then s
    else (chunksOf bytes).foldl (fun s c => s.downChunk c) (s.onAeloon fun a => { a with gotDown := true })

end Sys2Proof.Machine
end

