-- ==== Sys2Proof/Machine/Image.lean ====
section
/-! DEFINITION. JOB_IMAGE_READ_DONE (R363): the one read of a job's image or WBUF returns. -/
namespace Sys2Proof.Machine

/-- The table a load writes, for the payload of its failure (R379). -/
def loadTable (op : Nat) : Nat := if op = 1 then 0 else if op = 2 then 3 else op + 1

/-- The read failed: DMA_ERROR, and nothing changes. -/
def State.readFailed (s : State) (j : Job) : State :=
  if j.opcode = 0x38 then s.stageFailed j.slot
  else if 1 ≤ j.opcode ∧ j.opcode ≤ 4 then s.complete j.slot 0xC (loadFault (loadTable j.opcode) none none)
  else if j.isWire then s.failWire j.slot 0xC
  else if j.opcode = 0x28 then
    match s.push? j.slot with
    | some p => (s.dropPush j.slot).complete j.slot 0xC [] p.detail
    | none => s.complete j.slot 0xC
  else s.complete j.slot 0xC

/-- The bytes are in: each kind of job takes them, a load in its turn. -/
def State.imageIn (s : State) (j : Job) (data : List Byte) : State :=
  if 1 ≤ j.opcode ∧ j.opcode ≤ 4 then s
  else if j.opcode = opWriteTarget ∨ j.opcode = opRawXfer then s.enqueueField j.slot
  else if j.opcode = 0x30 then s.tallyImage j data
  else if j.opcode = 0x38 then s.stageImage { j with image := data }
  else if j.opcode = 0x28 then s.pushImage j data
  else s

/-- The read returns, where it could be made (R345); a job aborted while it read ends now, whatever came (R371). -/
def State.imageRead (s : State) (slot : Nat) (ok : Bool) (data : List Byte) : State :=
  match s.job? slot with
  | none => s
  | some j =>
    if decide (512 ≤ slot) || !s.readingImage j || !(s.readOpen j || j.aborted) then s
    else if j.aborted then s.endAborted j
    else if !ok then (s.readFailed j).settleLoads
    else
      let s := s.onJob slot fun j => { j with read := true, image := data }
      (s.imageIn j data).settleLoads

end Sys2Proof.Machine
end

