-- ==== Sys2Proof/Machine/Act.lean ====
section
/-! DEFINITION. What the meanings of the commands share: which die must be out of reset for a command to act, the
instant at which it acts, and the operations on a mailbox channel whether it is on the rail (0 to 15) or on the
cascade link (16 to 143). -/
namespace Sys2Proof.Machine

/-- A command leaves the queue of commands, the clock and the Sill's fuses as they stood: only SILL_PROGRAM_DONE
blows a fuse (R562, R572), and only the command's own instant moves the clock. [DESIGN CHOICE, log 109] -/
def State.keeping (r s : State) : State :=
  { r with pending := s.pending, now := s.now, sill := { r.sill with rows := s.sill.rows, half := s.sill.half } }

/-- A command that acts whether or not a die is in reset. -/
def always (t : Nat) (s : State) (f : State → State) : Result :=
  let s := s.advance t
  .next ((f s).keeping s)

/-- A command of the Beam die: while that die is in reset nothing of it acts (R525). -/
def onBeam (t : Nat) (s : State) (f : State → State) : Result :=
  let s := s.advance t
  .next (if s.core.up then (f s).keeping s else s)

/-- A command of the Cinch die, out of its reset (R524). -/
def onCinchDie (t : Nat) (s : State) (f : State → State) : Result :=
  let s := s.advance t
  .next (if s.cinch.up then (f s).keeping s else s)

/-- A command of the power entry that measures VIN, in µV: beyond 110 V nothing is specified (R596).
[DESIGN CHOICE, log 108] -/
def onEntry (t vin : Nat) (s : State) (f : State → State) : Result :=
  if 110000000 < vin then .fault .beyondRatings else onCinchDie t s f

/-- The end of a programming operation: it alone changes the fuse array (R572). [DESIGN CHOICE, log 109] -/
def programFuse (t : Nat) (s : State) (f : State → State) : Result :=
  let s := s.advance t
  let r := f s
  .next { r with pending := s.pending, now := s.now }

/-! ### Snapshots -/

/-- SNAPSHOT_PUBLISH as LAST_IN: the last due point of the strike is resolved (R314). -/
def State.lastIn (s : State) (c : Nat) : State :=
  match (s.course c).snap with
  | some n => if n.unresolved.isEmpty then s.publishBank c 1 else s
  | none => s

/-! ### Mailbox channels -/

/-- BAR0 address of a rail channel's registers (R393): 0x2100 and 0x3100, 32 bytes each; beyond channel 15 a
reserved address. -/
def chanBase (ch : Nat) : Nat := if ch < 8 then 0x2100 + 32 * ch else if ch < 16 then 0x3100 + 32 * (ch - 8) else 0x3FE0

/-- The serving firmware reads the inbound word (R398, R406, R417); a gate command in PLAIN mode is answered
REFUSED by the read. -/
def State.takeInbound (s : State) (ch : Nat) : State :=
  if ch < 16 then
    if ch = 8 ∧ !(s.chan 8).formal ∧ (s.serviceWord 8).any fun w => knownWord8 w.toNat then s.plainRefuse else s.firmwareRead ch
  else s.linkRead (ch - 16)

/-- The serving firmware acknowledges: on the rail with the code of its service (R395), on the link with `code`.
[DESIGN CHOICE, log 111] -/
def State.answerInbound (s : State) (ch : Nat) (code : BitVec 16) : State :=
  if ch < 16 then s.firmwareAnswer ch else s.linkAck (ch - 16) code

/-- The firmware posts an outbound word (R397, R417). -/
def State.postOutbound (s : State) (ch : Nat) (v : Word) : State :=
  if ch < 16 then s.firmwareOut ch v else s.linkPost (ch - 16) v

/-- Both words of a channel have waited past the limit (R412, R417). -/
def State.crossing (s : State) (ch : Nat) : State := if ch < 16 then s.crossTimeout ch else s.linkCross (ch - 16)

end Sys2Proof.Machine
end

