-- ==== Sys2Proof/Machine/ExecBreik.lean ====
section
/-! DEFINITION. The meanings of the commands of the Breik ports and their chains (02, 03): one definition per command, over the operations of the chapter. -/
namespace Sys2Proof.Machine

/-- BREIK_RETRY (R164). -/
def execBreikRetry (t : Nat) (port : Nat) (s : State) : Result :=
  onBeam t s fun s => s.breikRetry port

/-- BREIK_FRAME_RECEIVED (R117). -/
def execBreikFrameReceived (t : Nat) (port : Nat) (cal : Nat) (periods : List Nat) (lenBad : Bool) (s : State) : Result :=
  onBeam t s fun s => s.breikFrame port cal periods lenBad

/-- BREIK_RESPONSE_TIMEOUT (R88). -/
def execBreikResponseTimeout (t : Nat) (port : Nat) (s : State) : Result :=
  onBeam t s fun s => s.breikTimeout port

/-- WRITE_COMMIT_WINDOW_END (R71). -/
def execWriteCommitWindowEnd (t : Nat) (port : Nat) (s : State) : Result :=
  onBeam t s fun s => s.commitEnd port

/-- SPU_WINDOW_END (R71). -/
def execSpuWindowEnd (t : Nat) (port : Nat) (limitUnbroken : Bool) (s : State) : Result :=
  onBeam t s fun s => s.spuEnd port limitUnbroken

/-- ECHO_RECEIVED (R112). -/
def execEchoReceived (t : Nat) (port : Nat) (edge : Nat) (s : State) : Result :=
  onBeam t s fun s => s.echo port edge

/-- ECHO_TIMEOUT (R112). -/
def execEchoTimeout (t : Nat) (port : Nat) (s : State) : Result :=
  onBeam t s fun s => s.echoTimeout port

/-- PRESENCE_PULSE (R105). -/
def execPresencePulse (t : Nat) (port : Nat) (start : Nat) (width : Nat) (s : State) : Result :=
  onBeam t s fun s => s.presencePulse port start width

/-- PRESENCE_COUNT_END (R106). -/
def execPresenceCountEnd (t : Nat) (port : Nat) (s : State) : Result :=
  onBeam t s fun s => s.presenceEnd port

/-- DELAY_PROBE_REFLECTION (R107). -/
def execDelayProbeReflection (t : Nat) (port : Nat) (dt : Nat) (s : State) : Result :=
  onBeam t s fun s => s.probeReflection port dt

/-- DELAY_PROBE_TIMEOUT (R107). -/
def execDelayProbeTimeout (t : Nat) (port : Nat) (s : State) : Result :=
  onBeam t s fun s => s.probeTimeout port

/-- SEARCH_RESTART (R136). -/
def execSearchRestart (t : Nat) (port : Nat) (s : State) : Result :=
  onBeam t s fun s => s.searchRestart port

/-- UNSTABLE_RETRY (R155). -/
def execUnstableRetry (t : Nat) (port : Nat) (s : State) : Result :=
  onBeam t s fun s => s.unstableRetry port

/-- FENCE_STUCK (R157). -/
def execFenceStuck (t : Nat) (port : Nat) (lowUs : Nat) (s : State) : Result :=
  onBeam t s fun s => s.fenceAwl port 1 lowUs

/-- FENCE_CHATTER (R157). -/
def execFenceChatter (t : Nat) (port : Nat) (edges : Nat) (glitches : Nat) (s : State) : Result :=
  onBeam t s fun s => s.fenceChatter port edges glitches

/-- UNFENCE_TIMER (R160). -/
def execUnfenceTimer (t : Nat) (port : Nat) (s : State) : Result :=
  onBeam t s fun s => s.unfenceTimer port

/-- UNFENCE_LINE_CHECK_END (R161). -/
def execUnfenceLineCheckEnd (t : Nat) (port : Nat) (clkHigh : Bool) (dataHigh : Bool) (s : State) : Result :=
  onBeam t s fun s => s.lineCheckEnd port clkHigh dataHigh

/-- FENCE_INTERVAL_RESET (R160). -/
def execFenceIntervalReset (t : Nat) (port : Nat) (s : State) : Result :=
  onBeam t s fun s => s.intervalReset port

/-- SENT_FRAME_RECEIVED (R125). -/
def execSentFrameReceived (t : Nat) (port : Nat) (id : Nat) (cal : Nat) (periods : List Nat) (pause : Option Nat) (edge : Nat) (stop : Nat) (s : State) : Result :=
  onBeam t s fun s => s.sentFrame port id cal periods pause edge stop

/-- SPC_RESPONSE_TIMEOUT (R123). -/
def execSpcResponseTimeout (t : Nat) (port : Nat) (s : State) : Result :=
  onBeam t s fun s => s.spcTimeout port

end Sys2Proof.Machine
end

