-- ==== Sys2Proof/Machine/ExecBring.lean ====
section
/-! DEFINITION. The meanings of the commands of bring-up, resets and brown-out (13): one definition per command, over the operations of the chapter. -/
namespace Sys2Proof.Machine

/-- BEAM_DIE_RESET_EXIT (R525). -/
def execBeamDieResetExit (t : Nat) (roleSel : Nat) (slot : Nat) (s : State) : Result :=
  always t s fun s => s.beamExit roleSel slot

/-- FIRMWARE_VERIFIED (R583). -/
def execFirmwareVerified (t : Nat) (s : State) : Result :=
  onBeam t s fun s => s.firmwareVerified

/-- FOREMAN_G_READY (R529). -/
def execForemanGReady (t : Nat) (s : State) : Result :=
  onBeam t s fun s => s.foremanGReady

/-- ENGINE_SELFTEST_DONE (R128). -/
def execEngineSelftestDone (t : Nat) (port : Nat) (pass : Bool) (s : State) : Result :=
  onBeam t s fun s => s.engineTest port pass

/-- STORE_SELFTEST_DONE (R529). -/
def execStoreSelftestDone (t : Nat) (banks : Bool) (trace : Bool) (unit2 : Bool) (s : State) : Result :=
  onBeam t s fun s => s.storeTest banks trace unit2

/-- STITCH_SELFTEST_DONE (R236). -/
def execStitchSelftestDone (t : Nat) (unit : Nat) (pass : Bool) (s : State) : Result :=
  onBeam t s fun s => s.stitchSelftest unit pass

/-- FOREMAN_G_RESTART (R532). -/
def execForemanGRestart (t : Nat) (s : State) : Result :=
  onBeam t s fun s => s.restartG

/-- FOREMAN_S_RESTART (R532). -/
def execForemanSRestart (t : Nat) (s : State) : Result :=
  onBeam t s fun s => s.restartS

/-- BEAM_WARM_RESET (R546). -/
def execBeamWarmReset (t : Nat) (s : State) : Result :=
  onCinchDie t s fun s => s.warmReset

/-- BEAM_POWER_CYCLE (R546). -/
def execBeamPowerCycle (t : Nat) (s : State) : Result :=
  onCinchDie t s fun s => s.powerCycle

/-- BROWNOUT_WARNING (R552). -/
def execBrownoutWarning (t : Nat) (vinCode : Nat) (holdOk : Bool) (s : State) : Result :=
  onCinchDie t s fun s => s.brownoutWarning vinCode holdOk

/-- BROWNOUT_WARNING_CLEAR (R554). -/
def execBrownoutWarningClear (t : Nat) (s : State) : Result :=
  onCinchDie t s fun s => s.warningClear

/-- BROWN_OUT (R554). -/
def execBrownOut (t : Nat) (s : State) : Result :=
  onCinchDie t s fun s => s.brownOut

/-- BROWNOUT_COPY_DONE (R553). -/
def execBrownoutCopyDone (t : Nat) (s : State) : Result :=
  onBeam t s fun s => s.copyComplete.settleShip 4

/-- POWER_CYCLE_END (R526). -/
def execPowerCycleEnd (t : Nat) (s : State) : Result :=
  onCinchDie t s fun s => s.powerCycleEnd

end Sys2Proof.Machine
end

