-- ==== Sys2Proof/Machine/ExecCascade.lean ====
section
/-! DEFINITION. The meanings of the commands of the Aeloon cascade (10): one definition per command, over the operations of the chapter. -/
namespace Sys2Proof.Machine

/-- SUPERFRAME_START (R425). -/
def execSuperframeStart (t : Nat) (s : State) : Result :=
  onBeam t s fun s => s.superframe

/-- MANAGER_DOWNLINK_TRANSMIT (R440). -/
def execManagerDownlinkTransmit (t : Nat) (s : State) : Result :=
  onBeam t s fun s => s.downlink

/-- BEACON_RECEIVED (R436). -/
def execBeaconReceived (t : Nat) (bytes : List Byte) (codeErr : Bool) (arrival : Nat) (s : State) : Result :=
  onBeam t s fun s => s.beacon bytes codeErr arrival

/-- ALP_MARK (R434). -/
def execAlpMark (t : Nat) (endLow : Nat) (pulses : Nat) (s : State) : Result :=
  onBeam t s fun s => s.alpMark endLow pulses

/-- WORKER_SLOT_TRANSMIT (R428). -/
def execWorkerSlotTransmit (t : Nat) (s : State) : Result :=
  onBeam t s fun s => s.slotTransmit

/-- SLOT_FRAME_RECEIVED (R430). -/
def execSlotFrameReceived (t : Nat) (node : Nat) (bytes : List Byte) (codeErr : Bool) (twoD : Nat) (s : State) : Result :=
  onBeam t s fun s => s.slotFrame node bytes codeErr twoD

/-- DOWNLINK_FRAME_RECEIVED (R430). -/
def execDownlinkFrameReceived (t : Nat) (bytes : List Byte) (codeErr : Bool) (s : State) : Result :=
  onBeam t s fun s => s.downFrame bytes codeErr

/-- SLOT_MISSED (R447). -/
def execSlotMissed (t : Nat) (node : Nat) (s : State) : Result :=
  onBeam t s fun s => s.slotMissed node

/-- JOIN_CLAIM (R443). -/
def execJoinClaim (t : Nat) (collide : Bool) (s : State) : Result :=
  onBeam t s fun s => s.joinClaim collide

/-- JOIN_FRAME_RECEIVED (R444). -/
def execJoinFrameReceived (t : Nat) (bytes : List Byte) (codeErr : Bool) (s : State) : Result :=
  onBeam t s fun s => s.joinFrame bytes codeErr

/-- BEACON_LOSS (R448). -/
def execBeaconLoss (t : Nat) (s : State) : Result :=
  onBeam t s fun s => s.beaconLoss

/-- PUSH_STAGE_EXPIRY (R458). -/
def execPushStageExpiry (t : Nat) (num : Nat) (s : State) : Result :=
  onBeam t s fun s => s.stageExpiry num

end Sys2Proof.Machine
end

