-- ==== Sys2Proof/Machine/ExecCinch.lean ====
section
/-! DEFINITION. The meanings of the commands of Cinch (12): one definition per command, over the operations of the chapter. -/
namespace Sys2Proof.Machine

/-- CINCH_CONVERSION (R252). -/
def execCinchConversion (t : Nat) (ch : Nat) (code : Nat) (sampled : Nat) (s : State) : Result :=
  onCinchDie t s fun s => s.cinchConvert ch code sampled

/-- CINCH_RESET (R524). -/
def execCinchReset (t : Nat) (s : State) : Result :=
  always t s fun s => s.cinchReset

/-- CINCH_RESET_EXIT (R524). -/
def execCinchResetExit (t : Nat) (tmemUv : Nat) (s : State) : Result :=
  always t s fun s => s.cinchResetExit tmemUv

/-- CINCH_READY (R525). -/
def execCinchReady (t : Nat) (s : State) : Result :=
  onCinchDie t s fun s => s.cinchReady

/-- HK_REGULATION_LOSS (R529). -/
def execHkRegulationLoss (t : Nat) (s : State) : Result :=
  onCinchDie t s fun s => s.hkLoss

/-- SEAT_ASSERT (R500). -/
def execSeatAssert (t : Nat) (s : State) : Result :=
  always t s fun s => if s.cinch.up then s.seatAssert else s.onCinch fun c => { c with seatLow := true }

/-- SEAT_DEBOUNCE_EXPIRY (R500). -/
def execSeatDebounceExpiry (t : Nat) (s : State) : Result :=
  onCinchDie t s fun s => s.seatDebounced

/-- SEAT_REMOVAL (R502). -/
def execSeatRemoval (t : Nat) (s : State) : Result :=
  always t s fun s => if s.cinch.up then s.seatRemoved else s.onCinch fun c => { c with seatLow := false }

/-- VIN_OUT_OF_RANGE (R497). -/
def execVinOutOfRange (t : Nat) (vin : Nat) (s : State) : Result :=
  onEntry t vin s fun s => s.vinCheck vin

/-- PRECHARGE_START (R501). -/
def execPrechargeStart (t : Nat) (vin : Nat) (vout : Nat) (s : State) : Result :=
  onEntry t vin s fun s => s.prechargeStart vin vout

/-- PRECHARGE_DONE (R503). -/
def execPrechargeDone (t : Nat) (vin : Nat) (vout : Nat) (slope : Nat) (s : State) : Result :=
  onEntry t vin s fun s => s.prechargeDone vin vout slope

/-- PCH_ENERGY (R504). -/
def execPchEnergy (t : Nat) (s : State) : Result :=
  onCinchDie t s fun s => s.pchEnergyTrip

/-- PCH_TIME (R504). -/
def execPchTime (t : Nat) (s : State) : Result :=
  onCinchDie t s fun s => s.pchTimeTrip

/-- RAMP_COMPLETE (R506). -/
def execRampComplete (t : Nat) (s : State) : Result :=
  onCinchDie t s fun s => s.rampComplete

/-- GATE_FAIL (R507). -/
def execGateFail (t : Nat) (s : State) : Result :=
  onCinchDie t s fun s => s.gateFail

/-- PG_ASSERT (R506). -/
def execPgAssert (t : Nat) (vds : Nat) (s : State) : Result :=
  onCinchDie t s fun s => s.pgAssert vds

/-- PG_LATE (R506). -/
def execPgLate (t : Nat) (s : State) : Result :=
  onCinchDie t s fun s => s.pgIsLate

/-- LIMIT_ENTER (R500). -/
def execLimitEnter (t : Nat) (sense : Nat) (s : State) : Result :=
  onCinchDie t s fun s => s.limitEnter sense

/-- LIMIT_EXIT (R500). -/
def execLimitExit (t : Nat) (sense : Nat) (s : State) : Result :=
  onCinchDie t s fun s => s.limitExit sense

/-- FAST_TRIP (R509). -/
def execFastTrip (t : Nat) (sense : Nat) (s : State) : Result :=
  onCinchDie t s fun s => s.fastTripEvent sense

/-- OVERLOAD (R509). -/
def execOverload (t : Nat) (s : State) : Result :=
  onCinchDie t s fun s => s.overloadEvent

/-- TFET_HOT (R509). -/
def execTfetHot (t : Nat) (s : State) : Result :=
  onCinchDie t s fun s => s.tfetHotEvent

/-- FET_SHORT (R508). -/
def execFetShort (t : Nat) (vin : Nat) (vout : Nat) (s : State) : Result :=
  onEntry t vin s fun s => s.fetShortEvent vin vout

/-- FET_MODEL_STEP (R510). -/
def execFetModelStep (t : Nat) (vds : Nat) (sense : Int) (vin : Nat) (vout : Nat) (s : State) : Result :=
  onEntry t vin s fun s => s.fetStep vds sense vin vout

/-- TMEM_REFRESH (R514). -/
def execTmemRefresh (t : Nat) (s : State) : Result :=
  onCinchDie t s fun s => s.tmemRefresh

/-- MODEL_LOW (R511). -/
def execModelLow (t : Nat) (s : State) : Result :=
  onCinchDie t s fun s => s.modelLowEvent

/-- RESTART_CONDITION_MET (R513). -/
def execRestartConditionMet (t : Nat) (s : State) : Result :=
  onCinchDie t s fun s => s.restartMet

/-- FAULT_COUNT_RESET (R512). -/
def execFaultCountReset (t : Nat) (s : State) : Result :=
  onCinchDie t s fun s => s.faultCountReset

/-- CN_SOFT_WRITE (R516). -/
def execCnSoftWrite (t : Nat) (v : Word) (s : State) : Result :=
  onBeam t s fun s => s.hostWrite 0x7008 4 v

/-- LOAD_ON_WRITE (R517). -/
def execLoadOnWrite (t : Nat) (v : Word) (s : State) : Result :=
  onBeam t s fun s => s.hostWrite 0x7004 4 v

/-- CN_CLEAR (R518). -/
def execCnClear (t : Nat) (v : Word) (s : State) : Result :=
  onBeam t s fun s => s.hostWrite 0x700C 4 v

/-- PG_DEASSERT (R506). -/
def execPgDeassert (t : Nat) (s : State) : Result :=
  onCinchDie t s fun s => s.pgDeassert

end Sys2Proof.Machine
end

