-- ==== Sys2Proof/Machine/ExecGate.lean ====
section
/-! DEFINITION. The meanings of the commands of the gate, the Sill and firmware (14): one definition per command, over the operations of the chapter. -/
namespace Sys2Proof.Machine

/-- FW_STAGE (R585). -/
def execFwStage (t : Nat) (slot : Nat) (s : State) : Result :=
  onBeam t s fun s => s.fwStart slot 0x38

/-- FW_COMMIT (R586). -/
def execFwCommit (t : Nat) (slot : Nat) (s : State) : Result :=
  onBeam t s fun s => (s.fwStart slot 0x39).settleShip 4

/-- SG_CHALLENGE (R574). -/
def execSgChallenge (t : Nat) (s : State) : Result :=
  onBeam t s fun s => s.hostWrite 0xA000 4 1

/-- SG_VERIFY (R574). -/
def execSgVerify (t : Nat) (s : State) : Result :=
  onBeam t s fun s => s.hostWrite 0xA000 4 2

/-- SG_CLOSE (R577). -/
def execSgClose (t : Nat) (s : State) : Result :=
  onBeam t s fun s => s.hostWrite 0xA000 4 4

/-- CHALLENGE_EXPIRY (R574). -/
def execChallengeExpiry (t : Nat) (s : State) : Result :=
  onBeam t s fun s => s.challengeExpiry

/-- SESSION_IDLE_TIMEOUT (R577). -/
def execSessionIdleTimeout (t : Nat) (s : State) : Result :=
  onBeam t s fun s => s.sessionIdle

/-- SILL_PROGRAM (R570). -/
def execSillProgram (t : Nat) (v : Word) (pin : Bool) (vqps : Bool) (s : State) : Result :=
  onBeam t s fun s => s.sillProgramPins v pin vqps

/-- SILL_PROGRAM_DONE (R571). -/
def execSillProgramDone (t : Nat) (marginOk : Bool) (half : Word) (s : State) : Result :=
  programFuse t s fun s => s.sillDone marginOk half

/-- SECURE_HALTER_ENTER (R580). -/
def execSecureHalterEnter (t : Nat) (s : State) : Result :=
  onBeam t s fun s => s.secureEnter.settleShip 4

/-- SECURE_HALTER_RELEASE (R580). -/
def execSecureHalterRelease (t : Nat) (s : State) : Result :=
  onBeam t s fun s => s.secureRelease

/-- SECURE_RUNG3 (R580). -/
def execSecureRung3 (t : Nat) (s : State) : Result :=
  onBeam t s fun s => s.secureRung3.settleShip 4

/-- SECURE_RUNG4 (R580). -/
def execSecureRung4 (t : Nat) (s : State) : Result :=
  onBeam t s fun s => s.secureRung4.settleShip 4

/-- RECOVERY_BEGIN (R588). -/
def execRecoveryBegin (t : Nat) (s : State) : Result :=
  onBeam t s fun s => s.recoveryBegin

/-- RECOVERY_WORD (R588). -/
def execRecoveryWord (t : Nat) (s : State) : Result :=
  onBeam t s fun s => s.recoveryWord

/-- RECOVERY_END (R588). -/
def execRecoveryEnd (t : Nat) (s : State) : Result :=
  onBeam t s fun s => s.recoveryEnd.settleShip 4

/-- HOLDOFF_EXPIRY (R576). -/
def execHoldoffExpiry (t : Nat) (s : State) : Result :=
  onBeam t s fun s => s.holdoffExpiry

end Sys2Proof.Machine
end

