-- ==== Sys2Proof/Machine/ExecHalter.lean ====
section
/-! DEFINITION. The meanings of the commands of Halter mode, the ladder and the heartbeat (13): one definition per command, over the operations of the chapter. -/
namespace Sys2Proof.Machine

/-- HEARTBEAT_PULSE (R535). -/
def execHeartbeatPulse (t : Nat) (gAnswered : Bool) (s : State) : Result :=
  onBeam t s fun s => s.heartbeat gAnswered

/-- HEARTBEAT_WINDOW (R535). -/
def execHeartbeatWindow (t : Nat) (s : State) : Result :=
  onCinchDie t s fun s => s.heartbeatWindow.settleShip 4

/-- HALTER_ENTER (R537). -/
def execHalterEnter (t : Nat) (cause : Nat) (s : State) : Result :=
  onCinchDie t s fun s => (s.halterEvent cause).settleShip 4

/-- HALTER_ROUND (R540). -/
def execHalterRound (t : Nat) (n : Nat) (rt : Nat) (s : State) : Result :=
  onCinchDie t s fun s => s.halterRound n rt

/-- HALTER_POLL (R541). -/
def execHalterPoll (t : Nat) (pos : Nat) (cal : Nat) (periods : List Nat) (lenBad : Bool) (s : State) : Result :=
  onCinchDie t s fun s => s.halterPoll pos cal periods lenBad

/-- HALTER_EXIT_REQUEST (R544). -/
def execHalterExitRequest (t : Nat) (s : State) : Result :=
  onCinchDie t s fun s => s.halterExit

/-- WATCHDOG_RUNG3 (R548). -/
def execWatchdogRung3 (t : Nat) (s : State) : Result :=
  onCinchDie t s fun s => s.watchdog.settleShip 4

/-- RUNG_COUNT_RESET (R548). -/
def execRungCountReset (t : Nat) (s : State) : Result :=
  onCinchDie t s fun s => s.rungCountReset

/-- ID_RESET_WRITE (R561). -/
def execIdResetWrite (t : Nat) (v : Word) (s : State) : Result :=
  onBeam t s fun s => (s.hostWrite 0x40 4 v).settleShip 4

end Sys2Proof.Machine
end

