-- ==== Sys2Proof/Machine/ExecJobs.lean ====
section
/-! DEFINITION. The meanings of the commands of the jobs (08): one definition per command, over the operations of the chapter. -/
namespace Sys2Proof.Machine

/-- JOB_IMAGE_READ_DONE (R363). -/
def execJobImageReadDone (t : Nat) (slot : Nat) (ok : Bool) (data : List Byte) (s : State) : Result :=
  onBeam t s fun s => s.imageRead slot ok data

/-- JOB_NOP (R362). -/
def execJobNop (t : Nat) (slot : Nat) (s : State) : Result :=
  onBeam t s fun s => s.jobNop slot

/-- POINT_LOAD (R270). -/
def execPointLoad (t : Nat) (slot : Nat) (s : State) : Result :=
  onBeam t s fun s => s.startRead slot 1

/-- COEF_LOAD (R256). -/
def execCoefLoad (t : Nat) (slot : Nat) (s : State) : Result :=
  onBeam t s fun s => s.startRead slot 2

/-- COURSE_SET (R296). -/
def execCourseSet (t : Nat) (slot : Nat) (s : State) : Result :=
  onBeam t s fun s => s.startRead slot 3

/-- POLE_LOAD (R60). -/
def execPoleLoad (t : Nat) (slot : Nat) (s : State) : Result :=
  onBeam t s fun s => s.startRead slot 4

/-- READ_NOW (R266). -/
def execReadNow (t : Nat) (slot : Nat) (s : State) : Result :=
  onBeam t s fun s => s.startField slot opReadNow

/-- WRITE_TARGET (R290). -/
def execWriteTarget (t : Nat) (slot : Nat) (s : State) : Result :=
  onBeam t s fun s => s.startField slot opWriteTarget

/-- RAW_XFER (R365). -/
def execRawXfer (t : Nat) (slot : Nat) (s : State) : Result :=
  onBeam t s fun s => s.startField slot opRawXfer

/-- CHAIN_SEARCH (R151). -/
def execChainSearch (t : Nat) (slot : Nat) (s : State) : Result :=
  onBeam t s fun s => s.chainSearch slot

/-- PORT_REINIT (R150). -/
def execPortReinit (t : Nat) (slot : Nat) (s : State) : Result :=
  onBeam t s fun s => s.portReinit slot

/-- PORT_FENCE (R158). -/
def execPortFence (t : Nat) (slot : Nat) (s : State) : Result :=
  onBeam t s fun s => (s.portFenceJob slot).settleShip 4

/-- PORT_UNFENCE (R160). -/
def execPortUnfence (t : Nat) (slot : Nat) (s : State) : Result :=
  onBeam t s fun s => s.portUnfenceJob slot

/-- TRACE_FREEZE (R332). -/
def execTraceFreeze (t : Nat) (slot : Nat) (s : State) : Result :=
  onBeam t s fun s => s.traceFreezeJob slot

/-- TRACE_COPY (R335). -/
def execTraceCopy (t : Nat) (slot : Nat) (s : State) : Result :=
  onBeam t s fun s => s.traceCopyJob slot

/-- TRACE_COPY_DONE (R335). -/
def execTraceCopyDone (t : Nat) (s : State) : Result :=
  onBeam t s fun s => s.traceCopyDone

/-- STITCH_RUN (R241). -/
def execStitchRun (t : Nat) (slot : Nat) (s : State) : Result :=
  onBeam t s fun s => s.stitchRun slot

/-- STITCH_RUN_COMPLETE (R243). -/
def execStitchRunComplete (t : Nat) (unit : Nat) (ok : Bool) (data : List Byte) (s : State) : Result :=
  onBeam t s fun s => s.stitchComplete unit ok data

/-- ABORT (R370). -/
def execAbort (t : Nat) (slot : Nat) (s : State) : Result :=
  onBeam t s fun s => (s.abortJob slot).fwNext 512

/-- WORKER_PUSH (R457). -/
def execWorkerPush (t : Nat) (slot : Nat) (s : State) : Result :=
  onBeam t s fun s => s.pushStart slot

end Sys2Proof.Machine
end

