-- ==== Sys2Proof/Machine/ExecLink.lean ====
section
/-! DEFINITION. The meanings of the commands of the host link (08): one definition per command, over the operations of the chapter. -/
namespace Sys2Proof.Machine

/-- HL_GO_SET (R346). -/
def execHlGoSet (t : Nat) (bme : Bool) (s : State) : Result :=
  onBeam t s fun s => s.goSet bme

/-- HL_GO_CLEAR (R349). -/
def execHlGoClear (t : Nat) (s : State) : Result :=
  onBeam t s fun s => s.goClear

/-- HL_QUIESCED (R349). -/
def execHlQuiesced (t : Nat) (s : State) : Result :=
  onBeam t s fun s => s.quiesce

/-- BUS_MASTER_DISABLE (R350). -/
def execBusMasterDisable (t : Nat) (s : State) : Result :=
  onBeam t s fun s => s.busMasterOff

/-- DOORBELL_INTERVAL (R352). -/
def execDoorbellInterval (t : Nat) (s : State) : Result :=
  onBeam t s fun s => s.doorbellFetch

/-- DOORBELL_FETCH_DONE (R357). -/
def execDoorbellFetchDone (t : Nat) (words : List Nat) (s : State) : Result :=
  onBeam t s fun s => s.fetchDone words

/-- DOORBELL_FETCH_FAILED (R354). -/
def execDoorbellFetchFailed (t : Nat) (s : State) : Result :=
  onBeam t s fun s => s.fetchFailed

/-- DESCRIPTOR_READ_DONE (R360). -/
def execDescriptorReadDone (t : Nat) (ring : Nat) (ok : Bool) (descs : List (List Nat)) (s : State) : Result :=
  onBeam t s fun s => s.descriptorsRead ring ok descs

/-- DOORBELL_WRITE_BACK (R353). -/
def execDoorbellWriteBack (t : Nat) (s : State) : Result :=
  onBeam t s fun s => s.writeBack

/-- EVENT_RECORD_WRITE (R624). -/
def execEventRecordWrite (t : Nat) (q : Nat) (s : State) : Result :=
  onBeam t s fun s => s.writeRecord q

/-- MSI_X_COALESCE_TIMEOUT (R374). -/
def execMsiXCoalesceTimeout (t : Nat) (q : Nat) (s : State) : Result :=
  onBeam t s fun s => s.coalesceTimeout q

/-- DRAIN_COMPLETE (R388). -/
def execDrainComplete (t : Nat) (s : State) : Result :=
  onBeam t s fun s => s.drainComplete

/-- HOST_LINK_RESET (R387). -/
def execHostLinkReset (t : Nat) (kind : Nat) (s : State) : Result :=
  always t s fun s => s.hostLinkReset kind

/-- FUNCTION_LEVEL_RESET (R387). -/
def execFunctionLevelReset (t : Nat) (s : State) : Result :=
  onBeam t s fun s => s.functionReset

/-- LINK_UP (R528). -/
def execLinkUp (t : Nat) (s : State) : Result :=
  onBeam t s fun s => s.linkIsUp

/-- D3HOT_ENTRY (R341). -/
def execD3hotEntry (t : Nat) (pmeEn : Bool) (s : State) : Result :=
  onBeam t s fun s => s.enterD3 pmeEn

/-- D3HOT_EXIT (R341). -/
def execD3hotExit (t : Nat) (s : State) : Result :=
  onBeam t s fun s => s.leaveD3

/-- PERST_N_RELEASE (R528). -/
def execPerstNRelease (t : Nat) (s : State) : Result :=
  always t s fun s => s.perstReleased

end Sys2Proof.Machine
end

