-- ==== Sys2Proof/Machine/ExecPage.lean ====
section
/-! DEFINITION. The meanings of the commands of register accesses by address: one definition per command, over the operations of the chapter. -/
namespace Sys2Proof.Machine

/-- PT_MAP_SEL_WRITE (R171). -/
def execPtMapSelWrite (t : Nat) (v : Word) (s : State) : Result :=
  onBeam t s fun s => s.hostWrite 0x5124 4 v

/-- PT_PGRP_WRITE (R292). -/
def execPtPgrpWrite (t : Nat) (i : Nat) (v : Word) (s : State) : Result :=
  onBeam t s fun s => if i < 32 then s.hostWrite (0x5000 + 4 * i) 4 v else s

/-- PT_AWL_CFG_WRITE (R130). -/
def execPtAwlCfgWrite (t : Nat) (n : Nat) (v : Word) (s : State) : Result :=
  onBeam t s fun s => if n < 64 then s.hostWrite (0x5400 + 16 * n) 4 v else s

/-- PT_AWL_SENT_WRITE (R130). -/
def execPtAwlSentWrite (t : Nat) (n : Nat) (v : Word) (s : State) : Result :=
  onBeam t s fun s => if n < 64 then s.hostWrite (0x540C + 16 * n) 4 v else s

/-- PT_TW_CFG_WRITE (R174). -/
def execPtTwCfgWrite (t : Nat) (m : Nat) (v : Word) (s : State) : Result :=
  onBeam t s fun s => if m < 64 then s.hostWrite (0x5C00 + 16 * m) 4 v else s

/-- COUNTER_READ_CLEAR (R126). -/
def execCounterReadClear (t : Nat) (off : Nat) (size : Nat) (s : State) : Result :=
  onBeam t s fun s => s.hostRead off size

/-- REGISTER_WRITE (R591). -/
def execRegisterWrite (t : Nat) (off : Nat) (size : Nat) (v : Word) (s : State) : Result :=
  onBeam t s fun s => (s.hostWrite off size v).settleShip 4

end Sys2Proof.Machine
end

