-- ==== Sys2Proof/Machine/ExecPole.lean ====
section
/-! DEFINITION. The meanings of the commands of the story pole entries (01): one definition per command, over the operations of the chapter. -/
namespace Sys2Proof.Machine

/-- NOP (R48). -/
def execNop (t : Nat) (idx : Nat) (s : State) : Result :=
  onBeam t s fun s => if s.poleRuns && s.isNop idx then s.markFired idx else s

/-- STRIKE (R49). -/
def execStrike (t : Nat) (idx : Nat) (s : State) : Result :=
  onBeam t s fun s => s.poleFire 1 idx fun s e => s.fireStrike idx e

/-- PUBLISH (R53). -/
def execPublish (t : Nat) (idx : Nat) (s : State) : Result :=
  onBeam t s fun s => s.poleFire 2 idx State.firePublish

/-- OPEN (R54). -/
def execOpenWindow (t : Nat) (idx : Nat) (s : State) : Result :=
  onBeam t s fun s => s.poleFire 3 idx fun s e => s.fireWindow e false

/-- CLOSE (R54). -/
def execCloseWindow (t : Nat) (idx : Nat) (s : State) : Result :=
  onBeam t s fun s => s.poleFire 4 idx fun s e => s.fireWindow e true

/-- DOORBELL_FETCH (R56). -/
def execDoorbellFetch (t : Nat) (idx : Nat) (s : State) : Result :=
  onBeam t s fun s => s.poleFire 5 idx fun s _ => s.doorbellFetch

/-- TALLY_TICK (R474). -/
def execTallyTick (t : Nat) (idx : Nat) (s : State) : Result :=
  onBeam t s fun s => s.poleFire 6 idx fun s _ => s.tallyTick

/-- AELOON_BEACON (R58). -/
def execAeloonBeacon (t : Nat) (idx : Nat) (s : State) : Result :=
  onBeam t s fun s => s.poleFire 7 idx fun s _ => s.fireBeacon

/-- TRACE_MARK (R59). -/
def execTraceMark (t : Nat) (idx : Nat) (s : State) : Result :=
  onBeam t s fun s => s.poleFire 8 idx fun s e => s.traceMark e.arg.toNat

end Sys2Proof.Machine
end

