-- ==== Sys2Proof/Machine/ExecRail.lean ====
section
/-! DEFINITION. The meanings of the commands of the Hitch rail (09): one definition per command, over the operations of the chapter. -/
namespace Sys2Proof.Machine

/-- HR_IN_WRITE (R397). -/
def execHrInWrite (t : Nat) (ch : Nat) (v : Word) (s : State) : Result :=
  onBeam t s fun s => s.hostWrite (chanBase ch) 4 v

/-- HR_OUT_READ (R398). -/
def execHrOutRead (t : Nat) (ch : Nat) (s : State) : Result :=
  onBeam t s fun s => s.hostRead (chanBase ch + 4) 4

/-- HR_ACK_OUT_WRITE (R399). -/
def execHrAckOutWrite (t : Nat) (ch : Nat) (code : BitVec 16) (s : State) : Result :=
  onBeam t s fun s => s.hostWrite (chanBase ch + 0xC) 4 (code.setWidth 32)

/-- HR_MODE_WRITE (R401). -/
def execHrModeWrite (t : Nat) (ch : Nat) (v : Word) (s : State) : Result :=
  onBeam t s fun s => s.hostWrite (chanBase ch + 0x10) 4 v

/-- HOST_BUMP (R404). -/
def execHostBump (t : Nat) (s : State) : Result :=
  onBeam t s fun s => s.hostBump

/-- FIRMWARE_IN_READ (R398). -/
def execFirmwareInRead (t : Nat) (ch : Nat) (s : State) : Result :=
  onBeam t s fun s => s.takeInbound ch

/-- FIRMWARE_ACK_IN (R398). -/
def execFirmwareAckIn (t : Nat) (ch : Nat) (code : BitVec 16) (s : State) : Result :=
  onBeam t s fun s => s.answerInbound ch code

/-- FIRMWARE_POST_OUT (R397). -/
def execFirmwarePostOut (t : Nat) (ch : Nat) (v : Word) (s : State) : Result :=
  onBeam t s fun s => s.postOutbound ch v

/-- CROSS_TIMEOUT (R412). -/
def execCrossTimeout (t : Nat) (ch : Nat) (s : State) : Result :=
  onBeam t s fun s => s.crossing ch

end Sys2Proof.Machine
end

