-- ==== Sys2Proof/Machine/ExecScriber.lean ====
section
/-! DEFINITION. The meanings of the commands of the cut list, gap transactions and the compile (06): one definition per command, over the operations of the chapter. -/
namespace Sys2Proof.Machine

/-- CUT_LIST_ENTRY_START (R286). -/
def execCutListEntryStart (t : Nat) (port : Nat) (idx : Nat) (s : State) : Result :=
  onBeam t s fun s => s.entryStart port idx

/-- GAP_TRANSACTION_START (R287). -/
def execGapTransactionStart (t : Nat) (port : Nat) (s : State) : Result :=
  onBeam t s fun s => s.gapStart port

/-- CAPPING_WRITE_START (R290). -/
def execCappingWriteStart (t : Nat) (port : Nat) (s : State) : Result :=
  onBeam t s fun s => s.cappingStart port

/-- COMPILE_COMPLETE (R281). -/
def execCompileComplete (t : Nat) (s : State) : Result :=
  onBeam t s fun s => s.compileComplete

end Sys2Proof.Machine
end

