-- ==== Sys2Proof/Machine/ExecTack.lean ====
section
/-! DEFINITION. The meanings of the commands of snapshots and the trace ring (07): one definition per command, over the operations of the chapter. -/
namespace Sys2Proof.Machine

/-- SNAPSHOT_PUBLISH (R314). -/
def execSnapshotPublish (t : Nat) (c : Nat) (s : State) : Result :=
  onBeam t s fun s => s.lastIn c

/-- BLOCK_CHECK_READY (R316). -/
def execBlockCheckReady (t : Nat) (s : State) : Result :=
  onBeam t s fun s => s.blockCheck.settleSlices

/-- SNAPSHOT_COPY_DONE (R384). -/
def execSnapshotCopyDone (t : Nat) (c : Nat) (s : State) : Result :=
  onBeam t s fun s => s.copyDone c

/-- MERGE_WAIT_EXPIRY (R324). -/
def execMergeWaitExpiry (t : Nat) (c : Nat) (s : State) : Result :=
  onBeam t s fun s => s.mergeExpiry c

/-- CS_TR_REARM (R334). -/
def execCsTrRearm (t : Nat) (s : State) : Result :=
  onBeam t s fun s => s.csRearm

end Sys2Proof.Machine
end

