-- ==== Sys2Proof/Machine/ExecTally.lean ====
section
/-! DEFINITION. The meanings of the commands of Tally (11): one definition per command, over the operations of the chapter. -/
namespace Sys2Proof.Machine

/-- STRING_SET (R487). -/
def execStringSet (t : Nat) (slot : Nat) (s : State) : Result :=
  onBeam t s fun s => s.tallyRead slot 1

/-- STRING_CLEAR (R488). -/
def execStringClear (t : Nat) (slot : Nat) (s : State) : Result :=
  onBeam t s fun s => s.stringClear slot

/-- OCV_LOAD (R489). -/
def execOcvLoad (t : Nat) (slot : Nat) (s : State) : Result :=
  onBeam t s fun s => s.tallyRead slot 3

/-- TALLY_READ (R488). -/
def execTallyRead (t : Nat) (slot : Nat) (s : State) : Result :=
  onBeam t s fun s => s.tallyReadOut slot

/-- SOC_SET (R488). -/
def execSocSet (t : Nat) (slot : Nat) (s : State) : Result :=
  onBeam t s fun s => s.socSet slot

/-- LEARN_RESET (R488). -/
def execLearnReset (t : Nat) (slot : Nat) (s : State) : Result :=
  onBeam t s fun s => s.learnReset slot

/-- LEDGER_SYNC (R488). -/
def execLedgerSync (t : Nat) (slot : Nat) (s : State) : Result :=
  onBeam t s fun s => s.ledgerSync slot

/-- TALLY_EVAL_TIMER (R474). -/
def execTallyEvalTimer (t : Nat) (s : State) : Result :=
  onBeam t s fun s => s.tallyTimer

/-- LEDGER_HOURLY (R484). -/
def execLedgerHourly (t : Nat) (str : Nat) (s : State) : Result :=
  onBeam t s fun s => s.ledgerHourly str

/-- LEDGER_COMMIT_DONE (R483). -/
def execLedgerCommitDone (t : Nat) (str : Nat) (s : State) : Result :=
  onBeam t s fun s => s.ledgerDone str

/-- LEDGER_SCAN (R486). -/
def execLedgerScan (t : Nat) (s : State) : Result :=
  onBeam t s fun s => s.ledgerScan

/-- SHIP_ARM (R480). -/
def execShipArm (t : Nat) (s : State) : Result :=
  onBeam t s fun s => s.shipArm

/-- SHIP_GO (R481). -/
def execShipGo (t : Nat) (s : State) : Result :=
  onBeam t s fun s => s.shipGo.settleShip 4

end Sys2Proof.Machine
end

