-- ==== Sys2Proof/Machine/ExecTwoWire.lean ====
section
/-! DEFINITION. The meanings of the commands of the two-wire ports (04): one definition per command, over the operations of the chapter. -/
namespace Sys2Proof.Machine

/-- TW_ATTEMPT_END (R188). -/
def execTwAttemptEnd (t : Nat) (m : Nat) (start : Nat) (stop : Nat) (nack : Option Nat) (rx : List Byte) (other : Bool) (s : State) : Result :=
  onBeam t s fun s => (s.twAttemptEnd m start stop nack rx other).settleShip 4

/-- TW_CLOCK_TIMEOUT (R181). -/
def execTwClockTimeout (t : Nat) (m : Nat) (s : State) : Result :=
  onBeam t s fun s => (s.twTimeout m).settleShip 4

/-- ARB_LOST (R193). -/
def execArbLost (t : Nat) (m : Nat) (byte : Nat) (bit : Nat) (won : Nat) (s : State) : Result :=
  onBeam t s fun s => (s.arbLost m byte bit won).settleShip 4

/-- TW_FOREIGN_START_STOP (R626). -/
def execTwForeignStartStop (t : Nat) (m : Nat) (s : State) : Result :=
  onBeam t s fun s => (s.twForeign m).settleShip 4

/-- TW_SEGMENT_FREE (R182). -/
def execTwSegmentFree (t : Nat) (m : Nat) (s : State) : Result :=
  onBeam t s fun s => s.twSegmentFree m

/-- TW_TARGET_TRANSACTION_END (R197). -/
def execTwTargetTransactionEnd (t : Nat) (m : Nat) (addr : Nat) (read : Bool) (data : List Byte) (s : State) : Result :=
  onBeam t s fun s => s.targetEnd m addr read data

/-- ALERT_ASSERT (R202). -/
def execAlertAssert (t : Nat) (a : Nat) (s : State) : Result :=
  onBeam t s fun s => s.alertAssert a

/-- ALERT_RELEASE (R202). -/
def execAlertRelease (t : Nat) (a : Nat) (s : State) : Result :=
  onBeam t s fun s => s.alertRelease a

/-- ALERT_HOLDOFF (R203). -/
def execAlertHoldoff (t : Nat) (a : Nat) (s : State) : Result :=
  onBeam t s fun s => s.alertHoldoff a

/-- LPI_ENTER (R204). -/
def execLpiEnter (t : Nat) (m : Nat) (s : State) : Result :=
  onBeam t s fun s => s.lpiEnter m

/-- LPI_WAKE (R204). -/
def execLpiWake (t : Nat) (m : Nat) (s : State) : Result :=
  onBeam t s fun s => s.lpiWake m

/-- LPI_ADDRESS_MATCH (R205). -/
def execLpiAddressMatch (t : Nat) (m : Nat) (s : State) : Result :=
  onBeam t s fun s => s.lpiMatch m

/-- LPI_WAKE_DONE (R205). -/
def execLpiWakeDone (t : Nat) (m : Nat) (s : State) : Result :=
  onBeam t s fun s => s.lpiWakeDone m

/-- BUS_CLEAR (R208). -/
def execBusClear (t : Nat) (m : Nat) (pulses : Nat) (released : Bool) (s : State) : Result :=
  onBeam t s fun s => (s.busClearEnd m pulses released).settleShip 4

/-- CLOCK_STUCK (R209). -/
def execClockStuck (t : Nat) (m : Nat) (lowUs : Nat) (s : State) : Result :=
  onBeam t s fun s => (s.clockStuck m lowUs).settleShip 4

end Sys2Proof.Machine
end

