-- ==== Sys2Proof/Machine/ExecWheel.lean ====
section
/-! DEFINITION. The meanings of the commands of the phase wheel and the PW_ registers (01): one definition per command, over the operations of the chapter. -/
namespace Sys2Proof.Machine

/-- ZX_EDGE_QUALIFIED (R28). -/
def execZxEdgeQualified (t : Nat) (inputB : Bool) (stamp : Nat) (s : State) : Result :=
  onBeam t s fun s => s.edge (b2n inputB) stamp

/-- PHASE_HOLD_END (R31). -/
def execPhaseHoldEnd (t : Nat) (s : State) : Result :=
  onBeam t s fun s => s.holdEnd

/-- PHASE_SLEW_END (R31). -/
def execPhaseSlewEnd (t : Nat) (s : State) : Result :=
  onBeam t s fun s => s.slewEnd

/-- MISSED_EDGE (R30). -/
def execMissedEdge (t : Nat) (input : Nat) (s : State) : Result :=
  onBeam t s fun s => s.missedEdge input

/-- ACQUISITION_CHOICE (R38). -/
def execAcquisitionChoice (t : Nat) (s : State) : Result :=
  onBeam t s fun s => s.acqChoice

/-- CYCLE_BOUNDARY (R18). -/
def execCycleBoundary (t : Nat) (s : State) : Result :=
  onBeam t s fun s => s.boundary.settleShip 4

/-- PW_CTRL_WRITE (R37). -/
def execPwCtrlWrite (t : Nat) (v : Word) (s : State) : Result :=
  onBeam t s fun s => s.hostWrite 0x4000 4 v

/-- PW_NOMINAL_WRITE (R64). -/
def execPwNominalWrite (t : Nat) (v : Word) (s : State) : Result :=
  onBeam t s fun s => s.hostWrite 0x4004 4 v

/-- PW_CYCLE_LO_READ (R67). -/
def execPwCycleLoRead (t : Nat) (s : State) : Result :=
  onBeam t s fun s => s.hostRead 0x4020 4

end Sys2Proof.Machine
end

