-- ==== Sys2Proof/Machine/Dispatch.lean ====
section
/-! DEFINITION. The dispatch: one arm per command of the opcode table. -/
namespace Sys2Proof.Machine

def exec (i : Instr) (s : State) : Host.Outcome State Fault Refusal :=
  match i with
  | .beamDieResetExit t roleSel slot => Sys2Proof.Machine.execBeamDieResetExit t roleSel slot s
  | .zxEdgeQualified t inputB stamp => Sys2Proof.Machine.execZxEdgeQualified t inputB stamp s
  | .phaseHoldEnd t => Sys2Proof.Machine.execPhaseHoldEnd t s
  | .phaseSlewEnd t => Sys2Proof.Machine.execPhaseSlewEnd t s
  | .missedEdge t input => Sys2Proof.Machine.execMissedEdge t input s
  | .acquisitionChoice t => Sys2Proof.Machine.execAcquisitionChoice t s
  | .cycleBoundary t => Sys2Proof.Machine.execCycleBoundary t s
  | .nop t idx => Sys2Proof.Machine.execNop t idx s
  | .strike t idx => Sys2Proof.Machine.execStrike t idx s
  | .publish t idx => Sys2Proof.Machine.execPublish t idx s
  | .openWindow t idx => Sys2Proof.Machine.execOpenWindow t idx s
  | .closeWindow t idx => Sys2Proof.Machine.execCloseWindow t idx s
  | .doorbellFetch t idx => Sys2Proof.Machine.execDoorbellFetch t idx s
  | .tallyTick t idx => Sys2Proof.Machine.execTallyTick t idx s
  | .aeloonBeacon t idx => Sys2Proof.Machine.execAeloonBeacon t idx s
  | .traceMark t idx => Sys2Proof.Machine.execTraceMark t idx s
  | .pwCtrlWrite t v => Sys2Proof.Machine.execPwCtrlWrite t v s
  | .pwNominalWrite t v => Sys2Proof.Machine.execPwNominalWrite t v s
  | .pwCycleLoRead t => Sys2Proof.Machine.execPwCycleLoRead t s
  | .cutListEntryStart t port idx => Sys2Proof.Machine.execCutListEntryStart t port idx s
  | .gapTransactionStart t port => Sys2Proof.Machine.execGapTransactionStart t port s
  | .breikRetry t port => Sys2Proof.Machine.execBreikRetry t port s
  | .cappingWriteStart t port => Sys2Proof.Machine.execCappingWriteStart t port s
  | .breikFrameReceived t port cal periods lenBad => Sys2Proof.Machine.execBreikFrameReceived t port cal periods lenBad s
  | .breikResponseTimeout t port => Sys2Proof.Machine.execBreikResponseTimeout t port s
  | .writeCommitWindowEnd t port => Sys2Proof.Machine.execWriteCommitWindowEnd t port s
  | .spuWindowEnd t port limitUnbroken => Sys2Proof.Machine.execSpuWindowEnd t port limitUnbroken s
  | .echoReceived t port edge => Sys2Proof.Machine.execEchoReceived t port edge s
  | .echoTimeout t port => Sys2Proof.Machine.execEchoTimeout t port s
  | .presencePulse t port start width => Sys2Proof.Machine.execPresencePulse t port start width s
  | .presenceCountEnd t port => Sys2Proof.Machine.execPresenceCountEnd t port s
  | .delayProbeReflection t port dt => Sys2Proof.Machine.execDelayProbeReflection t port dt s
  | .delayProbeTimeout t port => Sys2Proof.Machine.execDelayProbeTimeout t port s
  | .searchRestart t port => Sys2Proof.Machine.execSearchRestart t port s
  | .unstableRetry t port => Sys2Proof.Machine.execUnstableRetry t port s
  | .fenceStuck t port lowUs => Sys2Proof.Machine.execFenceStuck t port lowUs s
  | .fenceChatter t port edges glitches => Sys2Proof.Machine.execFenceChatter t port edges glitches s
  | .unfenceTimer t port => Sys2Proof.Machine.execUnfenceTimer t port s
  | .unfenceLineCheckEnd t port clkHigh dataHigh => Sys2Proof.Machine.execUnfenceLineCheckEnd t port clkHigh dataHigh s
  | .fenceIntervalReset t port => Sys2Proof.Machine.execFenceIntervalReset t port s
  | .sentFrameReceived t port id cal periods pause edge stop => Sys2Proof.Machine.execSentFrameReceived t port id cal periods pause edge stop s
  | .twAttemptEnd t m start stop nack rx other => Sys2Proof.Machine.execTwAttemptEnd t m start stop nack rx other s
  | .twClockTimeout t m => Sys2Proof.Machine.execTwClockTimeout t m s
  | .arbLost t m byte bit won => Sys2Proof.Machine.execArbLost t m byte bit won s
  | .twForeignStartStop t m => Sys2Proof.Machine.execTwForeignStartStop t m s
  | .twSegmentFree t m => Sys2Proof.Machine.execTwSegmentFree t m s
  | .twTargetTransactionEnd t m addr read data => Sys2Proof.Machine.execTwTargetTransactionEnd t m addr read data s
  | .alertAssert t a => Sys2Proof.Machine.execAlertAssert t a s
  | .alertRelease t a => Sys2Proof.Machine.execAlertRelease t a s
  | .alertHoldoff t a => Sys2Proof.Machine.execAlertHoldoff t a s
  | .lpiEnter t m => Sys2Proof.Machine.execLpiEnter t m s
  | .lpiWake t m => Sys2Proof.Machine.execLpiWake t m s
  | .lpiAddressMatch t m => Sys2Proof.Machine.execLpiAddressMatch t m s
  | .lpiWakeDone t m => Sys2Proof.Machine.execLpiWakeDone t m s
  | .busClear t m pulses released => Sys2Proof.Machine.execBusClear t m pulses released s
  | .clockStuck t m lowUs => Sys2Proof.Machine.execClockStuck t m lowUs s
  | .cinchConversion t ch code sampled => Sys2Proof.Machine.execCinchConversion t ch code sampled s
  | .compileComplete t => Sys2Proof.Machine.execCompileComplete t s
  | .snapshotPublish t c => Sys2Proof.Machine.execSnapshotPublish t c s
  | .blockCheckReady t => Sys2Proof.Machine.execBlockCheckReady t s
  | .snapshotCopyDone t c => Sys2Proof.Machine.execSnapshotCopyDone t c s
  | .mergeWaitExpiry t c => Sys2Proof.Machine.execMergeWaitExpiry t c s
  | .csTrRearm t => Sys2Proof.Machine.execCsTrRearm t s
  | .hlGoSet t bme => Sys2Proof.Machine.execHlGoSet t bme s
  | .hlGoClear t => Sys2Proof.Machine.execHlGoClear t s
  | .hlQuiesced t => Sys2Proof.Machine.execHlQuiesced t s
  | .busMasterDisable t => Sys2Proof.Machine.execBusMasterDisable t s
  | .doorbellInterval t => Sys2Proof.Machine.execDoorbellInterval t s
  | .doorbellFetchDone t words => Sys2Proof.Machine.execDoorbellFetchDone t words s
  | .doorbellFetchFailed t => Sys2Proof.Machine.execDoorbellFetchFailed t s
  | .descriptorReadDone t ring ok descs => Sys2Proof.Machine.execDescriptorReadDone t ring ok descs s
  | .doorbellWriteBack t => Sys2Proof.Machine.execDoorbellWriteBack t s
  | .jobImageReadDone t slot ok data => Sys2Proof.Machine.execJobImageReadDone t slot ok data s
  | .eventRecordWrite t q => Sys2Proof.Machine.execEventRecordWrite t q s
  | .msiXCoalesceTimeout t q => Sys2Proof.Machine.execMsiXCoalesceTimeout t q s
  | .drainComplete t => Sys2Proof.Machine.execDrainComplete t s
  | .hostLinkReset t kind => Sys2Proof.Machine.execHostLinkReset t kind s
  | .functionLevelReset t => Sys2Proof.Machine.execFunctionLevelReset t s
  | .linkUp t => Sys2Proof.Machine.execLinkUp t s
  | .d3hotEntry t pmeEn => Sys2Proof.Machine.execD3hotEntry t pmeEn s
  | .jobNop t slot => Sys2Proof.Machine.execJobNop t slot s
  | .pointLoad t slot => Sys2Proof.Machine.execPointLoad t slot s
  | .coefLoad t slot => Sys2Proof.Machine.execCoefLoad t slot s
  | .courseSet t slot => Sys2Proof.Machine.execCourseSet t slot s
  | .poleLoad t slot => Sys2Proof.Machine.execPoleLoad t slot s
  | .readNow t slot => Sys2Proof.Machine.execReadNow t slot s
  | .writeTarget t slot => Sys2Proof.Machine.execWriteTarget t slot s
  | .rawXfer t slot => Sys2Proof.Machine.execRawXfer t slot s
  | .chainSearch t slot => Sys2Proof.Machine.execChainSearch t slot s
  | .portReinit t slot => Sys2Proof.Machine.execPortReinit t slot s
  | .portFence t slot => Sys2Proof.Machine.execPortFence t slot s
  | .portUnfence t slot => Sys2Proof.Machine.execPortUnfence t slot s
  | .traceFreeze t slot => Sys2Proof.Machine.execTraceFreeze t slot s
  | .traceCopy t slot => Sys2Proof.Machine.execTraceCopy t slot s
  | .traceCopyDone t => Sys2Proof.Machine.execTraceCopyDone t s
  | .stitchRun t slot => Sys2Proof.Machine.execStitchRun t slot s
  | .stitchRunComplete t unit ok data => Sys2Proof.Machine.execStitchRunComplete t unit ok data s
  | .abort t slot => Sys2Proof.Machine.execAbort t slot s
  | .workerPush t slot => Sys2Proof.Machine.execWorkerPush t slot s
  | .stringSet t slot => Sys2Proof.Machine.execStringSet t slot s
  | .stringClear t slot => Sys2Proof.Machine.execStringClear t slot s
  | .ocvLoad t slot => Sys2Proof.Machine.execOcvLoad t slot s
  | .tallyRead t slot => Sys2Proof.Machine.execTallyRead t slot s
  | .socSet t slot => Sys2Proof.Machine.execSocSet t slot s
  | .learnReset t slot => Sys2Proof.Machine.execLearnReset t slot s
  | .ledgerSync t slot => Sys2Proof.Machine.execLedgerSync t slot s
  | .fwStage t slot => Sys2Proof.Machine.execFwStage t slot s
  | .fwCommit t slot => Sys2Proof.Machine.execFwCommit t slot s
  | .tallyEvalTimer t => Sys2Proof.Machine.execTallyEvalTimer t s
  | .ledgerHourly t str => Sys2Proof.Machine.execLedgerHourly t str s
  | .ledgerCommitDone t str => Sys2Proof.Machine.execLedgerCommitDone t str s
  | .ledgerScan t => Sys2Proof.Machine.execLedgerScan t s
  | .shipArm t => Sys2Proof.Machine.execShipArm t s
  | .shipGo t => Sys2Proof.Machine.execShipGo t s
  | .hrInWrite t ch v => Sys2Proof.Machine.execHrInWrite t ch v s
  | .hrOutRead t ch => Sys2Proof.Machine.execHrOutRead t ch s
  | .hrAckOutWrite t ch code => Sys2Proof.Machine.execHrAckOutWrite t ch code s
  | .hrModeWrite t ch v => Sys2Proof.Machine.execHrModeWrite t ch v s
  | .hostBump t => Sys2Proof.Machine.execHostBump t s
  | .firmwareInRead t ch => Sys2Proof.Machine.execFirmwareInRead t ch s
  | .firmwareAckIn t ch code => Sys2Proof.Machine.execFirmwareAckIn t ch code s
  | .firmwarePostOut t ch v => Sys2Proof.Machine.execFirmwarePostOut t ch v s
  | .crossTimeout t ch => Sys2Proof.Machine.execCrossTimeout t ch s
  | .superframeStart t => Sys2Proof.Machine.execSuperframeStart t s
  | .managerDownlinkTransmit t => Sys2Proof.Machine.execManagerDownlinkTransmit t s
  | .beaconReceived t bytes codeErr arrival => Sys2Proof.Machine.execBeaconReceived t bytes codeErr arrival s
  | .alpMark t endLow pulses => Sys2Proof.Machine.execAlpMark t endLow pulses s
  | .workerSlotTransmit t => Sys2Proof.Machine.execWorkerSlotTransmit t s
  | .slotFrameReceived t node bytes codeErr twoD => Sys2Proof.Machine.execSlotFrameReceived t node bytes codeErr twoD s
  | .downlinkFrameReceived t bytes codeErr => Sys2Proof.Machine.execDownlinkFrameReceived t bytes codeErr s
  | .slotMissed t node => Sys2Proof.Machine.execSlotMissed t node s
  | .joinClaim t collide => Sys2Proof.Machine.execJoinClaim t collide s
  | .joinFrameReceived t bytes codeErr => Sys2Proof.Machine.execJoinFrameReceived t bytes codeErr s
  | .beaconLoss t => Sys2Proof.Machine.execBeaconLoss t s
  | .pushStageExpiry t num => Sys2Proof.Machine.execPushStageExpiry t num s
  | .cinchReset t => Sys2Proof.Machine.execCinchReset t s
  | .cinchResetExit t tmemUv => Sys2Proof.Machine.execCinchResetExit t tmemUv s
  | .cinchReady t => Sys2Proof.Machine.execCinchReady t s
  | .hkRegulationLoss t => Sys2Proof.Machine.execHkRegulationLoss t s
  | .seatAssert t => Sys2Proof.Machine.execSeatAssert t s
  | .seatDebounceExpiry t => Sys2Proof.Machine.execSeatDebounceExpiry t s
  | .seatRemoval t => Sys2Proof.Machine.execSeatRemoval t s
  | .vinOutOfRange t vin => Sys2Proof.Machine.execVinOutOfRange t vin s
  | .prechargeStart t vin vout => Sys2Proof.Machine.execPrechargeStart t vin vout s
  | .prechargeDone t vin vout slope => Sys2Proof.Machine.execPrechargeDone t vin vout slope s
  | .pchEnergy t => Sys2Proof.Machine.execPchEnergy t s
  | .pchTime t => Sys2Proof.Machine.execPchTime t s
  | .rampComplete t => Sys2Proof.Machine.execRampComplete t s
  | .gateFail t => Sys2Proof.Machine.execGateFail t s
  | .pgAssert t vds => Sys2Proof.Machine.execPgAssert t vds s
  | .pgLate t => Sys2Proof.Machine.execPgLate t s
  | .limitEnter t sense => Sys2Proof.Machine.execLimitEnter t sense s
  | .limitExit t sense => Sys2Proof.Machine.execLimitExit t sense s
  | .fastTrip t sense => Sys2Proof.Machine.execFastTrip t sense s
  | .overload t => Sys2Proof.Machine.execOverload t s
  | .tfetHot t => Sys2Proof.Machine.execTfetHot t s
  | .fetShort t vin vout => Sys2Proof.Machine.execFetShort t vin vout s
  | .fetModelStep t vds sense vin vout => Sys2Proof.Machine.execFetModelStep t vds sense vin vout s
  | .tmemRefresh t => Sys2Proof.Machine.execTmemRefresh t s
  | .modelLow t => Sys2Proof.Machine.execModelLow t s
  | .restartConditionMet t => Sys2Proof.Machine.execRestartConditionMet t s
  | .faultCountReset t => Sys2Proof.Machine.execFaultCountReset t s
  | .cnSoftWrite t v => Sys2Proof.Machine.execCnSoftWrite t v s
  | .loadOnWrite t v => Sys2Proof.Machine.execLoadOnWrite t v s
  | .cnClear t v => Sys2Proof.Machine.execCnClear t v s
  | .firmwareVerified t => Sys2Proof.Machine.execFirmwareVerified t s
  | .foremanGReady t => Sys2Proof.Machine.execForemanGReady t s
  | .engineSelftestDone t port pass => Sys2Proof.Machine.execEngineSelftestDone t port pass s
  | .storeSelftestDone t banks trace unit2 => Sys2Proof.Machine.execStoreSelftestDone t banks trace unit2 s
  | .stitchSelftestDone t unit pass => Sys2Proof.Machine.execStitchSelftestDone t unit pass s
  | .heartbeatPulse t gAnswered => Sys2Proof.Machine.execHeartbeatPulse t gAnswered s
  | .heartbeatWindow t => Sys2Proof.Machine.execHeartbeatWindow t s
  | .foremanGRestart t => Sys2Proof.Machine.execForemanGRestart t s
  | .foremanSRestart t => Sys2Proof.Machine.execForemanSRestart t s
  | .halterEnter t cause => Sys2Proof.Machine.execHalterEnter t cause s
  | .halterRound t n rt => Sys2Proof.Machine.execHalterRound t n rt s
  | .halterPoll t pos cal periods lenBad => Sys2Proof.Machine.execHalterPoll t pos cal periods lenBad s
  | .halterExitRequest t => Sys2Proof.Machine.execHalterExitRequest t s
  | .watchdogRung3 t => Sys2Proof.Machine.execWatchdogRung3 t s
  | .rungCountReset t => Sys2Proof.Machine.execRungCountReset t s
  | .beamWarmReset t => Sys2Proof.Machine.execBeamWarmReset t s
  | .beamPowerCycle t => Sys2Proof.Machine.execBeamPowerCycle t s
  | .idResetWrite t v => Sys2Proof.Machine.execIdResetWrite t v s
  | .brownoutWarning t vinCode holdOk => Sys2Proof.Machine.execBrownoutWarning t vinCode holdOk s
  | .brownoutWarningClear t => Sys2Proof.Machine.execBrownoutWarningClear t s
  | .brownOut t => Sys2Proof.Machine.execBrownOut t s
  | .brownoutCopyDone t => Sys2Proof.Machine.execBrownoutCopyDone t s
  | .sgChallenge t => Sys2Proof.Machine.execSgChallenge t s
  | .sgVerify t => Sys2Proof.Machine.execSgVerify t s
  | .sgClose t => Sys2Proof.Machine.execSgClose t s
  | .challengeExpiry t => Sys2Proof.Machine.execChallengeExpiry t s
  | .sessionIdleTimeout t => Sys2Proof.Machine.execSessionIdleTimeout t s
  | .sillProgram t v pin vqps => Sys2Proof.Machine.execSillProgram t v pin vqps s
  | .sillProgramDone t marginOk half => Sys2Proof.Machine.execSillProgramDone t marginOk half s
  | .secureHalterEnter t => Sys2Proof.Machine.execSecureHalterEnter t s
  | .secureHalterRelease t => Sys2Proof.Machine.execSecureHalterRelease t s
  | .secureRung3 t => Sys2Proof.Machine.execSecureRung3 t s
  | .secureRung4 t => Sys2Proof.Machine.execSecureRung4 t s
  | .recoveryBegin t => Sys2Proof.Machine.execRecoveryBegin t s
  | .recoveryWord t => Sys2Proof.Machine.execRecoveryWord t s
  | .recoveryEnd t => Sys2Proof.Machine.execRecoveryEnd t s
  | .ptMapSelWrite t v => Sys2Proof.Machine.execPtMapSelWrite t v s
  | .ptPgrpWrite t n v => Sys2Proof.Machine.execPtPgrpWrite t n v s
  | .ptAwlCfgWrite t n v => Sys2Proof.Machine.execPtAwlCfgWrite t n v s
  | .ptAwlSentWrite t n v => Sys2Proof.Machine.execPtAwlSentWrite t n v s
  | .ptTwCfgWrite t m v => Sys2Proof.Machine.execPtTwCfgWrite t m v s
  | .counterReadClear t off size => Sys2Proof.Machine.execCounterReadClear t off size s
  | .registerWrite t off size v => Sys2Proof.Machine.execRegisterWrite t off size v s
  | .holdoffExpiry t => Sys2Proof.Machine.execHoldoffExpiry t s
  | .pgDeassert t => Sys2Proof.Machine.execPgDeassert t s
  | .d3hotExit t => Sys2Proof.Machine.execD3hotExit t s
  | .perstNRelease t => Sys2Proof.Machine.execPerstNRelease t s
  | .powerCycleEnd t => Sys2Proof.Machine.execPowerCycleEnd t s
  | .spcResponseTimeout t port => Sys2Proof.Machine.execSpcResponseTimeout t port s

end Sys2Proof.Machine
end

