-- ==== Sys2Proof/Machine/Step.lean ====
section
/-! DEFINITION. One step: the command at the front of the queue, first in, first out; on an empty queue the block
idles. The table gives a command no bits, so no word spells one. -/
namespace Sys2Proof.Machine

/-- Take the command that has waited longest and give its effect; nothing waits: nothing happens
(DESIGN CHOICE, log 1: idle; log 120: effects of time come by their commands). [DESIGN CHOICE, log 120] -/
def step (s : State) : Host.Outcome State Fault Refusal :=
  match s.pending with
  | [] => .next s
  | c :: rest => exec c { s with pending := rest }

/-- `s` with the command that a word spells at the front of its queue; `s` itself where it spells none.
[DESIGN CHOICE, log 1] -/
def State.withFetchWord (s : State) (nbits w : Nat) : State :=
  match Sys2Proof.decodeTableWord nbits w with
  | some c => { s with pending := c :: s.pending }
  | none => s

end Sys2Proof.Machine
end

