-- ==== Sys2Proof/Safety.lean ====
section
/-! DEFINITION. The words claims use: one step from a state to a state, a fuse that reads 1, a run of commands, and
the canonical form of the memories a state holds, and the parts of the state that each command may change. -/
namespace Sys2Proof.Machine

/-- One step leads from `s` to `s'`. -/
def StepsTo (s s' : State) : Prop := step s = .next s'

/-- Sill bit `b` of row `row` is blown: it reads 1 (R562, R563). -/
def State.blown (s : State) (row b : Nat) : Bool := (tget 0 s.sill.rows row).getLsbD b

/-- The Sill array is in its canonical form: rows strictly rising, none of them blank. -/
def State.sillOk (s : State) : Bool := twf 0 s.sill.rows

/-- Host memory, as the Slovor has written it, is in its canonical form. -/
def State.hostMemOk (s : State) : Bool := Memory.wf s.link.mem

/-- The job of a slot has started. -/
def State.hasStarted (s : State) (slot : Nat) : Prop := ∃ j, s.job? slot = some j ∧ j.started = true

/-- The job of a slot has ended with a status: its completion is posted and its slot waits for the record (R369). -/
def State.hasEnded (s : State) (slot status : Nat) : Prop := ∃ j, s.job? slot = some j ∧ j.posted = true ∧ j.status = status

/-- A byte of host memory as the Slovor has written it; `none` where it has written nothing. -/
def State.hostByte (s : State) (a : Nat) : Option Byte := (s.link.mem.find? fun x => decide (x.1 = a)).map (·.2)

/-! ### What a command may change -/

/-- The parts of the state, and host memory. -/
inductive Part
  | wheel | pole | tab | scr | ports | tack | stitch | link | rail | core | tally | sill | gate | aeloon | fw | mram | cinch
  | halter | power | free | lastRead | hostMemory
  deriving DecidableEq, Repr

/-- The commands that may change any part: those that take a die through a reset, and the accesses to a register by its
address. -/
def changesAny : Instr → Bool
  | .cinchReset .. | .beamWarmReset .. | .beamPowerCycle .. | .brownOut .. | .counterReadClear .. | .registerWrite .. => true
  | _ => false

def mayChangeWheel : Instr → Bool
  | .beamDieResetExit .. | .zxEdgeQualified .. | .phaseHoldEnd .. | .phaseSlewEnd .. | .missedEdge .. | .acquisitionChoice ..
    | .cycleBoundary .. | .strike .. | .pwCtrlWrite .. | .pwNominalWrite .. | .pwCycleLoRead .. | .echoReceived .. | .echoTimeout ..
    | .sentFrameReceived .. | .compileComplete .. | .jobImageReadDone .. | .abort .. | .fwStage .. | .fwCommit .. | .superframeStart ..
    | .beaconReceived .. | .alpMark .. | .downlinkFrameReceived .. | .heartbeatWindow .. | .halterEnter .. | .watchdogRung3 ..
    | .idResetWrite .. | .brownoutWarningClear .. | .brownoutCopyDone .. | .secureHalterEnter .. | .secureRung3 .. | .secureRung4 ..
    | .recoveryEnd .. => true
  | _ => false

def mayChangePole : Instr → Bool
  | .zxEdgeQualified .. | .acquisitionChoice .. | .cycleBoundary .. | .nop .. | .strike .. | .publish .. | .openWindow ..
    | .closeWindow .. | .doorbellFetch .. | .tallyTick .. | .aeloonBeacon .. | .traceMark .. | .echoReceived .. | .sentFrameReceived ..
    | .compileComplete .. | .jobImageReadDone .. | .abort .. | .fwStage .. | .fwCommit .. | .superframeStart .. | .beaconReceived ..
    | .alpMark .. | .slotFrameReceived .. | .downlinkFrameReceived .. | .heartbeatWindow .. | .halterEnter .. | .halterExitRequest ..
    | .watchdogRung3 .. | .idResetWrite .. | .brownoutWarningClear .. | .brownoutCopyDone .. | .secureHalterEnter .. | .secureRung3 ..
    | .secureRung4 .. | .recoveryEnd .. => true
  | _ => false

def mayChangeTab : Instr → Bool
  | .zxEdgeQualified .. | .acquisitionChoice .. | .cycleBoundary .. | .strike .. | .publish .. | .cutListEntryStart ..
    | .gapTransactionStart .. | .breikRetry .. | .breikFrameReceived .. | .breikResponseTimeout .. | .writeCommitWindowEnd ..
    | .spuWindowEnd .. | .echoReceived .. | .echoTimeout .. | .unstableRetry .. | .fenceStuck .. | .fenceChatter ..
    | .unfenceLineCheckEnd .. | .sentFrameReceived .. | .twAttemptEnd .. | .twClockTimeout .. | .arbLost .. | .twForeignStartStop ..
    | .twSegmentFree .. | .alertRelease .. | .busClear .. | .clockStuck .. | .cinchConversion .. | .snapshotPublish ..
    | .jobImageReadDone .. | .chainSearch .. | .portReinit .. | .portFence .. | .abort .. | .fwStage .. | .fwCommit ..
    | .superframeStart .. | .beaconReceived .. | .alpMark .. | .heartbeatWindow .. | .halterEnter .. | .halterExitRequest ..
    | .watchdogRung3 .. | .idResetWrite .. | .brownoutWarning .. | .brownoutWarningClear .. | .brownoutCopyDone ..
    | .secureHalterEnter .. | .secureRung3 .. | .secureRung4 .. | .recoveryEnd .. | .spcResponseTimeout .. => true
  | _ => false

def mayChangeScr : Instr → Bool
  | .zxEdgeQualified .. | .acquisitionChoice .. | .cycleBoundary .. | .strike .. | .pwCtrlWrite .. | .pwNominalWrite ..
    | .cutListEntryStart .. | .gapTransactionStart .. | .breikRetry .. | .cappingWriteStart .. | .breikFrameReceived ..
    | .breikResponseTimeout .. | .writeCommitWindowEnd .. | .spuWindowEnd .. | .echoReceived .. | .echoTimeout .. | .presencePulse ..
    | .presenceCountEnd .. | .delayProbeReflection .. | .delayProbeTimeout .. | .unstableRetry .. | .fenceStuck .. | .fenceChatter ..
    | .unfenceLineCheckEnd .. | .sentFrameReceived .. | .twAttemptEnd .. | .twClockTimeout .. | .arbLost .. | .twForeignStartStop ..
    | .twSegmentFree .. | .alertRelease .. | .busClear .. | .clockStuck .. | .cinchConversion .. | .compileComplete ..
    | .jobImageReadDone .. | .hostLinkReset .. | .functionLevelReset .. | .readNow .. | .writeTarget .. | .rawXfer .. | .chainSearch ..
    | .portReinit .. | .portFence .. | .abort .. | .fwStage .. | .fwCommit .. | .superframeStart .. | .beaconReceived .. | .alpMark ..
    | .downlinkFrameReceived .. | .heartbeatWindow .. | .foremanGRestart .. | .halterEnter .. | .halterExitRequest ..
    | .watchdogRung3 .. | .idResetWrite .. | .brownoutWarning .. | .brownoutWarningClear .. | .brownoutCopyDone ..
    | .secureHalterEnter .. | .secureRung3 .. | .secureRung4 .. | .recoveryEnd .. | .ptMapSelWrite .. | .ptPgrpWrite ..
    | .ptAwlCfgWrite .. | .ptAwlSentWrite .. | .ptTwCfgWrite .. | .spcResponseTimeout .. => true
  | _ => false

def mayChangePorts : Instr → Bool
  | .zxEdgeQualified .. | .acquisitionChoice .. | .cycleBoundary .. | .strike .. | .cutListEntryStart .. | .gapTransactionStart ..
    | .breikRetry .. | .cappingWriteStart .. | .breikFrameReceived .. | .breikResponseTimeout .. | .writeCommitWindowEnd ..
    | .spuWindowEnd .. | .echoReceived .. | .echoTimeout .. | .presencePulse .. | .presenceCountEnd .. | .delayProbeReflection ..
    | .delayProbeTimeout .. | .searchRestart .. | .unstableRetry .. | .fenceStuck .. | .fenceChatter .. | .unfenceTimer ..
    | .unfenceLineCheckEnd .. | .fenceIntervalReset .. | .sentFrameReceived .. | .twAttemptEnd .. | .twClockTimeout .. | .arbLost ..
    | .twForeignStartStop .. | .twSegmentFree .. | .twTargetTransactionEnd .. | .alertAssert .. | .alertRelease .. | .alertHoldoff ..
    | .lpiEnter .. | .lpiWake .. | .lpiAddressMatch .. | .lpiWakeDone .. | .busClear .. | .clockStuck .. | .cinchConversion ..
    | .compileComplete .. | .jobImageReadDone .. | .hostLinkReset .. | .functionLevelReset .. | .readNow .. | .writeTarget ..
    | .rawXfer .. | .chainSearch .. | .portReinit .. | .portFence .. | .portUnfence .. | .abort .. | .fwStage .. | .fwCommit ..
    | .shipGo .. | .superframeStart .. | .beaconReceived .. | .alpMark .. | .downlinkFrameReceived .. | .engineSelftestDone ..
    | .heartbeatWindow .. | .foremanGRestart .. | .halterEnter .. | .halterExitRequest .. | .watchdogRung3 .. | .idResetWrite ..
    | .brownoutWarning .. | .brownoutWarningClear .. | .brownoutCopyDone .. | .secureHalterEnter .. | .secureRung3 .. | .secureRung4 ..
    | .recoveryEnd .. | .ptMapSelWrite .. | .ptPgrpWrite .. | .ptAwlCfgWrite .. | .ptAwlSentWrite .. | .ptTwCfgWrite ..
    | .spcResponseTimeout .. => true
  | _ => false

def mayChangeTack : Instr → Bool
  | .zxEdgeQualified .. | .acquisitionChoice .. | .cycleBoundary .. | .strike .. | .publish .. | .traceMark .. | .cutListEntryStart ..
    | .gapTransactionStart .. | .breikRetry .. | .breikFrameReceived .. | .breikResponseTimeout .. | .writeCommitWindowEnd ..
    | .spuWindowEnd .. | .echoReceived .. | .echoTimeout .. | .unstableRetry .. | .fenceStuck .. | .fenceChatter ..
    | .unfenceLineCheckEnd .. | .sentFrameReceived .. | .twAttemptEnd .. | .twClockTimeout .. | .arbLost .. | .twForeignStartStop ..
    | .twSegmentFree .. | .alertRelease .. | .busClear .. | .clockStuck .. | .cinchConversion .. | .snapshotPublish ..
    | .blockCheckReady .. | .snapshotCopyDone .. | .mergeWaitExpiry .. | .csTrRearm .. | .hlGoSet .. | .jobImageReadDone ..
    | .drainComplete .. | .hostLinkReset .. | .functionLevelReset .. | .chainSearch .. | .portReinit .. | .portFence ..
    | .traceFreeze .. | .traceCopy .. | .traceCopyDone .. | .abort .. | .fwStage .. | .fwCommit .. | .superframeStart ..
    | .beaconReceived .. | .alpMark .. | .slotFrameReceived .. | .beaconLoss .. | .pchEnergy .. | .pchTime .. | .gateFail ..
    | .fastTrip .. | .overload .. | .tfetHot .. | .fetShort .. | .foremanGReady .. | .storeSelftestDone .. | .stitchSelftestDone ..
    | .heartbeatWindow .. | .foremanGRestart .. | .halterEnter .. | .halterPoll .. | .halterExitRequest .. | .watchdogRung3 ..
    | .idResetWrite .. | .brownoutWarning .. | .brownoutWarningClear .. | .brownoutCopyDone .. | .secureHalterEnter ..
    | .secureRung3 .. | .secureRung4 .. | .recoveryEnd .. | .spcResponseTimeout .. => true
  | _ => false

def mayChangeStitch : Instr → Bool
  | .beamDieResetExit .. | .zxEdgeQualified .. | .acquisitionChoice .. | .cycleBoundary .. | .strike .. | .publish ..
    | .cutListEntryStart .. | .gapTransactionStart .. | .breikFrameReceived .. | .breikResponseTimeout .. | .writeCommitWindowEnd ..
    | .spuWindowEnd .. | .echoReceived .. | .echoTimeout .. | .unstableRetry .. | .fenceStuck .. | .fenceChatter ..
    | .unfenceLineCheckEnd .. | .sentFrameReceived .. | .twAttemptEnd .. | .twClockTimeout .. | .arbLost .. | .twForeignStartStop ..
    | .twSegmentFree .. | .alertRelease .. | .busClear .. | .clockStuck .. | .compileComplete .. | .snapshotPublish ..
    | .blockCheckReady .. | .descriptorReadDone .. | .jobImageReadDone .. | .hostLinkReset .. | .functionLevelReset .. | .jobNop ..
    | .readNow .. | .writeTarget .. | .rawXfer .. | .chainSearch .. | .portReinit .. | .portFence .. | .portUnfence ..
    | .traceFreeze .. | .traceCopy .. | .traceCopyDone .. | .stitchRun .. | .stitchRunComplete .. | .abort .. | .workerPush ..
    | .stringSet .. | .stringClear .. | .ocvLoad .. | .tallyRead .. | .socSet .. | .learnReset .. | .ledgerSync .. | .fwStage ..
    | .fwCommit .. | .ledgerScan .. | .superframeStart .. | .beaconReceived .. | .alpMark .. | .slotFrameReceived ..
    | .downlinkFrameReceived .. | .slotMissed .. | .joinFrameReceived .. | .pchEnergy .. | .pchTime .. | .gateFail .. | .fastTrip ..
    | .overload .. | .tfetHot .. | .fetShort .. | .foremanGReady .. | .storeSelftestDone .. | .stitchSelftestDone ..
    | .heartbeatWindow .. | .foremanGRestart .. | .halterEnter .. | .halterPoll .. | .halterExitRequest .. | .watchdogRung3 ..
    | .idResetWrite .. | .brownoutWarning .. | .brownoutWarningClear .. | .brownoutCopyDone .. | .secureHalterEnter ..
    | .secureRung3 .. | .secureRung4 .. | .recoveryEnd .. | .spcResponseTimeout .. => true
  | _ => false

def mayChangeLink : Instr → Bool
  | .phaseHoldEnd .. | .phaseSlewEnd .. | .nop .. | .openWindow .. | .closeWindow .. | .aeloonBeacon .. | .traceMark ..
    | .pwNominalWrite .. | .pwCycleLoRead .. | .presencePulse .. | .presenceCountEnd .. | .delayProbeReflection ..
    | .delayProbeTimeout .. | .searchRestart .. | .unfenceTimer .. | .fenceIntervalReset .. | .alertAssert .. | .alertHoldoff ..
    | .lpiEnter .. | .lpiWake .. | .lpiAddressMatch .. | .lpiWakeDone .. | .cinchConversion .. | .csTrRearm .. | .ledgerHourly ..
    | .shipArm .. | .shipGo .. | .hrOutRead .. | .hostBump .. | .firmwareInRead .. | .firmwareAckIn .. | .firmwarePostOut ..
    | .managerDownlinkTransmit .. | .workerSlotTransmit .. | .joinClaim .. | .pgAssert .. | .pgLate .. | .fetModelStep ..
    | .tmemRefresh .. | .modelLow .. | .faultCountReset .. | .heartbeatPulse .. | .halterRound .. | .rungCountReset ..
    | .sgChallenge .. | .sgVerify .. | .sgClose .. | .challengeExpiry .. | .sessionIdleTimeout .. | .sillProgram ..
    | .sillProgramDone .. | .secureHalterRelease .. | .recoveryBegin .. | .recoveryWord .. | .ptMapSelWrite .. | .ptPgrpWrite ..
    | .ptAwlCfgWrite .. | .ptAwlSentWrite .. | .ptTwCfgWrite .. | .holdoffExpiry .. | .pgDeassert .. | .powerCycleEnd .. => false
  | _ => true

def mayChangeRail : Instr → Bool
  | .beamDieResetExit .. | .cycleBoundary .. | .twAttemptEnd .. | .twClockTimeout .. | .arbLost .. | .twForeignStartStop ..
    | .busClear .. | .clockStuck .. | .hostLinkReset .. | .functionLevelReset .. | .portFence .. | .fwCommit .. | .shipArm ..
    | .shipGo .. | .hrInWrite .. | .hrOutRead .. | .hrAckOutWrite .. | .hrModeWrite .. | .hostBump .. | .firmwareInRead ..
    | .firmwareAckIn .. | .firmwarePostOut .. | .crossTimeout .. | .foremanGReady .. | .heartbeatWindow .. | .foremanGRestart ..
    | .foremanSRestart .. | .halterEnter .. | .watchdogRung3 .. | .idResetWrite .. | .brownoutCopyDone .. | .sgChallenge ..
    | .sgVerify .. | .sgClose .. | .sessionIdleTimeout .. | .secureHalterEnter .. | .secureHalterRelease .. | .secureRung3 ..
    | .secureRung4 .. | .recoveryBegin .. | .recoveryWord .. | .recoveryEnd .. => true
  | _ => false

def mayChangeCore : Instr → Bool
  | .phaseHoldEnd .. | .phaseSlewEnd .. | .nop .. | .openWindow .. | .closeWindow .. | .doorbellFetch .. | .tallyTick ..
    | .aeloonBeacon .. | .traceMark .. | .pwNominalWrite .. | .pwCycleLoRead .. | .breikRetry .. | .cappingWriteStart ..
    | .presencePulse .. | .presenceCountEnd .. | .delayProbeReflection .. | .delayProbeTimeout .. | .searchRestart ..
    | .unfenceTimer .. | .fenceIntervalReset .. | .twTargetTransactionEnd .. | .alertAssert .. | .alertHoldoff .. | .lpiEnter ..
    | .lpiWake .. | .lpiAddressMatch .. | .lpiWakeDone .. | .cinchConversion .. | .snapshotCopyDone .. | .mergeWaitExpiry ..
    | .csTrRearm .. | .hlGoSet .. | .hlGoClear .. | .hlQuiesced .. | .busMasterDisable .. | .doorbellInterval ..
    | .doorbellFetchDone .. | .doorbellFetchFailed .. | .doorbellWriteBack .. | .eventRecordWrite .. | .msiXCoalesceTimeout ..
    | .drainComplete .. | .d3hotEntry .. | .pointLoad .. | .coefLoad .. | .courseSet .. | .poleLoad .. | .tallyEvalTimer ..
    | .ledgerHourly .. | .ledgerCommitDone .. | .shipArm .. | .shipGo .. | .hrOutRead .. | .firmwareInRead .. | .crossTimeout ..
    | .managerDownlinkTransmit .. | .joinClaim .. | .pushStageExpiry .. | .seatAssert .. | .seatDebounceExpiry .. | .seatRemoval ..
    | .vinOutOfRange .. | .prechargeStart .. | .prechargeDone .. | .rampComplete .. | .pgAssert .. | .pgLate .. | .limitEnter ..
    | .limitExit .. | .fetModelStep .. | .tmemRefresh .. | .modelLow .. | .restartConditionMet .. | .faultCountReset ..
    | .cnSoftWrite .. | .loadOnWrite .. | .cnClear .. | .halterRound .. | .rungCountReset .. | .sgChallenge .. | .sgVerify ..
    | .sgClose .. | .challengeExpiry .. | .sessionIdleTimeout .. | .sillProgram .. | .sillProgramDone .. | .secureHalterRelease ..
    | .recoveryBegin .. | .recoveryWord .. | .ptMapSelWrite .. | .ptPgrpWrite .. | .ptAwlCfgWrite .. | .ptAwlSentWrite ..
    | .ptTwCfgWrite .. | .holdoffExpiry .. | .pgDeassert .. | .d3hotExit .. | .perstNRelease .. | .powerCycleEnd .. => false
  | _ => true

def mayChangeTally : Instr → Bool
  | .zxEdgeQualified .. | .acquisitionChoice .. | .cycleBoundary .. | .strike .. | .publish .. | .tallyTick .. | .echoReceived ..
    | .sentFrameReceived .. | .twAttemptEnd .. | .twClockTimeout .. | .arbLost .. | .twForeignStartStop .. | .busClear ..
    | .clockStuck .. | .snapshotPublish .. | .jobImageReadDone .. | .hostLinkReset .. | .functionLevelReset .. | .portFence ..
    | .abort .. | .stringSet .. | .stringClear .. | .ocvLoad .. | .socSet .. | .learnReset .. | .ledgerSync .. | .fwStage ..
    | .fwCommit .. | .tallyEvalTimer .. | .ledgerHourly .. | .ledgerCommitDone .. | .shipArm .. | .shipGo .. | .firmwareAckIn ..
    | .superframeStart .. | .beaconReceived .. | .alpMark .. | .slotFrameReceived .. | .downlinkFrameReceived .. | .slotMissed ..
    | .joinFrameReceived .. | .pushStageExpiry .. | .heartbeatWindow .. | .foremanGRestart .. | .halterEnter .. | .watchdogRung3 ..
    | .idResetWrite .. | .brownoutWarningClear .. | .brownoutCopyDone .. | .secureHalterEnter .. | .secureHalterRelease ..
    | .secureRung3 .. | .secureRung4 .. | .recoveryBegin .. | .recoveryEnd .. => true
  | _ => false

def mayChangeSill : Instr → Bool
  | .beamDieResetExit .. | .cinchResetExit .. | .brownoutWarning .. | .sillProgram .. | .sillProgramDone .. => true
  | _ => false

def mayChangeGate : Instr → Bool
  | .descriptorReadDone .. | .hostLinkReset .. | .functionLevelReset .. | .hrInWrite .. | .hrAckOutWrite .. | .hrModeWrite ..
    | .cnSoftWrite .. | .loadOnWrite .. | .cnClear .. | .sgChallenge .. | .sgVerify .. | .sgClose .. | .challengeExpiry ..
    | .sessionIdleTimeout .. | .sillProgram .. | .recoveryBegin .. | .recoveryWord .. | .recoveryEnd .. | .holdoffExpiry .. => true
  | _ => false

def mayChangeAeloon : Instr → Bool
  | .beamDieResetExit .. | .zxEdgeQualified .. | .acquisitionChoice .. | .cycleBoundary .. | .strike .. | .aeloonBeacon ..
    | .echoReceived .. | .sentFrameReceived .. | .blockCheckReady .. | .mergeWaitExpiry .. | .descriptorReadDone ..
    | .jobImageReadDone .. | .hostLinkReset .. | .functionLevelReset .. | .abort .. | .workerPush .. | .fwStage .. | .fwCommit ..
    | .firmwareInRead .. | .firmwareAckIn .. | .firmwarePostOut .. | .crossTimeout .. | .superframeStart ..
    | .managerDownlinkTransmit .. | .beaconReceived .. | .alpMark .. | .workerSlotTransmit .. | .slotFrameReceived ..
    | .downlinkFrameReceived .. | .slotMissed .. | .joinClaim .. | .joinFrameReceived .. | .beaconLoss .. | .pushStageExpiry ..
    | .heartbeatWindow .. | .foremanGRestart .. | .halterEnter .. | .watchdogRung3 .. | .idResetWrite .. | .brownoutWarningClear ..
    | .brownoutCopyDone .. | .secureHalterEnter .. | .secureRung3 .. | .secureRung4 .. | .recoveryEnd .. => true
  | _ => false

def mayChangeFw : Instr → Bool
  | .jobImageReadDone .. | .hostLinkReset .. | .functionLevelReset .. | .abort .. | .fwStage .. | .fwCommit .. | .firmwareVerified ..
    | .foremanGRestart .. | .brownoutWarningClear .. | .recoveryWord .. | .recoveryEnd .. => true
  | _ => false

def mayChangeMram : Instr → Bool
  | .beamDieResetExit .. | .csTrRearm .. | .jobImageReadDone .. | .hostLinkReset .. | .functionLevelReset .. | .traceCopyDone ..
    | .abort .. | .fwStage .. | .fwCommit .. | .hrInWrite .. | .hrAckOutWrite .. | .hrModeWrite .. | .pchEnergy .. | .pchTime ..
    | .gateFail .. | .fastTrip .. | .overload .. | .tfetHot .. | .fetShort .. | .firmwareVerified .. | .engineSelftestDone ..
    | .storeSelftestDone .. | .stitchSelftestDone .. | .heartbeatWindow .. | .foremanGRestart .. | .foremanSRestart ..
    | .halterEnter .. | .halterPoll .. | .halterExitRequest .. | .watchdogRung3 .. | .idResetWrite .. | .brownoutWarning ..
    | .brownoutWarningClear .. | .brownoutCopyDone .. | .secureHalterEnter .. | .secureRung3 .. | .secureRung4 .. | .recoveryWord ..
    | .recoveryEnd .. => true
  | _ => false

def mayChangeCinch : Instr → Bool
  | .beamDieResetExit .. | .cinchConversion .. | .cinchResetExit .. | .seatAssert .. | .seatDebounceExpiry .. | .seatRemoval ..
    | .vinOutOfRange .. | .prechargeStart .. | .prechargeDone .. | .pchEnergy .. | .pchTime .. | .rampComplete .. | .gateFail ..
    | .pgAssert .. | .pgLate .. | .limitEnter .. | .limitExit .. | .fastTrip .. | .overload .. | .tfetHot .. | .fetShort ..
    | .fetModelStep .. | .tmemRefresh .. | .modelLow .. | .restartConditionMet .. | .faultCountReset .. | .cnSoftWrite ..
    | .loadOnWrite .. | .cnClear .. | .halterPoll .. | .halterExitRequest .. | .brownoutWarningClear .. | .pgDeassert .. => true
  | _ => false

def mayChangeHalter : Instr → Bool
  | .jobImageReadDone .. | .abort .. | .fwStage .. | .fwCommit .. | .cinchResetExit .. | .heartbeatPulse .. | .heartbeatWindow ..
    | .halterEnter .. | .halterRound .. | .halterPoll .. | .halterExitRequest .. | .watchdogRung3 .. | .rungCountReset ..
    | .idResetWrite .. | .brownoutWarningClear .. | .brownoutCopyDone .. | .secureHalterEnter .. | .secureHalterRelease ..
    | .secureRung3 .. | .secureRung4 .. | .recoveryEnd .. => true
  | _ => false

def mayChangePower : Instr → Bool
  | .cinchReady .. | .idResetWrite .. | .brownoutWarning .. | .brownoutWarningClear .. | .brownoutCopyDone .. | .powerCycleEnd .. => true
  | _ => false

def mayChangeFree : Instr → Bool
  | .beamDieResetExit .. | .zxEdgeQualified .. | .acquisitionChoice .. | .strike .. | .publish .. | .echoReceived ..
    | .sentFrameReceived .. | .snapshotPublish .. | .blockCheckReady .. | .mergeWaitExpiry .. | .jobImageReadDone .. | .readNow ..
    | .writeTarget .. | .rawXfer .. | .traceCopyDone .. | .abort .. | .workerPush .. | .socSet .. | .fwStage .. | .fwCommit ..
    | .superframeStart .. | .beaconReceived .. | .alpMark .. | .slotFrameReceived .. | .joinClaim .. | .heartbeatWindow ..
    | .halterEnter .. | .watchdogRung3 .. | .idResetWrite .. | .brownoutWarning .. | .brownoutWarningClear .. | .brownoutCopyDone ..
    | .sgChallenge .. | .sgVerify .. | .sgClose .. | .secureHalterEnter .. | .secureRung3 .. | .secureRung4 .. | .recoveryEnd .. => true
  | _ => false

def mayChangeLastRead : Instr → Bool
  | .pwCycleLoRead .. | .hrOutRead .. => true
  | _ => false

def mayChangeHostMemory : Instr → Bool
  | .breikFrameReceived .. | .breikResponseTimeout .. | .sentFrameReceived .. | .twAttemptEnd .. | .twClockTimeout .. | .arbLost ..
    | .twForeignStartStop .. | .blockCheckReady .. | .snapshotCopyDone .. | .mergeWaitExpiry .. | .hlGoSet .. | .doorbellWriteBack ..
    | .eventRecordWrite .. | .drainComplete .. | .traceCopyDone .. | .stitchRunComplete .. | .slotFrameReceived .. | .idResetWrite ..
    | .d3hotExit .. | .spcResponseTimeout .. => true
  | _ => false

/-- Whether a command may change a part at all: no other command of the manual has an effect on it. -/
def mayChange (p : Part) (c : Instr) : Bool :=
  changesAny c || match p with
  | .wheel => mayChangeWheel c
  | .pole => mayChangePole c
  | .tab => mayChangeTab c
  | .scr => mayChangeScr c
  | .ports => mayChangePorts c
  | .tack => mayChangeTack c
  | .stitch => mayChangeStitch c
  | .link => mayChangeLink c
  | .rail => mayChangeRail c
  | .core => mayChangeCore c
  | .tally => mayChangeTally c
  | .sill => mayChangeSill c
  | .gate => mayChangeGate c
  | .aeloon => mayChangeAeloon c
  | .fw => mayChangeFw c
  | .mram => mayChangeMram c
  | .cinch => mayChangeCinch c
  | .halter => mayChangeHalter c
  | .power => mayChangePower c
  | .free => mayChangeFree c
  | .lastRead => mayChangeLastRead c
  | .hostMemory => mayChangeHostMemory c

end Sys2Proof.Machine
end

