-- ==== Sys2Proof/Certificates/Slice0/Obligations.lean ====
section
/-! DEFINITION. The statements for the provers, each with the rule of the manual it formalises. -/
open Sys2Proof Sys2Proof.Machine


/-! ### The block as a whole -/

/-- A step runs the command at the front of the queue on the rest; on an empty queue the block idles (the model's
choice, log entry 1). -/
def Obligations.StepRunsFront : Prop :=
  (∀ (c : Instr) (rest : List Instr) (s : State), step { s with pending := c :: rest } = exec c { s with pending := rest }) ∧
  (∀ s : State, s.pending = [] → step s = .next s)

/-- Commands are taken in order, each once: after as many steps as commands, what stood behind them is the queue; and
the clock never runs backward (the model's queue and clock, log entries 1 and 2). -/
def Obligations.QueueInOrder : Prop :=
  (∀ (cs rest : List Instr) (s s' : State), s.pending = cs ++ rest →
    Sys2Proof.core.run cs.length s = .next s' → s'.pending = rest) ∧
  (∀ s s' : State, step s = .next s' → s.now ≤ s'.now)

/-- R562: no step returns a blown Sill bit to 0, and the array keeps its canonical form. -/
def Obligations.FusesStayBlown : Prop :=
  ∀ s s' : State, step s = .next s' → s.sillOk = true →
    s'.sillOk = true ∧ ∀ row b : Nat, s.blown row b = true → s'.blown row b = true

/-- Host memory as the Slovor has written it keeps its canonical form through every step. -/
def Obligations.HostMemoryStaysCanonical : Prop :=
  ∀ s s' : State, step s = .next s' → s.hostMemOk = true → s'.hostMemOk = true

/-- What reset leaves: no command waits, Halter mode is in force with READY_CORE's HALTER bit alone set and the Beam
die in reset (R524, R525), the power entry unseated with LOAD_ON 1 and no soft limit (R500, R516, R517), the wheel
free at cycle 0 (R19, R37), an empty pole (R65), blank fuses and memories in their canonical form. -/
def Obligations.ResetLeaves : Prop :=
  let s := State.reset
  s.pending = [] ∧ s.halterOn = true ∧ s.core.ready = 0x100 ∧ s.core.up = false ∧ s.cinch.st = .unseated ∧
  s.cinch.loadOn = true ∧ s.cinch.soft = 0 ∧ s.wheel.state = .free ∧ s.wheel.count = 0 ∧ s.pole.entries = [] ∧
  s.sillOk = true ∧ s.hostMemOk = true ∧ (∀ row b : Nat, s.blown row b = false) ∧ ∀ a : Nat, s.hostByte a = none

/-- Only BEAM_DIE_RESET_EXIT brings the Beam die out of reset (R525), and only CINCH_RESET_EXIT the Cinch die (R524).
-/
def Obligations.OnlyExitsLeaveReset : Prop :=
  ∀ s s' : State, step s = .next s' →
    (s.core.up = false → s'.core.up = true → ∃ t r k rest, s.pending = .beamDieResetExit t r k :: rest) ∧
    (s.cinch.up = false → s'.cinch.up = true → ∃ t v rest, s.pending = .cinchResetExit t v :: rest)

/-- The frame of every command over the wheel, the pole, the tables, the Scriber and the ports (01 to 06): a command
changes only the parts that the manual gives it an effect on. -/
def Obligations.FrameOfTheField : Prop :=
  ∀ (c : Instr) (s s' : State), exec c s = .next s' →
    (mayChange .wheel c = false → s'.wheel = s.wheel) ∧ (mayChange .pole c = false → s'.pole = s.pole) ∧
    (mayChange .tab c = false → s'.tab = s.tab) ∧ (mayChange .scr c = false → s'.scr = s.scr) ∧
    (mayChange .ports c = false → s'.ports = s.ports)

/-- The frame of every command over the courses, the Stitch units, the host link, the rail, the cascade, Tally and the
Beam die's core (05, 07 to 11, 13), and over the last value read. -/
def Obligations.FrameOfTheServices : Prop :=
  ∀ (c : Instr) (s s' : State), exec c s = .next s' →
    (mayChange .tack c = false → s'.tack = s.tack) ∧ (mayChange .stitch c = false → s'.stitch = s.stitch) ∧
    (mayChange .link c = false → s'.link = s.link) ∧ (mayChange .rail c = false → s'.rail = s.rail) ∧
    (mayChange .aeloon c = false → s'.aeloon = s.aeloon) ∧ (mayChange .tally c = false → s'.tally = s.tally) ∧
    (mayChange .core c = false → s'.core = s.core) ∧ (mayChange .lastRead c = false → s'.lastRead = s.lastRead)

/-- The frame of every command over the power entry, Halter mode, the supply, the gate, the Sill, firmware, MRAM (12
to 14), the count of free values, and every byte of host memory. -/
def Obligations.FrameOfProtection : Prop :=
  ∀ (c : Instr) (s s' : State), exec c s = .next s' →
    (mayChange .cinch c = false → s'.cinch = s.cinch) ∧ (mayChange .halter c = false → s'.halter = s.halter) ∧
    (mayChange .power c = false → s'.power = s.power) ∧ (mayChange .gate c = false → s'.gate = s.gate) ∧
    (mayChange .sill c = false → s'.sill = s.sill) ∧ (mayChange .fw c = false → s'.fw = s.fw) ∧
    (mayChange .mram c = false → s'.mram = s.mram) ∧ (mayChange .free c = false → s'.free = s.free) ∧
    (mayChange .hostMemory c = false → ∀ a : Nat, s'.hostByte a = s.hostByte a)

/-! ### The phase wheel and the story pole (01) -/

/-- R39: READY_CORE.RDY_PHASE, as the host reads it, is 1 while the wheel's state is LOCKED or SEL is 0b100, and 0 in
all other cases; every step keeps it so, and it is so at reset. -/
def Obligations.PhaseReadiness : Prop :=
  let ok (s : State) : Prop := bitAt (s.readReg 0x20).toNat 4 = (decide (s.wheel.state = .locked) || decide (s.wheel.sel = 4))
  ok State.reset ∧ ∀ s s' : State, step s = .next s' → ok s → ok s'

/-- R34: during a hold no entry of the story pole fires. -/
def Obligations.HoldFiresNoEntry : Prop :=
  ∀ (s : State) (t idx : Nat), s.wheel.motion = .hold →
    exec (.nop t idx) s = .next (s.advance t) ∧ exec (.strike t idx) s = .next (s.advance t) ∧
    exec (.publish t idx) s = .next (s.advance t) ∧ exec (.openWindow t idx) s = .next (s.advance t) ∧
    exec (.closeWindow t idx) s = .next (s.advance t) ∧ exec (.doorbellFetch t idx) s = .next (s.advance t) ∧
    exec (.tallyTick t idx) s = .next (s.advance t) ∧ exec (.aeloonBeacon t idx) s = .next (s.advance t) ∧
    exec (.traceMark t idx) s = .next (s.advance t)

/-- ZX_EDGE_QUALIFIED: an edge outside the window of R28 is rejected and counted; nothing else changes.
ZX_EDGE_QUALIFIED: the active input's accepted edge, within 64 au, is recorded as the phase error and slewed away from
that edge on (R28, R31); e = 0 leaves the rate between corrections. MISSED_EDGE: the input's count of missed edges rises,
holding at its top (R30); the eighth in a row of the active input takes LOCKED to HOLDOVER with ten cycles left (R37).
ACQUISITION_CHOICE: with one input at its fourth good edge the wheel locks to it (R37, R38). PHASE_HOLD_END and
PHASE_SLEW_END: the angle runs on from where it stands, at the rate between corrections (R31). -/
def Obligations.WheelCorrects : Prop :=
  (∀ (s : State) (t stamp : Nat) (inputB : Bool),
      s.core.up = true → s.wheel.state ≠ .free → s.wheel.sources.contains (b2n inputB) = true →
      6554 < (s.phaseError (b2n inputB) stamp).natAbs →
      exec (.zxEdgeQualified t inputB stamp) s =
        .next { s.advance t with wheel := s.wheel.onInput (b2n inputB) fun x =>
          { x with reject := satInc x.reject, cleanRun := 0, winOk := x.winOk && !x.endedClean (max s.now t) } }) ∧
  (∀ (s : State) (t stamp last : Nat) (inputB : Bool),
      let i := b2n inputB
      let e := s.phaseError i stamp
      let n := max 1 (divRound (stamp - last) s.wheel.period.toNat)
      s.core.up = true → s.wheel.state = .locked → s.wheel.sources.contains i = true → s.wheel.active.toNat = i →
      (s.wheel.input i).winFirst = none → (s.wheel.input i).lastEdge = some last →
      rateOk (((stamp - last : Nat) : Rat) / ((n : Nat) : Rat)) = true →
      (s.isManager && decide (s.aeloon.state = 4)) = false → e.natAbs ≤ 64 →
      ∃ s', exec (.zxEdgeQualified t inputB stamp) s = .next s' ∧ s'.wheel.state = .locked ∧ s'.wheel.missRun = 0 ∧
        s'.wheel.phaseErr = BitVec.ofInt 16 e ∧ (s'.wheel.input i).lastEdge = some stamp ∧
        s'.wheel.anchorT = max s.now t ∧ s'.wheel.count = s.wheel.count ∧
        s'.wheel.motion = if e = 0 then s'.restMotion else .slew (e : Rat) s'.restPeriod) ∧
  (∀ (s : State) (t i : Nat), s.core.up = true → s.wheel.state ≠ .free → s.wheel.sources.contains i = true →
      (∃ s', exec (.missedEdge t i) s = .next s' ∧ (s'.wheel.input i).miss = satInc (s.wheel.input i).miss ∧
        s'.wheel.count = s.wheel.count) ∧
      (s.wheel.active.toNat = i → s.wheel.state = .locked → (s.wheel.input i).winDirty = false → 7 ≤ s.wheel.missRun.toNat →
        ∃ s', exec (.missedEdge t i) s = .next s' ∧ s'.wheel.state = .holdover ∧ s'.wheel.holdLeft = 10)) ∧
  (∀ (s : State) (t i : Nat), s.core.up = true → s.wheel.state = .free → s.wheel.acq = true →
      (s.wheel.sources.filter fun k => acqMet (s.wheel.input k).acqEdges) = [i] → i ≤ 7 →
      (s.isManager && decide (s.aeloon.state = 4)) = false →
      (s.phaseError i ((s.wheel.input i).acqEdges.getLastD 0)).natAbs ≤ 64 →
      ∃ s', exec (.acquisitionChoice t) s = .next s' ∧ s'.wheel.state = .locked ∧ s'.wheel.acq = false ∧
        s'.wheel.active = BitVec.ofNat 3 i ∧ s'.wheel.missRun = 0 ∧
        s'.wheel.period = BitVec.ofNat 32 (meanRat (gapsOf (s.wheel.input i).acqEdges) + 1 / 2).floor.toNat) ∧
  ((∀ (s : State) (t : Nat), s.core.up = true → s.wheel.motion = .hold →
      exec (.phaseHoldEnd t) s =
        .next { s.advance t with wheel := { s.wheel with anchorT := max s.now t, anchorA := s.wheel.anchorA, motion := s.restMotion } }) ∧
    (∀ (s : State) (t : Nat) (e p : Rat), s.core.up = true → s.wheel.motion = .slew e p →
      exec (.phaseSlewEnd t) s =
        .next { s.advance t with wheel :=
          { s.wheel with anchorT := max s.now t, anchorA := s.wheel.angleRat (max s.now t), motion := s.restMotion } }))

/-- CYCLE_BOUNDARY: the cycle count rises by one, or becomes the one after the manager's where a worker adopts it
(R18, R19, R42). COMPILE_COMPLETE: a running compile ends, its result waits for the boundary, and it is counted (R281,
R285, R293). -/
def Obligations.BoundaryCounts : Prop :=
  (∀ (s : State) (t : Nat), s.core.up = true →
      ∃ s', exec (.cycleBoundary t) s = .next s' ∧ s'.wheel.count = s.wheel.mgrCount.getD s.wheel.count + 1) ∧
  (∀ (s : State) (t : Nat), s.core.up = true → s.scr.compiling = true →
      ∃ s', exec (.compileComplete t) s = .next s' ∧ s'.scr.done = satInc s.scr.done ∧ s'.scr.ready ≠ [])

/-- NOP, OPEN, CLOSE, DOORBELL_FETCH, AELOON_BEACON and TRACE_MARK: an entry that is due fires once and has its whole
effect: a group's window opens or closes, a doorbell fetch begins, the manager's next beacon is a cycle beacon, a mark
is written (R32, R44, R45, R54, R56, R58, R59). -/
def Obligations.PoleEntriesFire : Prop :=
  ∀ (s : State) (t idx : Nat) (e : PoleEntry), s.core.up = true → s.poleRuns = true →
    let p := { s.pole with fired := idx :: s.pole.fired }
    let g := bitsAt e.arg.toNat 0 4
    (s.isNop idx = true → exec (.nop t idx) s = .next { s.advance t with pole := p }) ∧
    (s.poleEntry 3 idx = some e → exec (.openWindow t idx) s =
      .next { s.advance t with pole := { p with closed := BitVec.ofNat 16 (setBit s.pole.closed.toNat g false) } }) ∧
    (s.poleEntry 4 idx = some e → exec (.closeWindow t idx) s =
      .next { s.advance t with pole := { p with closed := BitVec.ofNat 16 (setBit s.pole.closed.toNat g true) } }) ∧
    (s.poleEntry 5 idx = some e → s.linkActive = true → exec (.doorbellFetch t idx) s =
      .next { s.advance t with pole := p, link := { s.link with fetching := s.link.fetching + 1 } }) ∧
    (s.poleEntry 7 idx = some e → exec (.aeloonBeacon t idx) s =
      .next { s.advance t with pole := p, aeloon := { s.aeloon with cycleBeacon := s.isManager || s.aeloon.cycleBeacon } }) ∧
    (s.poleEntry 8 idx = some e → (courseNumbers.any fun c => (s.course c).cfg.traced) = true →
      s.tack.trace.state ≠ 2 → ∃ s', exec (.traceMark t idx) s = .next s' ∧ s'.pole = p ∧
        s'.tack.trace = s.tack.trace.write (padTo 64 ([0x80, e.arg, 0, 0, 0, 0, 0, 0] ++ leBytes 8 (s.advance t).stamp)))

/-- STRIKE, PUBLISH and TALLY_TICK: a due strike of an enabled course is taken at this instant, or with an equal
angle's strike, and opens the course's snapshot over its points; under the brown-out warning it is shed and counted
(R49 to R52, R63, R312). A due PUBLISH publishes the course's snapshot, if it has one, as the next of the other half,
which then waits for its block check (R53, R314, R316). A due TALLY_TICK evaluates every string in turn: a string with
a value of every cell records their mean, one without a rest for its drought time is in drought (R57, R474, R479). -/
def Obligations.StrikesFire : Prop :=
  ∀ (s : State) (t idx : Nat) (e : PoleEntry), s.core.up = true → s.poleRuns = true →
    (s.poleEntry 1 idx = some e → (s.course (bitsAt e.arg.toNat 0 4)).cfg.enabled = true → s.warning = false → s.shedFree = false →
      let S := ((s.pole.lastStrike.filter fun m => decide (m.angle = e.angle.toNat) && decide (m.cycle = s.wheel.cycle)).map (·.at')).getD
        (max s.now t)
      ∃ s', exec (.strike t idx) s = .next s' ∧ s'.pole.fired = idx :: s.pole.fired ∧
        s'.pole.lastStrike = some { angle := e.angle.toNat, cycle := s.wheel.cycle, at' := S } ∧
        let c := bitsAt e.arg.toNat 0 4
        (s'.course c).strikes.head? = some (e.angle.toNat, s.wheel.cycle, S) ∧
        ∃ n, (s'.course c).snap = some n ∧ n.angle = e.angle.toNat ∧ n.cycle = s.wheel.cycle ∧
          n.count = s.wheel.count.toNat ∧ n.at' = S ∧ n.points = s.coursePoints c ∧ n.cfg = (s.course c).cfg) ∧
    (s.poleEntry 1 idx = some e → (s.course (bitsAt e.arg.toNat 0 4)).cfg.enabled = true → s.warning = true →
      exec (.strike t idx) s = .next { s.advance t with
        pole := { s.pole with fired := idx :: s.pole.fired }, wheel := { s.wheel with shed := satInc s.wheel.shed } }) ∧
    (s.poleEntry 2 idx = some e → ∃ s', exec (.publish t idx) s = .next s' ∧ s'.pole.fired = idx :: s.pole.fired ∧
      (s'.course (bitsAt e.arg.toNat 0 4)).snap = none) ∧
    (∀ n, s.poleEntry 2 idx = some e → (s.course (bitsAt e.arg.toNat 0 4)).snap = some n →
      let c := bitsAt e.arg.toNat 0 4
      ∃ s', exec (.publish t idx) s = .next s' ∧ (s'.course c).seq = (s.course c).seq + 1 ∧
        (s'.course c).half = (!(s.course c).half) ∧ s'.tack.checkQ = s.tack.checkQ ++ [(c, !(s.course c).half)]) ∧
    (s.poleEntry 6 idx = some e → ∃ s', exec (.tallyTick t idx) s = .next s' ∧ s'.pole.fired = idx :: s.pole.fired ∧
      s'.tally = { (stringNumbers.foldl State.evalString ((s.advance t).markFired idx)).tally with timerAt := max s.now t + seconds 2 } ∧
      ∀ (i : Nat) (b : BatString), i < 32 → s.string i = some b →
        (b.volts.filterMap id = [] → b.drought = false → 86400 * b.cfg.droughtDays ≤ b.sinceRest (max s.now t) →
          ∃ b', s'.string i = some b' ∧ b'.drought = true ∧ b'.pairOk = false ∧ ∀ x ∈ b'.means, x ∈ b.means) ∧
        (b.volts.filterMap id ≠ [] → (b.volts.filterMap id).length = b.cfg.cells.length → b.drought = true → b.restDone = true →
          ∃ b', s'.string i = some b' ∧ b'.means.head? = some (max s.now t,
            (b.volts.filterMap id).foldl (· + ·) 0 / ((b.volts.filterMap id).length : Rat))))

/-- PW_CTRL, PW_NOMINAL and PW_CYCLE_LO (R23, R24, R39, R64, R67): a SEL that the role may not write keeps its value
and the edge bits are taken; a new one takes the wheel to FREE at the nominal rate, waits for acquisition and has the
lists compiled anew; the nominal frequency reads back as written, and under SEL 0b100 is compiled for; a read of the
low count latches the high one. -/
def Obligations.WheelRegisters : Prop :=
  ∀ (s : State) (t : Nat) (v : Word), s.core.up = true → s.isWorker = false →
    (bitsAt v.toNat 0 3 = s.wheel.sel → exec (.pwCtrlWrite t v) s = .next { s.advance t with
      wheel := { s.wheel with ctrl := BitVec.ofNat 32 (bitsAt v.toNat 0 3 + 8 * bitsAt v.toNat 3 2) } }) ∧
    (bitsAt v.toNat 0 3 ≤ 4 → bitsAt v.toNat 0 3 ≠ s.wheel.sel → ∃ s', exec (.pwCtrlWrite t v) s = .next s' ∧
      s'.wheel.ctrl = BitVec.ofNat 32 (bitsAt v.toNat 0 3 + 8 * bitsAt v.toNat 3 2) ∧ s'.wheel.state = .free ∧
      s'.wheel.acq = false ∧ s'.wheel.acqWait = true ∧
      s'.wheel.period = BitVec.ofNat 32 (periodOf ({ s.wheel with ctrl := s'.wheel.ctrl } : Wheel).freeMhz) ∧
      bitAt s'.core.ready.toNat 4 = decide (bitsAt v.toNat 0 3 = 4) ∧ s'.scr.compiling = true) ∧
    (5 ≤ bitsAt v.toNat 0 3 → exec (.pwCtrlWrite t v) s = .next { s.advance t with
      wheel := { s.wheel with ctrl := BitVec.ofNat 32 (bitsAt s.wheel.ctrl.toNat 0 3 + 8 * bitsAt v.toNat 3 2) } }) ∧
    (bitsAt v.toNat 0 20 < 1000 ∨ 1000000 < bitsAt v.toNat 0 20 → exec (.pwNominalWrite t v) s = .next (s.advance t)) ∧
    (1000 ≤ bitsAt v.toNat 0 20 → bitsAt v.toNat 0 20 ≤ 1000000 → s.wheel.sel ≠ 4 → exec (.pwNominalWrite t v) s =
      .next { s.advance t with wheel := { s.wheel with nominalReg := BitVec.ofNat 20 (bitsAt v.toNat 0 20), nominalWait := some (BitVec.ofNat 20 (bitsAt v.toNat 0 20)) } }) ∧
    (1000 ≤ bitsAt v.toNat 0 20 → bitsAt v.toNat 0 20 ≤ 1000000 → s.wheel.sel = 4 → ∃ s', exec (.pwNominalWrite t v) s = .next s' ∧
      s'.wheel = { s.wheel with nominalReg := BitVec.ofNat 20 (bitsAt v.toNat 0 20) } ∧ s'.scr.compiling = true) ∧
    (exec (.pwCycleLoRead t) s = .next { s.advance t with
      lastRead := s.wheel.count.setWidth 32, wheel := { s.wheel with cycleHi := BitVec.ofNat 16 (bitsAt s.wheel.count.toNat 32 16) } })

/-! ### Ports, chains and the cut list (02, 03, 06) -/

/-- CUT_LIST_ENTRY_START on a STRIKE span: an idle Breik port that takes part, in time for the trigger's lead, is
armed with the strike's angle and the closing edge placed before S by half of RT and two T, the RT of four agreeing
echoes taken first (R109, R110, R113, R272). GAP_TRANSACTION_START: in a gap with no retry the port's next open job
starts, on the wire when it fits the gap; BREIK_RETRY: the oldest failed frame is asked again, when it fits the gap,
and counted; CAPPING_WRITE_START: the next capping write takes the free engine (R102, R164, R287, R288, R290). That
a trigger may start up to one angle unit late is the model's choice (log entry 116). -/
def Obligations.PortsTakeWork : Prop :=
  (∀ (s : State) (t p idx : Nat) (e : CutEntry), p < 64 → s.core.up = true →
      let a := s.advance t
      (tget {} s.scr.lists p).entries[idx]? = some e → e.kind = .strikeSpan → 0 ≤ a.entryCycle e →
      s.scr.swapCount ≤ (a.entryCycle e).toNat → (s.portQ p).ran.contains (idx, (a.entryCycle e).toNat) = false →
      a.entryDue p e (a.entryCycle e).toNat = true → s.halterOn = false → s.warning = false → s.shedFree = false →
      s.pole.waits = false → s.engineFree p = true → (s.awl p).cmd = none → (s.awl p).retries = [] → (s.awl p).mode = 1 →
      let q : AwlPort := { s.awl p with rt := (s.awl p).rtDue.getD (s.awl p).rt, rtDue := none }
      let at' := s.wheel.instantOf (max s.now t) ((e.angle : Rat) + 65536 * ((a.entryCycle e - s.wheel.cycle : Int) : Rat))
      max s.now t + (36 + (q.seq + 1).toNat) * q.cmdT 4 ≤ q.strikeEdge at' + s.wheel.period.toNat / 65536 →
      ∃ s', exec (.cutListEntryStart t p idx) s = .next s' ∧
        (s'.awl p).armed = some (e.angle, (2 * at' - q.rt.toNat - 4 * q.cmdT 4) / 2) ∧
        (s'.awl p).seq = (s.awl p).seq + 1 ∧ (s'.awl p).rt = q.rt ∧ (s'.awl p).rtDue = none) ∧
  ((∀ (s : State) (t p : Nat) (j : Job), p < 64 → s.core.up = true → s.halterOn = false → s.warning = false →
      s.engineFree p = true → (s.awl p).retries = [] → (s.awl p).changeCause = 0 → (s.advance t).nextOpenJob p = some j →
      exec (.gapTransactionStart t p) s = .next (((s.advance t).startJob p j).keeping (s.advance t)) ∧
      ((s.awl p).cmd = none → ((s.advance t).awlJob p j).1.code ≠ 6 → (s.advance t).fitsGap p ((s.advance t).awlJob p j).2 = true →
        ∃ s' c, exec (.gapTransactionStart t p) s = .next s' ∧ (s'.awl p).cmd = some c ∧ c.use = .job j.slot ∧
          c.code = ((s.advance t).awlJob p j).1.code ∧ c.pos = ((s.advance t).awlJob p j).1.pos)) ∧
    (∀ (s : State) (t n : Nat) (r : AwlRetry) (rest : List AwlRetry), n < 64 → s.core.up = true → (s.awl n).retries = r :: rest →
      (s.awl n).canStart = true → (s.awl n).changeCause = 0 → (s.awl n).cmd = none →
      (r.code ≠ 6 ∨ (s.awl n).nvBusy.contains r.pos = false) → (s.advance t).rereadInTime n r = true → (s.advance t).retryRoom n r = true →
      ∃ s' c, exec (.breikRetry t n) s = .next s' ∧ (s'.awl n).cmd = some c ∧ c.use = r.use ∧ c.pos = r.pos ∧ c.isRetry = true ∧
        tget 0 s'.ports.awlCtr (32 * n + 17) = satInc (tget 0 s.ports.awlCtr (32 * n + 17))) ∧
    (∀ (s : State) (t p : Nat) (j : Job), 64 ≤ p → p < 128 → s.core.up = true → s.engineFree p = true →
      (s.portQ p).ship = [] → s.nextCapping p = some j →
      ∃ s', exec (.cappingWriteStart t p) s = .next s' ∧ (s'.portQ p).capping = (s.portQ p).capping.filter (· != j.slot) ∧
        (s'.portQ p).capUntil.isSome = true ∧ (s'.tw (p - 64)).xfer.isSome = true))

/-- BREIK_FRAME_RECEIVED on an identity sweep: a frame classed OK with the identity of its position ends the command;
any other class but UNASSIGNED is counted and ends it too (R117, R143). BREIK_RESPONSE_TIMEOUT on an identity sweep,
and SPC_RESPONSE_TIMEOUT on a SENT read that has retries: NO_RESPONSE is counted and the command ends, the SENT read
to be tried again (R117, R124, R143, R164). -/
def Obligations.BreikAnswers : Prop :=
  (∀ (s : State) (t n cal : Nat) (periods : List Nat) (lenBad : Bool) (c : AwlCmd) (cls : FrameClass) (f : Option Frame),
      n < 64 → s.core.up = true → (s.awl n).cmd = some c → c.use = .sweep → c.isRoll = false → (s.awl n).changeCause = 0 →
      classify ((s.awl n).cmdT c.code) ((s.awl n).calScale c.code) (if tget 0 (s.awl n).calPrev c.pos = 0 then none else some (tget 0 (s.awl n).calPrev c.pos))
        c.pos c.code c.seq (if c.kind = 4 then 4 else (s.awl n).expectKind c.pos c.kind) cal periods lenBad = (cls, f) →
      (cls ≠ .ok → cls ≠ .unassigned →
        ∃ s', exec (.breikFrameReceived t n cal periods lenBad) s = .next s' ∧ (s'.awl n).cmd = none ∧
          tget 0 s'.ports.awlCtr (32 * n + cls.counter) = satInc (tget 0 s.ports.awlCtr (32 * n + cls.counter))) ∧
      (∀ g, cls = .ok → f = some g → (s.awl n).map[c.pos - 1]? = some (BitVec.ofNat 64 g.bits) →
        ∃ s', exec (.breikFrameReceived t n cal periods lenBad) s = .next s' ∧ (s'.awl n).cmd = none ∧
          tget 0 (s'.awl n).noResp c.pos = 0)) ∧
  ((∀ (s : State) (t n : Nat) (c : AwlCmd), n < 64 → s.core.up = true → (s.awl n).cmd = some c → c.use = .sweep → c.isRoll = false →
      (s.awl n).changeCause = 0 → tget 0 (s.awl n).noResp c.pos < 2 →
      ∃ s', exec (.breikResponseTimeout t n) s = .next s' ∧ (s'.awl n).cmd = none ∧
        tget 0 (s'.awl n).noResp c.pos = tget 0 (s.awl n).noResp c.pos + 1 ∧
        tget 0 s'.ports.awlCtr (32 * n + 1) = satInc (tget 0 s.ports.awlCtr (32 * n + 1))) ∧
    (∀ (s : State) (t n count : Nat) (c : AwlCmd) (e : CutEntry), n < 64 → s.core.up = true → (s.awl n).mode = 2 →
      (s.awl n).cmd = some c → c.use = .read e count → c.isRetry = false → s.maxRetry e.points ≠ 0 →
      ∃ s', exec (.spcResponseTimeout t n) s = .next s' ∧ (s'.awl n).cmd = none ∧
        (s'.awl n).retries.length = (s.awl n).retries.length + 1 ∧
        tget 0 s'.ports.awlCtr (32 * n + 1) = satInc (tget 0 s.ports.awlCtr (32 * n + 1))))

/-- WRITE_COMMIT_WINDOW_END, SPU_WINDOW_END, ECHO_RECEIVED, ECHO_TIMEOUT: the strong pull-up ends with its window; an
echo within half a command T of its expected time ends the wait, latches the port and starts the pull-up; a missing
echo is counted on the port and among the strikes missed (R101, R108 to R112). -/
def Obligations.StrikeWindows : Prop :=
  (∀ (s : State) (t n : Nat), n < 64 → s.core.up = true → (s.awl n).spu = 2 → (s.awl n).changeCause = 0 →
    ∃ s', exec (.writeCommitWindowEnd t n) s = .next s' ∧ (s'.awl n).spu = 0) ∧
  (∀ (s : State) (t n : Nat), n < 64 → s.core.up = true → (s.awl n).spu = 1 → (s.awl n).changeCause = 0 →
    ∃ s', exec (.spuWindowEnd t n false) s = .next s' ∧ (s'.awl n).spu = 0 ∧ (s'.awl n).life = (s.awl n).life) ∧
  (∀ (s : State) (t n edge angle e : Nat), n < 64 → s.core.up = true → (s.awl n).armed = some (angle, e) →
    let want := e + (s.awl n).rt.toNat + 4 * (s.awl n).cmdT 4
    2 * (max edge want - min edge want) ≤ (s.awl n).cmdT 4 → (s.awl n).changeCause = 0 → (s.awl n).search = none →
    ∃ s', exec (.echoReceived t n edge) s = .next s' ∧ (s'.awl n).armed = none ∧ (s'.awl n).echoOk = true ∧
      (s'.awl n).echoRun = 0 ∧ (s'.awl n).spu = (if s.warning then 0 else 1)) ∧
  (∀ (s : State) (t n angle e : Nat), n < 64 → s.core.up = true → (s.awl n).armed = some (angle, e) →
    ∃ s', exec (.echoTimeout t n) s = .next s' ∧ s'.wheel = { s.wheel with missed := satInc s.wheel.missed })

/-- PRESENCE_PULSE, PRESENCE_COUNT_END, DELAY_PROBE_REFLECTION, DELAY_PROBE_TIMEOUT, SEARCH_RESTART and
UNSTABLE_RETRY: the steps of a chain search (R104 to R107, R134, R135, R140). UNSTABLE_RETRY: a port in UNSTABLE that
is not searching starts a search of one attempt once its interval has passed (R140, R155). -/
def Obligations.SearchSteps : Prop :=
  (∀ (s : State) (t n : Nat) (q : Search), n < 64 → s.core.up = true → (s.awl n).search = some q →
      (∀ start width, q.step = .presence → 6 * us ≤ width → width ≤ 10 * us → q.lastPulse = none →
        q.resetEnd + 6 * us ≤ start → start ≤ q.resetEnd + 11 * us → q.n < 96 →
        ∃ s', exec (.presencePulse t n start width) s = .next s' ∧
          (s'.awl n).search = some { q with n := q.n + 1, lastPulse := some start }) ∧
      (q.step = .presence → q.n ≠ 0 → ∃ s', exec (.presenceCountEnd t n) s = .next s' ∧ (s'.awl n).search = some { q with step := .probe }) ∧
      (∀ dt, q.step = .probe → dt ≤ 1024 → ∃ s' q', exec (.delayProbeReflection t n dt) s = .next s' ∧
        (s'.awl n).search = some q' ∧ q'.step = .identity ∧ q'.idx = 1 ∧ (s'.awl n).rt = BitVec.ofNat 12 (probeRt dt)) ∧
      (q.step = .probe → q.single = false → q.restarts < 3 → ∃ s' q', exec (.delayProbeTimeout t n) s = .next s' ∧
        (s'.awl n).search = some q' ∧ q'.step = .waitRestart ∧ q'.restarts = q.restarts + 1 ∧
        tget 0 s'.ports.awlCtr (32 * n + 16) = satInc (tget 0 s.ports.awlCtr (32 * n + 16))) ∧
      (q.step = .waitRestart → ∃ s' q', exec (.searchRestart t n) s = .next s' ∧
        (s'.awl n).search = some q' ∧ q'.step = .presence ∧ q'.n = 0 ∧ q'.restarts = q.restarts)) ∧
  (∀ (s : State) (t n a : Nat), n < 64 → s.core.up = true → (s.awl n).life = .unstable → (s.awl n).search = none → s.halterOn = false →
      (s.awl n).nextAt = some a → a ≤ max s.now t →
      ∃ s' q, exec (.unstableRetry t n) s = .next s' ∧ (s'.awl n).life = .search ∧ (s'.awl n).search = some q ∧ q.single = true ∧ q.cause = 9)

/-- FENCE_STUCK, FENCE_CHATTER and a limit without a break at SPU_WINDOW_END, of a strike or (the model's choice, log
entry 112) of a commit, fence the port with their cause (R157, R158).
UNFENCE_TIMER, UNFENCE_LINE_CHECK_END and FENCE_INTERVAL_RESET: a fenced port is watched once its interval has passed; a Breik port whose line
stayed high is searched, a two-wire port whose lines did waits for its boundary; the interval returns to its first
value (R159, R160, R210). -/
def Obligations.Fences : Prop :=
  (∀ (s : State) (t n : Nat), n < 64 → s.core.up = true → s.halterOn = false → (s.awl n).mode ≠ 0 → (s.awl n).life ≠ .fenced →
      ((s.awl n).life ≠ .off ∨ (s.awl n).mode = 2) →
      (∀ lowUs, ∃ s', exec (.fenceStuck t n lowUs) s = .next s' ∧ (s'.awl n).life = .fenced ∧ (s'.awl n).fenceCause = 1) ∧
      (∀ edges glitches, bitsAt s.ports.chainLimit.toNat 0 12 < edges ∨ bitsAt s.ports.chainLimit.toNat 12 8 < glitches →
        ∃ s', exec (.fenceChatter t n edges glitches) s = .next s' ∧ (s'.awl n).life = .fenced ∧ (s'.awl n).fenceCause = 2) ∧
      ((s.awl n).spu = 1 ∨ (s.awl n).spu = 2 → ∃ s', exec (.spuWindowEnd t n true) s = .next s' ∧ (s'.awl n).life = .fenced ∧
        (s'.awl n).fenceCause = 3)) ∧
  ((∀ (s : State) (t n a : Nat), n < 64 → s.core.up = true → (s.awl n).life = .fenced → s.portFenced n = true → s.watching n = false →
      s.unfencing n = false → (s.awl n).fenceCause ≠ 4 → s.fenceAuto = true → s.halterOn = false → (s.awl n).nextAt = some a → a ≤ max s.now t →
      ∃ s', exec (.unfenceTimer t n) s = .next s' ∧ (s'.awl n).watch = true ∧ (s'.awl n).nextAt = none ∧ (s'.awl n).life = .fenced) ∧
    (∀ (s : State) (t n : Nat) (b : Bool), n < 64 → s.core.up = true → (s.awl n).watch = true → (s.awl n).mode ≠ 2 →
      ∃ s' q, exec (.unfenceLineCheckEnd t n b true) s = .next s' ∧ (s'.awl n).life = .search ∧ (s'.awl n).search = some q ∧ q.cause = 8) ∧
    (∀ (s : State) (t m : Nat), m < 64 → s.core.up = true → (s.tw m).watch = true →
      ∃ s', exec (.unfenceLineCheckEnd t (64 + m) true true) s = .next s' ∧ (s'.tw m).watch = false ∧ (s'.tw m).returning.isSome = true) ∧
    (∀ (s : State) (t n : Nat), n < 64 → s.core.up = true → s.portFenced n = false →
      ∃ s', exec (.fenceIntervalReset t n) s = .next s' ∧ s'.awl n = { s.awl n with fenceExp := 0 }))

/-- SENT_FRAME_RECEIVED (R122 to R126): on a continuous port a frame of any class is counted by it, and a good one is
the identifier's last, from its calibration edge; on an SPC port a frame that no trigger asked for is no answer, and
a good answer to a read ends its command and is the identifier's last, from its trigger. -/
def Obligations.SentFrames : Prop :=
  ∀ (s : State) (t n id cal edge stop : Nat) (periods : List Nat) (pause : Option Nat) (cls : FrameClass) (body : List Nat),
    n < 64 → s.core.up = true → (s.awl n).mode = 2 → (s.awl n).life ≠ .fenced →
    sentClassify (s.awl n).sentTick (s.sentId n id).calPrev (s.awl n).sentNibbles (bitAt (s.awl n).sent.toNat 4) cal periods = (cls, body) →
    let check := sentNibble cal (periods.getD ((s.awl n).sentNibbles + 1) 0)
    ((s.awl n).sentIdCount = 0 → (s.awl n).cmd = none → ∃ s', exec (.sentFrameReceived t n id cal periods pause edge stop) s = .next s' ∧
      tget 0 s'.ports.awlCtr (32 * n + cls.counter) = satInc (tget 0 s.ports.awlCtr (32 * n + cls.counter)) ∧
      (cls = .ok → (s'.sentId n id).last = some { nibbles := body, check := check, start := edge, stop := stop })) ∧
    ((s.awl n).sentIdCount ≠ 0 → (s.awl n).cmd = none →
      exec (.sentFrameReceived t n id cal periods pause edge stop) s = .next (s.advance t)) ∧
    (∀ c e count, (s.awl n).sentIdCount ≠ 0 → (s.awl n).cmd = some c → c.pos = id → id < (s.awl n).sentIdCount → c.use = .read e count →
      c.isRetry = false → cls = .ok → ∃ s', exec (.sentFrameReceived t n id cal periods pause edge stop) s = .next s' ∧
        (s'.awl n).cmd = none ∧ (s'.sentId n id).last = some { nibbles := body, check := check, start := (s.awl n).spcStart, stop := stop } ∧
        tget 0 s'.ports.awlCtr (32 * n + cls.counter) = satInc (tget 0 s.ports.awlCtr (32 * n + cls.counter)))

/-! ### Two-wire ports (04) -/

/-- TW_ATTEMPT_END and TW_CLOCK_TIMEOUT: a Zone Write that succeeds within half the kerf after S leaves its STOP as
the instant of its strike's zone reads; a VOUT_MODE read or a job's transaction whose clock timed out, to targets not
known absent, waits for the segment, to be tried again before the others (R181, R188, R189, R191, R217, R218, R261).
ARB_LOST and TW_FOREIGN_START_STOP: arbitration lost in an address byte is recorded with the winner's address; in
either case the attempt ends and, with arbitration tries left, waits to be made again (R189, R193 to R196). -/
def Obligations.TwAttempts : Prop :=
  (∀ (s : State) (t m : Nat) (x : TwXfer), m < 64 → s.core.up = true → (s.tw m).xfer = some x → s.tally.going = none →
      (∀ e count start stop nack rx, x.use = .zone e count → x.classify nack rx = .ok → x.firstPec = false →
        (s.advance t).zoneInTime e count stop = true →
        ∃ s', exec (.twAttemptEnd t m start stop nack rx false) s = .next s' ∧ (s'.tw m).xfer = none ∧
          (s'.tw m).zoneStop = some (e.angle, count, stop) ∧ (s'.tw m).segFree = false) ∧
      (((∃ target, x.use = .vmode target) ∨ ∃ slot cap, x.use = .job slot cap ∧ s.twEnding x.use = false) →
        x.left ≠ 0 → x.targets.any (s.tw m).absent.contains = false →
        ∃ s' y, exec (.twClockTimeout t m) s = .next s' ∧ (s'.tw m).xfer = none ∧ (s'.tw m).timeoutAt = some (max s.now t) ∧
          (s'.tw m).scl = false ∧ (s'.tw m).retries = y :: (s.tw m).retries ∧ y.left = x.left - 1 ∧ y.attempts = x.attempts + 1)) ∧
  (∀ (s : State) (t m : Nat) (x : TwXfer), m < 64 → s.core.up = true → (s.tw m).xfer = some x → s.tally.going = none →
      ((∃ target, x.use = .vmode target) ∨ ∃ slot cap, x.use = .job slot cap ∧ s.twEnding x.use = false) →
      x.arbLeft ≠ 0 → x.targets.any (s.tw m).absent.contains = false →
      (∀ byte bit won, ∃ s' y, exec (.arbLost t m byte bit won) s = .next s' ∧ (s'.tw m).xfer = none ∧
        (s'.tw m).arb = arbWord x.addr byte bit (decide (byte = 0) && decide (won % 2 = 0) && s.isTargetAddr m (won / 2)) ∧
        (s'.tw m).retries = y :: (s.tw m).retries ∧ y.arbLeft = x.arbLeft - 1 ∧ y.attempts = x.attempts + 1) ∧
      (∃ s' y, exec (.twForeignStartStop t m) s = .next s' ∧ (s'.tw m).xfer = none ∧
        (s'.tw m).retries = y :: (s.tw m).retries ∧ y.arbLeft = x.arbLeft - 1 ∧ y.attempts = x.attempts + 1))

/-- TW_SEGMENT_FREE: both lines are high and no transaction to a target address goes on; a waiting retry of a capping
write goes out and is counted. TW_TARGET_TRANSACTION_END and the low-power idle commands, of which LPI_ENTER asks for
nothing to serve and a gap of LPI_MIN (R181, R182, R189, R197, R204 to R206, R290). -/
def Obligations.TwSegment : Prop :=
  ∀ (s : State) (t m : Nat), m < 64 → s.core.up = true →
    ((s.tw m).retries = [] → ∃ s', exec (.twSegmentFree t m) s = .next s' ∧
      s'.tw m = { s.tw m with segFree := true, target := false, timeoutAt := none, scl := true, sda := true, entered := false }) ∧
    (∀ x slot, (s.tw m).retries = [x] → x.use = .job slot true → x.attempts ≠ 0 → s.twServing m = true → (s.tw m).xfer = none →
      s.cappingReady (64 + m) = false → (s.tw m).lpi = false → s.warning = false → (s.tw m).watch = false →
      ∃ s', exec (.twSegmentFree t m) s = .next s' ∧ (s'.tw m).xfer = some x ∧ (s'.tw m).retries = [] ∧
        tget 0 s'.ports.bklCtr (32 * m + 11) = satInc (tget 0 s.ports.bklCtr (32 * m + 11))) ∧
    (∀ a l h, s.twServing m = true → (s.tw m).lpi = false → ∃ s', exec (.twTargetTransactionEnd t m 8 false [a, l, h]) s = .next s' ∧
      (s'.tw m).target = false ∧ (s'.tw m).segFree = false ∧ tget 0 s'.ports.bklCtr (32 * m + 14) = satInc (tget 0 s.ports.bklCtr (32 * m + 14))) ∧
    (s.twServing m = true → (s.tw m).lpiEn = true → (s.tw m).xfer = none → (s.tw m).target = false → (s.tw m).retries = [] →
      (s.portQ (64 + m)).jobs = [] → (s.portQ (64 + m)).capping = [] → (s.portQ (64 + m)).ship = [] →
      (s.advance t).alertInput m = none → (s.advance t).vmodeDue m = none →
      (s.advance t).fitsGap (64 + m) (bitsAt (s.tw m).cfg.toNat 24 4 * 1000 * us) = true →
      ∃ s', exec (.lpiEnter t m) s = .next s' ∧ s'.tw m = { s.tw m with lpi := true, waking := false }) ∧
    ((s.tw m).lpi = true → ∃ s', exec (.lpiWake t m) s = .next s' ∧ s'.tw m = { s.tw m with waking := true }) ∧
    ((s.tw m).lpi = true → ∃ s', exec (.lpiAddressMatch t m) s = .next s' ∧ s'.tw m = { s.tw m with waking := true } ∧
      tget 0 s'.ports.bklCtr (32 * m + 16) = satInc (tget 0 s.ports.bklCtr (32 * m + 16))) ∧
    ((s.tw m).lpi = true → (s.tw m).waking = true →
      ∃ s', exec (.lpiWakeDone t m) s = .next s' ∧ s'.tw m = { s.tw m with lpi := false, waking := false })

/-- ALERT_ASSERT, ALERT_RELEASE and ALERT_HOLDOFF (R202, R203): an enabled alert asks its bound ports in turn, and
ends as soon as the input releases; after the hold-off an input still asserted and pending is served again. BUS_CLEAR
that frees the data line leaves the segment to come free, the transaction it interrupts to be tried again; one that
does not fences the port, as does CLOCK_STUCK 10 ms after a TIMEOUT or, with no transaction, at TIMEOUT + 10 ms
(R182, R207 to R209). That the interrupted transaction is retried within ARB_RETRIES is the model's choice (log entry
146). -/
def Obligations.AlertsAndBusRecovery : Prop :=
  (∀ (s : State) (t a : Nat), a < 8 → s.core.up = true →
      ((s.alertOf a).pending = false → s.alertEnabled a = true → ∃ s', exec (.alertAssert t a) s = .next s' ∧
        s'.alertOf a = { s.alertOf a with level := true, pending := true, ports := s.alertPorts a, reads := 0, silent := true }) ∧
      (∃ s', exec (.alertRelease t a) s = .next s' ∧
        s'.alertOf a = { s.alertOf a with level := false, pending := false, ports := [], reads := 0, silent := true }) ∧
      ((s.alertOf a).level = true → (s.alertOf a).pending = true → (s.alertOf a).ports = [] → s.alertEnabled a = true →
        ∃ s', exec (.alertHoldoff t a) s = .next s' ∧
          s'.alertOf a = { s.alertOf a with pending := true, ports := s.alertPorts a, reads := 0, silent := true })) ∧
  (∀ (s : State) (t m : Nat), m < 64 → s.core.up = true → s.twServing m = true → s.tally.going = none →
      (∀ pulses, pulses ≤ 9 → (s.advance t).clearCase m = true → (s.tw m).xfer = none → ∃ s', exec (.busClear t m pulses true) s = .next s' ∧
        s'.tw m = { s.tw m with scl := true, sda := true, segFree := false, timeoutAt := none, target := false, entered := false } ∧
        tget 0 s'.ports.bklCtr (32 * m + 19) = satInc (tget 0 s.ports.bklCtr (32 * m + 19))) ∧
      (∀ pulses x, pulses ≤ 9 → (s.advance t).clearCase m = true → (s.tw m).xfer = some x → x.arbLeft ≠ 0 →
        s.twEnding x.use = false → x.targets.any (s.tw m).absent.contains = false →
        ∃ s' y, exec (.busClear t m pulses true) s = .next s' ∧ (s'.tw m).xfer = none ∧ (s'.tw m).segFree = false ∧
          (s'.tw m).retries = y :: (s.tw m).retries ∧ y.use = x.use ∧ y.arbLeft = x.arbLeft - 1 ∧ y.attempts = x.attempts + 1) ∧
      (∀ pulses, (s.advance t).clearCase m = true → ∃ s', exec (.busClear t m pulses false) s = .next s' ∧
        (s'.tw m).fenced = true ∧ (s'.tw m).fenceCause = 5) ∧
      (∀ lowUs, (s.tw m).xfer = none →
        ((∃ x, (s.tw m).timeoutAt = some x ∧ x + 10000 * us ≤ max s.now t) ∨ (bitsAt (s.tw m).cfg.toNat 9 6 + 10) * 1000 ≤ lowUs) →
        ∃ s', exec (.clockStuck t m lowUs) s = .next s' ∧ (s'.tw m).fenced = true ∧ (s'.tw m).fenceCause = 6 ∧ (s'.tw m).scl = false))

/-! ### Courses, snapshots and the trace ring (07) -/

/-- CINCH_CONVERSION: the conversion stands as its channel's last, with its sample instant (R252). SNAPSHOT_PUBLISH as
LAST_IN: the snapshot whose last due point is resolved is published, and its sequence number counts (R314, R316).
BLOCK_CHECK_READY, SNAPSHOT_COPY_DONE and MERGE_WAIT_EXPIRY: unit 2 takes the published snapshots in turn, completing
the header with the check over its records and starting the host copy of one whose strike was set up for it, or
leaving them unchecked once it has failed; a copy and a rack, none whole behind it, that end while DMA may run take
their buffer of the snapshot ring
(R316, R318, R322, R383). -/
def Obligations.Snapshots : Prop :=
  (∀ (s : State) (t ch code at' : Nat), s.cinch.up = true →
      ∃ s', exec (.cinchConversion t ch code at') s = .next s' ∧
        s'.ports.conv = tinsert s.ports.conv ch (if ch = 4 ∧ s.tfetFitted = false then 0 else code % 4096, at')) ∧
  (∀ (s : State) (t c : Nat) (n : Snap), c < 16 → s.core.up = true → (s.course c).snap = some n → n.unresolved = [] →
      ∃ s', exec (.snapshotPublish t c) s = .next s' ∧ (s'.course c).snap = none ∧ (s'.course c).seq = (s.course c).seq + 1) ∧
  ((∀ (s : State) (t c : Nat) (half : Bool) (rest : List (Nat × Bool)), s.core.up = true → s.tack.checkQ = (c, half) :: rest →
      bitAt s.stitch.failed.toNat 2 = true →
      ∃ s', exec (.blockCheckReady t) s = .next s' ∧ s'.tack.checkQ = rest ∧ s'.tack.banks = s.tack.banks ∧
        s'.link.mem = s.link.mem ∧ ∀ k, (s'.course k).header0 = (s.course k).header0 ∧ (s'.course k).header1 = (s.course k).header1 ∧
          (s'.course k).copies = (s.course k).copies) ∧
    (∀ (s : State) (t c : Nat) (half : Bool) (rest : List (Nat × Bool)), c < 16 → s.core.up = true → s.tack.checkQ = (c, half) :: rest →
      bitAt s.stitch.failed.toNat 2 = false →
      (∃ s', exec (.blockCheckReady t) s = .next s' ∧ s'.tack.checkQ = rest ∧
        (s'.course c).header half = checkedHeader ((s.course c).header half) (s.halfRecords c half)) ∧
      (let g := (s.course c).halfCfg half
       g.toHost = true → g.merged = false → g.toUplink = false → s.linkActive = true → (s.snapRing c).enabled = true →
       s.ringUsed c < (s.snapRing c).buffers → 64 + 8 * (s.halfRecords c half).length ≤ (s.snapRing c).bufBytes →
        ∃ s', exec (.blockCheckReady t) s = .next s' ∧ (s'.course c).copies = (s.course c).copies ++ [(half, false)])) ∧
    (∀ (s : State) (t c : Nat) (half up : Bool), c < 16 → s.core.up = true → s.dmaOpen = true →
      (s.course c).copies.find? (fun x => !x.2) = some (half, up) →
      ∃ s', exec (.snapshotCopyDone t c) s = .next s' ∧ (s'.snapRing c).pi = (s.snapRing c).pi + 1 ∧
        (s'.course c).copies = dropHostCopy (s.course c).copies) ∧
    (∀ (s : State) (t c : Nat) (m : Merge) (rest : List Merge), c < 16 → s.core.up = true → (s.course c).merges = m :: rest →
      m.parts = [] → s.dmaOpen = true → (rest.head?.any fun x => x.expected.all fun n => x.arrived.contains n) = false →
      ∃ s', exec (.mergeWaitExpiry t c) s = .next s' ∧ (s'.course c).merges = rest ∧ (s'.snapRing c).pi = (s.snapRing c).pi + 1))

/-- CS_TR_REARM (R334): a frozen ring records again, or once its running copy has ended. TRACE_FREEZE, TRACE_COPY and
TRACE_COPY_DONE (R330 to R336): a freeze of a ring still recording triggers it; a copy of a frozen ring runs, and the
end of the first one running, while the link may make requests, writes the ring's bytes to its job's destination. -/
def Obligations.TraceRing : Prop :=
  (∀ (s : State) (t : Nat), s.core.up = true →
      (s.tack.trace.copying = true → exec (.csTrRearm t) s =
        .next { s.advance t with tack := { s.tack with trace := { s.tack.trace with rearm := true } } }) ∧
      (s.tack.trace.copying = false → s.tack.trace.state = 2 → ∃ s', exec (.csTrRearm t) s = .next s' ∧ s'.tack.trace.state = 0)) ∧
  (∀ (s : State) (t slot : Nat) (j : Job), slot < 512 → s.core.up = true →
      (s.startable slot 0x18 = some j → s.tack.trace.state = 2 → ∃ s', exec (.traceFreeze t slot) s = .next s' ∧ s'.hasEnded slot 0) ∧
      (s.startable slot 0x18 = some j → s.tack.trace.state = 0 → bitsAt s.tack.trace.ctrl.toNat 0 16 ≠ 0 →
        ∃ s', exec (.traceFreeze t slot) s = .next s' ∧ s'.tack.trace.state = 1 ∧ s'.tack.trace.cause = 3 ∧
          s'.tack.trace.freezeJobs = s.tack.trace.freezeJobs ++ [slot]) ∧
      (s.startable slot 0x19 = some j → s.tack.trace.state ≠ 2 → ∃ s', exec (.traceCopy t slot) s = .next s' ∧ s'.hasEnded slot 0x400) ∧
      (s.startable slot 0x19 = some j → s.tack.trace.state = 2 →
        ∃ s', exec (.traceCopy t slot) s = .next s' ∧ s'.tack.trace.copying = true ∧
          s'.tack.trace.copySlots = s.tack.trace.copySlots ++ [slot]) ∧
      (∀ rest, s.tack.trace.copySlots = slot :: rest → s.job? slot = some j → j.aborted = false → s.linkActive = true →
        ∃ s', exec (.traceCopyDone t) s = .next s' ∧ s'.tack.trace.copySlots = rest ∧
          s'.link.mem = putBytes s.link.mem (j.word 2 + j.word 3 * 2 ^ 32)
            ((s.tack.trace.entries.flatMap s.tack.trace.bytesOf).take (j.word 4))))

/-! ### The host link (08) -/

/-- HL_GO_SET with every condition of the start met, HL_GO_CLEAR, HL_QUIESCED and BUS_MASTER_DISABLE (R346, R349,
R350): of every job that had started as the requests stopped, the DMA has begun. DRAIN_COMPLETE, HOST_LINK_RESET, FUNCTION_LEVEL_RESET, LINK_UP, D3HOT_ENTRY, D3HOT_EXIT and PERST_N_RELEASE
(R341, R346, R387 to R389, R404, R528). -/
def Obligations.LinkRuns : Prop :=
  ((∀ (s : State) (t : Nat), s.core.up = true → s.link.go = false → (s.onLink fun l => { l with bme := true }).goCheck = 0 →
      ∃ s', exec (.hlGoSet t true) s = .next s' ∧ s'.link.go = true ∧ s'.link.goErr = 0 ∧ s'.link.quiesced = false ∧
        (s.draining = false → s'.link.running = true) ∧ (s.draining = true → s'.link.startWait = true)) ∧
    (∀ (s : State) (t : Nat), s.core.up = true → s.link.go = true → exec (.hlGoClear t) s = .next { s.advance t with
      link := { (if s.link.running then s.link.markBegun else s.link) with
                            go := false, running := false, startWait := false, wbDue := 0
                            queues := tmap {} EvQueue.park s.link.queues } }) ∧
    (∀ (s : State) (t : Nat), s.core.up = true → s.link.go = false → exec (.hlQuiesced t) s = .next { s.advance t with
      link := { s.link with quiesced := true, fetching := 0, reads := [] } }) ∧
    (∀ (s : State) (t : Nat), s.core.up = true → s.link.go = true → exec (.busMasterDisable t) s = .next { s.advance t with
      link := { (if s.link.running then s.link.markBegun else s.link) with
                            bme := false, go := false, running := false, startWait := false, wbDue := 0, bmeLost := true
                            queues := tmap {} EvQueue.park s.link.queues } })) ∧
  (∀ (s : State) (t : Nat), s.core.up = true →
      (s.draining = false → s.link.startWait = true → ∃ s', exec (.drainComplete t) s = .next s' ∧ s'.link.running = true ∧
        s'.link.startWait = false) ∧
      (∀ kind, ∃ s', exec (.hostLinkReset t kind) s = .next s' ∧ s'.link.linkUp = false ∧ s'.link.linkLost = s.link.go ∧
        s'.link.running = false ∧ s'.rail.hostEpoch = s.rail.hostEpoch + 1 ∧ bitAt s'.core.ready.toNat 5 = false) ∧
      (∃ s', exec (.functionLevelReset t) s = .next s' ∧ s'.link.go = false ∧ s'.link.running = false ∧
        s'.link.linkUp = s.link.linkUp ∧ s'.rail.hostEpoch = s.rail.hostEpoch + 1) ∧
      (s.link.perst = false → ∃ s', exec (.linkUp t) s = .next s' ∧ s'.link.linkUp = true ∧ bitAt s'.core.ready.toNat 5 = true) ∧
      (∀ pme, exec (.d3hotEntry t pme) s = .next { s.advance t with
        link := { (if s.link.running then s.link.markBegun else s.link) with d3hot := true, pmeEn := pme, queues := tmap {} EvQueue.park s.link.queues } }) ∧
      (s.link.held = [] → ∃ s', exec (.d3hotExit t) s = .next s' ∧ s'.link.d3hot = false ∧ s'.link.mem = s.link.mem) ∧
      exec (.perstNRelease t) s = .next { s.advance t with link := { s.link with perst := false, wakeN := true } })

/-- DOORBELL_INTERVAL; DOORBELL_FETCH_DONE before Foreman G is ready, and after it for one ring whose new descriptors
fit a burst, the ring's end and the 512 jobs in flight, which one read then asks for; DOORBELL_FETCH_FAILED below its
limit; DESCRIPTOR_READ_DONE of a read that failed, and of one descriptor that no test refuses, whose job then stands
in fetch order (R351 to R358, R360, R530). -/
def Obligations.DoorbellFetches : Prop :=
  (∀ (s : State) (t : Nat), s.core.up = true → s.linkActive = true → exec (.doorbellInterval t) s =
    .next { s.advance t with link := { s.link with fetching := s.link.fetching + 1 } }) ∧
  (∀ (s : State) (t : Nat) (ws : List Nat), s.core.up = true → s.link.fetching ≠ 0 → s.link.running = true →
    bitAt s.core.ready.toNat 2 = false → s.link.reads = [] → ∃ s', exec (.doorbellFetchDone t ws) s = .next s' ∧
      s'.link.fetching = s.link.fetching - 1 ∧ s'.link.consecFails = 0 ∧ s'.link.wbDue = s.link.wbDue + 1 ∧ s'.link.jobs = s.link.jobs) ∧
  (∀ (s : State) (t : Nat), s.core.up = true → s.link.fetching ≠ 0 → s.link.consecFails + 1 < 16 →
    exec (.doorbellFetchFailed t) s = .next { s.advance t with link := { s.link with
      fetching := s.link.fetching - 1, dbFails := satInc s.link.dbFails, consecFails := s.link.consecFails + 1 } }) ∧
  (∀ (s : State) (t r k : Nat) (descs : List (List Nat)), r < 8 → s.core.up = true → s.link.running = true →
    s.link.reads = [{ ring := r, n := descs.length, fetch := k }] → (s.ring r).err = 0 →
    ∃ s', exec (.descriptorReadDone t r false descs) s = .next s' ∧ (s'.ring r).err = 2 ∧ s'.link.reads = [] ∧
      s'.link.wbDue = s.link.wbDue + 1 ∧ s'.link.jobs = s.link.jobs) ∧
  (∀ (s : State) (t r : Nat) (ws : List Nat), r < 8 → s.core.up = true → s.link.fetching ≠ 0 → s.linkActive = true →
    bitAt s.core.ready.toNat 2 = true → s.link.reads = [] → (∀ k, k < 8 → k ≠ r → (s.ring k).enabled = false) →
    (s.ring r).enabled = true → (s.ring r).err = 0 →
    let prod : BitVec 16 := BitVec.ofNat 16 (ws.getD r 0)
    let n := countDiff prod (s.ring r).ci
    n ≠ 0 → n ≤ (s.ring r).burst → n ≤ (s.ring r).size → s.inFlight + n ≤ 512 → (s.ring r).ci.toNat % (s.ring r).size + n ≤ (s.ring r).size →
    ∃ s', exec (.doorbellFetchDone t ws) s = .next s' ∧ (s'.ring r).prod = prod ∧ s'.link.reads = [{ ring := r, n := n, fetch := s.link.fetchNo + 1 }] ∧
      s'.link.fetching = s.link.fetching - 1 ∧ s'.link.consecFails = 0) ∧
  (∀ (s : State) (t r k : Nat) (ws : List Nat), r < 8 → s.core.up = true → s.link.running = true →
    s.link.reads = [{ ring := r, n := 1, fetch := k }] → (s.ring r).err ≠ 2 →
    let w0 := ws.getD 0 0 % 2 ^ 32
    let j : Job := { slot := bitsAt w0 23 9, w0 := BitVec.ofNat 32 w0, words := (ws.drop 1).take 15, ring := r, order := s.link.nextOrder }
    s.job? j.slot = none → s.rejection w0 j.word = none →
    ∃ s', exec (.descriptorReadDone t r true [ws]) s = .next s' ∧ (s'.ring r).ci = (s.ring r).ci + 1 ∧ s'.link.reads = [] ∧
      s'.link.wbDue = s.link.wbDue + 1 ∧ s'.link.jobs = s.link.jobs ++ [j])

/-- EVENT_RECORD_WRITE: the first event that waits for its record (those nothing keeps back in order of posting, then
held completions, then other held events) goes out as a 32-byte record at the
producer index, which counts; a byte of host memory outside the record stands as it stood (R372 to R375).
DOORBELL_WRITE_BACK: what has changed is written to the upper half of the doorbell page with the next count;
MSI_X_COALESCE_TIMEOUT: the records written since the last message are signalled, at once where the vector may go out,
else as pending (R353, R374). -/
def Obligations.RecordsAreWritten : Prop :=
  (∀ (s : State) (t q : Nat) (e : Ev) (rest : List Ev), q < 8 → s.core.up = true → s.linkActive = true →
      (s.queue q).open' = true → (s.queue q).waiting = e :: rest →
      ∃ s', exec (.eventRecordWrite t q) s = .next s' ∧ (s'.queue q).pi = (s.queue q).pi + 1 ∧
        (s'.queue q).waiting = rest ∧ (s'.queue q).loss = false ∧
        s'.link.mem = putBytes s.link.mem (baseOf (s.queue q).lo (s.queue q).hi + (s.queue q).pi.toNat % (s.queue q).size * 32)
          (recordBytes (s.queue q) e) ∧
        ∀ a, (a < baseOf (s.queue q).lo (s.queue q).hi + (s.queue q).pi.toNat % (s.queue q).size * 32 ∨
          baseOf (s.queue q).lo (s.queue q).hi + (s.queue q).pi.toNat % (s.queue q).size * 32 + 32 ≤ a) → s'.hostByte a = s.hostByte a) ∧
  ((∀ (s : State) (t : Nat), s.core.up = true → s.linkActive = true → s.link.wbDue ≠ 0 → s.link.wbLast ≠ some s.upperHalf →
      exec (.doorbellWriteBack t) s = .next { s.advance t with link := { s.link with
        wbDue := s.link.wbDue - 1, wbLast := some s.upperHalf, wbCount := s.link.wbCount + 1
        mem := putBytes s.link.mem (s.doorbellBase + 0x800) ((s.upperHalf ++ [(s.link.wbCount + 1).toNat]).flatMap (leBytes 4)) } }) ∧
    (∀ (s : State) (t q : Nat), q < 8 → s.core.up = true → 0 < (s.queue q).unsig →
      ∃ s', exec (.msiXCoalesceTimeout t q) s = .next s' ∧ (s'.queue q).unsig = 0 ∧
        (s.msixOpen (s.queue q).vector = true → s'.link.sent = s.link.sent ++ [(s.queue q).vector]) ∧
        (s.link.msixOn = true → s.msixOpen (s.queue q).vector = false →
          s'.link.pba = s.link.pba ||| BitVec.ofNat 32 (2 ^ (s.queue q).vector))))

/-! ### Jobs (08) -/

/-- JOB_NOP and ABORT of a tag no job carries: the job starts and ends at once, with JOB_DONE and NOT_FOUND; ABORT of a
wire job that is not on the wire and reads no image ends it with ABORTED, and then itself with JOB_DONE (R370, R371). POINT_LOAD, COEF_LOAD, COURSE_SET and POLE_LOAD start and wait for their image; STRING_SET and OCV_LOAD
likewise (R363, R370, R488): nothing but the job's own entry changes. JOB_IMAGE_READ_DONE, of a job no ABORT has named
and whose read could be made: a table load whose image could not be read ends with READ_FAILED; one whose image came in, with no other load to come before it, is checked: it
ends with the status of the check, or its change starts a compile, or waits for the next (R281, R298, R363). -/
def Obligations.JobsStart : Prop :=
  (∀ (s : State) (t slot : Nat) (j : Job), slot < 512 → s.core.up = true →
      (s.startable slot 0 = some j → ∃ s', exec (.jobNop t slot) s = .next s' ∧ s'.hasEnded slot 0) ∧
      (s.startable slot 0x20 = some j → j.tag ≠ bitsAt (j.word 1) 0 16 → (∀ v ∈ s.link.jobs, v.tag ≠ bitsAt (j.word 1) 0 16) →
        ∃ s', exec (.abort t slot) s = .next s' ∧ s'.hasEnded slot 9) ∧
      (∀ v, s.startable slot 0x20 = some j →
        (s.link.jobs.find? fun v => decide (v.slot < 512) && decide (v.slot ≠ slot) && decide (v.tag = bitsAt (j.word 1) 0 16)) = some v →
        s.job? v.slot = some v → v.isWire = true → v.posted = false → v.onWire = false → v.aborted = false →
        s.readingImage v = false → v.draining = false → v.aborters = [] →
        ∃ s', exec (.abort t slot) s = .next s' ∧ s'.hasEnded v.slot 8 ∧ s'.hasEnded slot 0)) ∧
  (∀ (s : State) (t slot : Nat) (j : Job), s.core.up = true →
      let r := { s.advance t with link := { s.link with jobs := s.link.jobs.map fun j => if j.slot = slot then { j with started := true } else j } }
      (s.startable slot 1 = some j → exec (.pointLoad t slot) s = .next r) ∧
      (s.startable slot 2 = some j → exec (.coefLoad t slot) s = .next r) ∧
      (s.startable slot 3 = some j → exec (.courseSet t slot) s = .next r) ∧
      (s.startable slot 4 = some j → exec (.poleLoad t slot) s = .next r) ∧
      (s.startable slot 0x30 = some j → j.sub = 1 → j.read = false → exec (.stringSet t slot) s = .next r) ∧
      (s.startable slot 0x30 = some j → j.sub = 3 → j.read = false → exec (.ocvLoad t slot) s = .next r)) ∧
  (∀ (s : State) (t slot : Nat) (j : Job) (data : List Byte), slot < 512 → s.core.up = true → s.job? slot = some j →
      j.started = true → j.read = false → j.posted = false → j.draining = false → j.aborted = false → s.readOpen j = true → 1 ≤ j.opcode → j.opcode ≤ 4 →
      (∃ s', exec (.jobImageReadDone t slot false data) s = .next s' ∧ s'.hasEnded slot 0xC) ∧
      (j.taken = false → (∀ k ∈ s.link.jobs, k.isTable = true → k = j ∨ k.taken = true ∨ k.posted = true ∨ k.draining = true) →
        (∀ st tbl p i, (s.advance t).readLoad j.opcode j.slot j.word data = .inl (st, tbl, p, i) →
          ∃ s', exec (.jobImageReadDone t slot true data) s = .next s' ∧ s'.hasEnded slot st) ∧
        (∀ c, (s.advance t).readLoad j.opcode j.slot j.word data = .inr c →
          ∃ s', exec (.jobImageReadDone t slot true data) s = .next s' ∧ s'.scr.compiling = true ∧
            (s.scr.compiling = true → s'.scr.gathered = s.scr.gathered ++ [c] ∧ s'.scr.running = s.scr.running) ∧
            (s.scr.compiling = false → s.scr.gathered = [] → s'.scr.running = [c] ∧ s'.scr.gathered = []))))

/-- READ_NOW, WRITE_TARGET and RAW_XFER start; in Halter mode they end with status 7 (R288, R290, R370). READ_NOW,
WRITE_TARGET and RAW_XFER on a two-wire port in service join the port's queue in fetch order and wait for a gap
(R287 to R289). -/
def Obligations.FieldJobs : Prop :=
  (∀ (s : State) (t slot : Nat) (j : Job), slot < 512 → s.core.up = true → s.halterOn = true → s.imageNeed j = 0 →
      (s.startable slot opReadNow = some j → ∃ s', exec (.readNow t slot) s = .next s' ∧ s'.hasEnded slot 7) ∧
      (s.startable slot opWriteTarget = some j → ∃ s', exec (.writeTarget t slot) s = .next s' ∧ s'.hasEnded slot 7) ∧
      (s.startable slot opRawXfer = some j → ∃ s', exec (.rawXfer t slot) s = .next s' ∧ s'.hasEnded slot 7)) ∧
  (∀ (s : State) (t slot : Nat) (j : Job), s.core.up = true → s.halterOn = false → s.imageNeed j = 0 →
      64 ≤ s.jobPort j → s.jobPort j < 128 → s.portMode (s.jobPort j) ≠ 0 → s.portFenced (s.jobPort j) = false →
      (s.rules.capWin : Int) ≥ s.rules.au (s.jobSlot j) →
      let placed := sortBy fun k => ((s.job? k).map (·.order)).getD 0
      (s.startable slot opReadNow = some j → (s.point j.pointIdx).valid = true →
        ∃ s', exec (.readNow t slot) s = .next s' ∧ (s'.portQ (s.jobPort j)).jobs = placed ((s.portQ (s.jobPort j)).jobs ++ [slot])) ∧
      (s.startable slot opWriteTarget = some j → (s.point j.pointIdx).valid = true → (s.point j.pointIdx).prio ≠ 3 →
        (s.point j.pointIdx).xfer = 0 → bitsAt (j.word 2) 0 8 = 1 →
        ∃ s', exec (.writeTarget t slot) s = .next s' ∧ (s'.portQ (s.jobPort j)).jobs = placed ((s.portQ (s.jobPort j)).jobs ++ [slot])) ∧
      (s.startable slot opRawXfer = some j → rawOk (s.jobPort j) (s.portMode (s.jobPort j)) j.word = true →
        ∃ s', exec (.rawXfer t slot) s = .next s' ∧ (s'.portQ (s.jobPort j)).jobs = placed ((s.portQ (s.jobPort j)).jobs ++ [slot])))

/-- CHAIN_SEARCH and PORT_REINIT: refused with the status of the port's condition, or attached to a search that is
running or begins (R150, R151). PORT_FENCE and PORT_UNFENCE: a port in a mode is fenced with cause HOST, one already
fenced with no unfence attempt under way takes that cause; a fenced port's unfence attempt begins, and an unfence of a port that is not fenced is done
(R157, R161). -/
def Obligations.PortJobs : Prop :=
  (∀ (s : State) (t slot : Nat) (j : Job), slot < 512 → s.core.up = true →
      (∀ st, s.startable slot opChainSearch = some j → s.chainRefusal j.portArg = some st →
        ∃ s', exec (.chainSearch t slot) s = .next s' ∧ s'.hasEnded slot st) ∧
      (s.startable slot opChainSearch = some j → s.chainRefusal j.portArg = none → j.portArg < 64 → (s.awl j.portArg).life = .search →
        ∃ s', exec (.chainSearch t slot) s = .next s' ∧ (s'.awl j.portArg).searchJobs = (s.awl j.portArg).searchJobs ++ [slot] ∧
          s'.hasStarted slot) ∧
      (s.startable slot opPortReinit = some j → s.chainRefusal j.portArg = none → j.portArg < 64 →
        ∃ s', exec (.portReinit t slot) s = .next s' ∧ (s'.awl j.portArg).life = .search)) ∧
  (∀ (s : State) (t slot : Nat) (j : Job), slot < 512 → s.core.up = true → s.tally.going = none → j.portArg < 64 →
      s.portMode j.portArg ≠ 0 →
      (s.startable slot opPortFence = some j → s.portFenced j.portArg = false →
        ∃ s', exec (.portFence t slot) s = .next s' ∧ (s'.awl j.portArg).life = .fenced ∧ (s'.awl j.portArg).fenceCause = 4) ∧
      (s.startable slot opPortFence = some j → s.portFenced j.portArg = true → s.watching j.portArg = false →
        ∃ s', exec (.portFence t slot) s = .next s' ∧ (s'.awl j.portArg).fenceCause = 4 ∧ s'.hasEnded slot 0) ∧
      (s.startable slot opPortUnfence = some j → s.halterOn = false → s.unfencing j.portArg = false → s.portFenced j.portArg = true →
        s.watching j.portArg = false → ∃ s', exec (.portUnfence t slot) s = .next s' ∧ (s'.awl j.portArg).watch = true ∧
          (s'.awl j.portArg).unfenceJobs = (s.awl j.portArg).unfenceJobs ++ [slot]) ∧
      (s.startable slot opPortUnfence = some j → s.halterOn = false → s.unfencing j.portArg = false → s.portFenced j.portArg = false →
        ∃ s', exec (.portUnfence t slot) s = .next s' ∧ s'.hasEnded slot 0))

/-- STITCH_RUN and STITCH_RUN_COMPLETE (R239 to R246): with none fetched before it still to start, a sound request takes
the lowest free unit of 4 to 7, a faulty one ends with its fault. A unit that has read its source from host memory is free again and the run counted: CALC ends
with JOB_DONE, CHECK by whether the value over the bytes before the check field is the one the field holds, WRITE with
the value's check field at its destination; an aborted one with ABORTED. -/
def Obligations.StitchRuns : Prop :=
  ∀ (s : State) (t slot u : Nat) (j : Job), slot < 512 → s.core.up = true →
    (s.startable slot 0x1A = some j → s.stitchBefore j = [] → s.stitchFault j = none → s.freeUnit = some u →
      ∃ s' p, exec (.stitchRun t slot) s = .next s' ∧ s'.stitchUnit u = some (slot, p)) ∧
    (∀ st, s.startable slot 0x1A = some j → s.stitchBefore j = [] → s.stitchFault j = some st →
      ∃ s', exec (.stitchRun t slot) s = .next s' ∧ s'.hasEnded slot st ∧ s'.stitch.runs = satInc s.stitch.runs) ∧
    (∀ p data, s.stitchUnit u = some (slot, p) → s.job? slot = some j → j.opcode = 0x1A → j.posted = false → j.draining = false →
      s.stitch.waiting = [] →
      (∀ ok, j.aborted = true → ∃ s', exec (.stitchRunComplete t u ok data) s = .next s' ∧ s'.hasEnded slot 8 ∧
        s'.stitchUnit u = none ∧ s'.stitch.runs = satInc s.stitch.runs) ∧
      (j.aborted = false → j.fromBar2 = false → s.readOpen j = true →
        let d := padTo (j.word 4) data
        let fold := if bitAt (j.word 1) 6 then [] else foldBytes (bitsAt p.cfg.toNat 8 3) (j.word 5)
        let n := d.length - p.checkLen
        (j.stitchOp = 0 → ∃ s', exec (.stitchRunComplete t u true data) s = .next s' ∧ s'.hasEnded slot 0 ∧ s'.stitchUnit u = none ∧
          s'.stitch.runs = satInc s.stitch.runs ∧ s'.link.mem = s.link.mem) ∧
        (j.stitchOp = 1 → ∃ s', exec (.stitchRunComplete t u true data) s = .next s' ∧ s'.stitchUnit u = none ∧
          s'.hasEnded slot (if p.readField (d.drop n) = crcBytes p.crc (fold ++ d.take n) then 0 else 0x401)) ∧
        (j.stitchOp = 2 → s.linkActive = true → ∃ s', exec (.stitchRunComplete t u true data) s = .next s' ∧ s'.stitchUnit u = none ∧
          s'.hasEnded slot 0 ∧
          s'.link.mem = putBytes s.link.mem (j.word 6 + j.word 7 * 2 ^ 32) (p.field (crcBytes p.crc (fold ++ d))))))

/-- WORKER_PUSH: an INNER opcode that no push may carry, and a push while the manager does not send beacons, end with
0x502 and 0x503; an accepted one takes the next push number (R456, R457, R460). FW_STAGE and FW_COMMIT wait while
another firmware job runs; with none, a FW_STAGE whose range or BEGIN is at fault ends with its status and any other
runs and reads its bytes, and a FW_COMMIT of a staged image that is valid and not an older one commits it with the next
sequence number and climbs rung 3 where its word 1 asks for it (R584 to R587). -/
def Obligations.PushesAndFirmwareJobs : Prop :=
  (∀ (s : State) (t slot : Nat) (j : Job) (p : Push), slot < 512 → s.core.up = true → s.startable slot 0x28 = some j → s.push? slot = some p →
      (pushAllowed p.inner = false → ∃ s', exec (.workerPush t slot) s = .next s' ∧ s'.hasEnded slot 0x502) ∧
      (pushAllowed p.inner = true → s.aeloon.state ≠ 4 → ∃ s', exec (.workerPush t slot) s = .next s' ∧ s'.hasEnded slot 0x503) ∧
      (pushAllowed p.inner = true → s.aeloon.state = 4 → p.nodes ≠ [] → (p.nodes.any fun n => !(s.node n).joined) = false →
        ∃ s', exec (.workerPush t slot) s = .next s' ∧ s'.aeloon.pushNum = s.aeloon.pushNum + 1 ∧ s'.hasStarted slot)) ∧
  (∀ (s : State) (t slot : Nat) (j : Job), s.core.up = true → s.fw.running.isSome = true → s.ports.shipResult = none →
      (s.startable slot 0x38 = some j → ∃ s', exec (.fwStage t slot) s = .next s' ∧ s'.fw.waiting = s.fw.waiting ++ [slot] ∧
        s'.fw.running = s.fw.running) ∧
      (s.startable slot 0x39 = some j → ∃ s', exec (.fwCommit t slot) s = .next s' ∧ s'.fw.waiting = s.fw.waiting ++ [slot] ∧
        s'.fw.running = s.fw.running)) ∧
  (∀ (s : State) (t slot : Nat) (j : Job), slot < 512 → s.core.up = true → s.fw.running = none → s.fw.waiting = [] →
      s.ports.shipResult = none → s.tally.going = none →
      (s.startable slot 0x38 = some j → s.stageCheck j = none → ∃ s', exec (.fwStage t slot) s = .next s' ∧
        s'.fw.running = some slot ∧ s'.fw.waiting = [] ∧ s'.hasStarted slot) ∧
      (∀ st, s.startable slot 0x38 = some j → s.stageCheck j = some st → ∃ s', exec (.fwStage t slot) s = .next s' ∧ s'.hasEnded slot st) ∧
      (s.startable slot 0x39 = some j → s.warning = false → s.fw.begun = true → s.imageFault s.stageSlot = none →
        (bitAt s.sill.c.toNat 10 = false ∨ s.fw.version.toNat ≤ s.imageVersion s.stageSlot) →
        ∃ s', exec (.fwCommit t slot) s = .next s' ∧ s'.hasEnded slot 0 ∧ s'.fw.begun = false ∧
          s'.commitSeq s.stageSlot = (s.commitSeq (1 - s.stageSlot) + 1) % 2 ^ 32 ∧
          (bitAt (j.word 1) 0 = true → s'.halter.rung = some (false, 3))))

/-! ### Tally (11) -/

/-- STRING_SET of a sound record, OCV_LOAD of entries up to 100 % while no string is defined, STRING_CLEAR and
LEARN_RESET wait for the cycle boundary, SOC_SET too when its words are finite; a record at fault ends with 0x600, a
string that is not configured with 0x601; TALLY_READ ends at once, and so does LEDGER_SYNC, whose commit begins at once
unless the warning or a commit of the string holds it back (R468, R488, R489). -/
def Obligations.TallyCommands : Prop :=
  ∀ (s : State) (t slot : Nat) (j : Job), slot < 512 → s.core.up = true → s.startable slot 0x30 = some j →
    (∀ d, j.sub = 1 → j.read = true → s.parseString (padTo 320 j.image) = .inr d → ∃ s', exec (.stringSet t slot) s = .next s' ∧
      s'.tally = { s.tally with cmds := s.tally.cmds ++ [.set slot j.str d] }) ∧
    (∀ off, j.sub = 1 → j.read = true → s.parseString (padTo 320 j.image) = .inl off → ∃ s', exec (.stringSet t slot) s = .next s' ∧
      s'.hasEnded slot 0x600) ∧
    (j.sub = 3 → j.read = true → (s.stringDefsNext = []) →
      let ws := (wordsOf j.image).take (bitsAt (j.word 4) 16 13)
      (∀ w ∈ ws, bitsAt w 16 16 ≤ 10000) → ∃ s', exec (.ocvLoad t slot) s = .next s' ∧
        s'.tally = { s.tally with cmds := s.tally.cmds ++ [.ocv slot (bitsAt (j.word 4) 0 12) ws] }) ∧
    (j.sub = 2 → s.stringNext j.str = true → ∃ s', exec (.stringClear t slot) s = .next s' ∧
      s'.tally = { s.tally with cmds := s.tally.cmds ++ [.clear slot j.str] }) ∧
    (j.sub = 2 → s.stringNext j.str = false → ∃ s', exec (.stringClear t slot) s = .next s' ∧ s'.hasEnded slot 0x601) ∧
    (j.sub = 6 → s.stringNext j.str = true → ∃ s', exec (.learnReset t slot) s = .next s' ∧
      s'.tally = { s.tally with cmds := s.tally.cmds ++ [.learnReset slot j.str] }) ∧
    (j.sub = 7 → s.stringConfigured j.str = true → s.ledgerDown = false → s.warning = false →
      (s.tally.writes.any fun x => decide (x.str = j.str)) = false →
      ∃ s' w, exec (.ledgerSync t slot) s = .next s' ∧ s'.hasEnded slot 0 ∧ s'.tally.writes = s.tally.writes ++ [w] ∧
        w.str = j.str ∧ w.cause = 5) ∧
    (∀ soc u, j.sub = 5 → s.stringNext j.str = true → ratOf32 (j.word 2) = some soc → ratOf32 (j.word 3) = some u →
      ∃ s', exec (.socSet t slot) s = .next s' ∧ s'.tally = { s.tally with cmds := s.tally.cmds ++ [.soc slot j.str soc u] }) ∧
    (j.sub = 4 → (s.string j.str).isSome = true →
      ∃ s', exec (.tallyRead t slot) s = .next s' ∧ s'.hasEnded slot 0)

/-- TALLY_EVAL_TIMER evaluates every string in turn once 2 s have passed without a TALLY_TICK, or 1 s since it last did; LEDGER_HOURLY begins a commit of a configured string,
LEDGER_COMMIT_DONE puts the record in force, LEDGER_SCAN makes Tally ready when unit 3 works (R483, R484, R486, R529).
-/
def Obligations.LedgerRuns : Prop :=
  (∀ (s : State) (t : Nat), s.core.up = true → s.tally.timerAt ≤ max s.now t → ∃ s', exec (.tallyEvalTimer t) s = .next s' ∧
    s'.tally = { (stringNumbers.foldl State.evalString (s.advance t)).tally with timerAt := max s.now t + seconds 1 } ∧
    ∀ (i : Nat) (b : BatString), i < 32 → s.string i = some b →
      (b.volts.filterMap id = [] → b.drought = false → 86400 * b.cfg.droughtDays ≤ b.sinceRest (max s.now t) →
        ∃ b', s'.string i = some b' ∧ b'.drought = true ∧ b'.pairOk = false ∧ ∀ x ∈ b'.means, x ∈ b.means) ∧
      (b.volts.filterMap id ≠ [] → (b.volts.filterMap id).length = b.cfg.cells.length → b.drought = true → b.restDone = true →
        ∃ b', s'.string i = some b' ∧ b'.means.head? = some (max s.now t,
          (b.volts.filterMap id).foldl (· + ·) 0 / ((b.volts.filterMap id).length : Rat)))) ∧
  (∀ (s : State) (t i : Nat) (b : BatString), s.core.up = true → s.string i = some b → s.ledgerDown = false → s.warning = false →
    (s.tally.writes.any fun x => decide (x.str = i)) = false → b.lastCommit + 3600 * 256000000 ≤ max s.now t →
    ∃ s' w, exec (.ledgerHourly t i) s = .next s' ∧ s'.tally.writes = s.tally.writes ++ [w] ∧ w.str = i ∧ w.cause = 6) ∧
  (∀ (s : State) (t i : Nat) (w : LedgerWrite), s.core.up = true → (s.tally.writes.find? fun x => decide (x.str = i)) = some w →
    (s.tally.due.find? fun x => decide (x.1 = i)) = none →
    ∃ s', exec (.ledgerCommitDone t i) s = .next s' ∧ s'.ledgerSlot i w.slot = w.bytes) ∧
  (∀ (s : State) (t : Nat), s.core.up = true → bitAt s.core.ready.toNat 2 = true → bitAt s.core.ready.toNat 7 = false → s.ledgerDown = false →
    ∃ s', exec (.ledgerScan t) s = .next s' ∧ bitAt s'.core.ready.toNat 7 = true)

/-- SHIP_ARM arms ship mode of a string at rest with the confirm code; SHIP_GO with another code disarms it, with that
code and within ten seconds it starts the first write (R480, R481). -/
def Obligations.ShipMode : Prop :=
  ∀ (s : State) (t w str : Nat) (b : BatString), s.core.up = true → s.word8 = some w → s.tally.going = none → s.gate.recovery = none →
    (s.chan 8).formal = true → s.shipString w = some (str, b) → b.currentHigh = false →
    (w / 2 ^ 24 = 0x53 → ∃ s', exec (.shipArm t) s = .next s' ∧ s'.tally = { s.tally with armed := some (str, bitsAt w 0 16, max s.now t) }) ∧
    (∀ k code at', w / 2 ^ 24 = 0x54 → s.tally.armed = some (k, code, at') → code ≠ bitsAt w 0 16 → s.ports.shipResult = none →
      ∃ s', exec (.shipGo t) s = .next s' ∧ s'.tally = { s.tally with armed := none }) ∧
    (∀ at' pt data rest, w / 2 ^ 24 = 0x54 → s.tally.armed = some (str, bitsAt w 0 16, at') → max s.now t ≤ at' + 2560000000 →
      s.string str = some b → b.cfg.ship = (pt, data) :: rest → (s.point pt).valid = true → 64 ≤ (s.point pt).src →
      (s.point pt).src < 128 → s.halterOn = false → s.portMode (s.point pt).src ≠ 0 → s.portFenced (s.point pt).src = false →
      ∃ s', exec (.shipGo t) s = .next s' ∧ s'.tally = { s.tally with armed := none, going := some (str, 0) } ∧
        (s'.portQ (s.point pt).src).ship.length = (s.portQ (s.point pt).src).ship.length + 1)

/-! ### The Hitch rail (09) -/

/-- HR_IN_WRITE and HR_OUT_READ on channels 0 to 7: a free inbound box takes the word with the host's epoch and unsets
the last acknowledge's VALID, a full one rejects it and counts; a read of an outbound word returns it, and only in
PLAIN mode releases it (R397, R398, R399). HR_ACK_OUT_WRITE and HR_MODE_WRITE (R399, R401): an acknowledge of a FORMAL
word that is no orphan releases it and reaches the firmware, any other is rejected and counted; DONE for a word of the
start-up report brings the next one, and for its last one clears the count of fault records to report (R533); MODE
changes only while both boxes are empty. HOST_BUMP (R404): a new host epoch; outbound words of channels 0 to 7 are
cleared, inbound ones become orphans, the mode returns to FORMAL, and a Foreman G that is ready posts the report again
from its first word (R534). -/
def Obligations.HostMailbox : Prop :=
  (∀ (s : State) (t c : Nat) (v : Word), c < 8 → s.core.up = true →
      ((s.chan c).inb.full = false → ∃ s', exec (.hrInWrite t c v) s = .next s' ∧
        s'.chan c = { s.chan c with inb := { word := v, full := true, epoch := s.rail.hostEpoch, postedAt := max s.now t }, ackValid := false }) ∧
      ((s.chan c).inb.full = true → ∃ s', exec (.hrInWrite t c v) s = .next s' ∧ s'.chan c = { s.chan c with inReject := true } ∧
        s'.rail.cnt0 = satInc s.rail.cnt0) ∧
      ((s.chan c).outb.full = true → ∃ s', exec (.hrOutRead t c) s = .next s' ∧ s'.lastRead = (s.chan c).outb.word ∧
        ((s.chan c).formal = true → (s.chan c).outb.orphan = false → s'.rail = s.rail) ∧
        ((s.chan c).formal = false → (s'.chan c).outb.full = false)) ∧
      ((s.chan c).outb.full = false → ∃ s', exec (.hrOutRead t c) s = .next s' ∧ s'.lastRead = 0 ∧ s'.rail = s.rail)) ∧
  (∀ (s : State) (t c : Nat), c < 8 → s.core.up = true →
      (∀ code, (s.chan c).formal = true → (s.chan c).outb.full = true → (s.chan c).outb.orphan = false →
        c ≠ 0 ∨ bitAt s.core.ready.toNat 2 = false ∨ s.core.report = none →
        ∃ s', exec (.hrAckOutWrite t c code) s = .next s' ∧ (s'.chan c).outb.full = false ∧ (s'.chan c).fwAck = some code) ∧
      (∀ k, (s.chan 0).formal = true → (s.chan 0).outb.full = true → (s.chan 0).outb.orphan = false →
        bitAt s.core.ready.toNat 2 = true → s.core.reportOut = true → s.core.report = some k →
        (k < 7 → ∃ s', exec (.hrAckOutWrite t 0 0) s = .next s' ∧ (s'.chan 0).outb.full = true ∧
          (s'.chan 0).outb.word = s.reportWord (k + 1) ∧ s'.core.report = some (k + 1)) ∧
        (k = 7 → ∃ s', exec (.hrAckOutWrite t 0 0) s = .next s' ∧ (s'.chan 0).outb.full = false ∧ s'.core.report = some 8 ∧
          s'.mram.unreported = 0)) ∧
      (∀ code, (s.chan c).formal = false ∨ (s.chan c).outb.full = false ∨ (s.chan c).outb.orphan = true →
        ∃ s', exec (.hrAckOutWrite t c code) s = .next s' ∧ s'.chan c = { s.chan c with ackReject := true } ∧
          s'.rail.cnt1 = satInc s.rail.cnt1) ∧
      (∀ v : Word, bitAt v.toNat 2 = false → bitAt v.toNat 0 ≠ (s.chan c).formal →
        ∃ s', exec (.hrModeWrite t c v) s = .next s' ∧
          s'.chan c = (if (s.chan c).inb.full || (s.chan c).outb.full then { s.chan c with modeRefused := true }
            else { s.chan c with formal := bitAt v.toNat 0 }))) ∧
  (∀ (s : State) (t c : Nat), c < 8 → s.core.up = true → ∃ s', exec (.hostBump t) s = .next s' ∧
      s'.rail.hostEpoch = s.rail.hostEpoch + 1 ∧ (s'.chan c).formal = true ∧
      (if c = 0 ∧ bitAt s.core.ready.toNat 2 = true then (s'.chan c).outb.full = true ∧ (s'.chan c).outb.word = s.reportWord 0 ∧
          (s'.chan c).outb.orphan = false ∧ s'.core.report = some 0
        else (s'.chan c).outb.full = false) ∧
      (s'.chan c).inb.orphan = (s.chan c).inb.full ∧ (s'.chan c).inb.full = (s.chan c).inb.full)

/-- FIRMWARE_IN_READ, FIRMWARE_ACK_IN, FIRMWARE_POST_OUT and CROSS_TIMEOUT on channels 1 to 7, which carry no service:
a FORMAL word is taken by the read and released by the acknowledge NO_SERVICE, a PLAIN one is released by the read; an
empty outbound box takes a word; two words that wait cross once (R397, R398, R400, R412). The same four commands on a
cascade channel, 16 up, of a node that is joined (R417, R441). -/
def Obligations.FirmwareMailbox : Prop :=
  (∀ (s : State) (t c : Nat), 1 ≤ c → c < 8 → s.core.up = true →
      ((s.chan c).inb.full = true → (s.chan c).formal = true → (s.chan c).inb.orphan = false →
        ∃ s', exec (.firmwareInRead t c) s = .next s' ∧ s'.chan c = { s.chan c with inb := { (s.chan c).inb with taken := true } }) ∧
      ((s.chan c).inb.full = true → (s.chan c).formal = false →
        ∃ s', exec (.firmwareInRead t c) s = .next s' ∧ (s'.chan c).inb.full = false) ∧
      (∀ code, (s.chan c).inb.full = true → (s.chan c).formal = true → (s.chan c).inb.orphan = false →
        ∃ s', exec (.firmwareAckIn t c code) s = .next s' ∧ (s'.chan c).inb.full = false ∧ (s'.chan c).ackCode = 2 ∧
          (s'.chan c).ackValid = true ∧ (s'.chan c).ackEpoch = s.fwEpochOf c) ∧
      (∀ v, (s.chan c).outb.full = false → ∃ s', exec (.firmwarePostOut t c v) s = .next s' ∧ (s'.chan c).outb.word = v ∧
        (s'.chan c).outb.full = true ∧ (s'.chan c).outb.epoch = s.fwEpochOf c) ∧
      ((s.chan c).formal = true → (s.chan c).inb.full = true → (s.chan c).outb.full = true → (s.chan c).inb.orphan = false →
        (s.chan c).outb.orphan = false → (s.chan c).crossed = false →
        max (s.chan c).inb.postedAt (s.chan c).outb.postedAt + 256 * s.rail.crossTimeout.toNat ≤ max s.now t →
        ∃ s', exec (.crossTimeout t c) s = .next s' ∧ s'.chan c = { s.chan c with crossed := true } ∧ s'.rail.cnt2 = satInc s.rail.cnt2)) ∧
  (∀ (s : State) (t k : Nat), k < 128 → s.core.up = true →
      (∀ w, (s.box k).inWord = some w → (s.box k).formal = true → (s.box k).inOrphan = false →
        ∃ s', exec (.firmwareInRead t (16 + k)) s = .next s' ∧ s'.box k = { s.box k with inTaken := true }) ∧
      (∀ w, (s.box k).inWord = some w → (s.box k).formal = false ∨ (s.box k).inOrphan = true →
        ∃ s', exec (.firmwareInRead t (16 + k)) s = .next s' ∧
          s'.box k = { s.box k with inWord := none, inOrphan := false, inTaken := false }) ∧
      (∀ w code, (s.box k).inWord = some w → (s.box k).formal = true → (s.box k).inOrphan = false →
        ∃ s', exec (.firmwareAckIn t (16 + k) code) s = .next s' ∧ (s'.box k).inWord = none ∧ (s'.box k).inTaken = false ∧
          s'.aeloon.queue = s.aeloon.queue ++ [s.mboxChunk k 1 ((s.box k).lastPost.getD 0) code.toNat]) ∧
      (∀ v, s.linked k = true → (s.box k).outWord = none →
        ∃ s', exec (.firmwarePostOut t (16 + k) v) s = .next s' ∧ (s'.box k).outWord = some v ∧
          (s'.box k).outNum = (s.box k).outNum + 1 ∧
          s'.aeloon.queue = s.aeloon.queue ++ [s.mboxChunk k 0 ((s.box k).outNum + 1).toNat v.toNat]) ∧
      (∀ w v, (s.box k).inWord = some w → (s.box k).outWord = some v → (s.box k).formal = true → (s.box k).inOrphan = false →
        max (s.box k).inAt (s.box k).outAt + 500 * 256 ≤ max s.now t →
        ∃ s', exec (.crossTimeout t (16 + k)) s = .next s' ∧ s'.box k = { s.box k with crossed := true }))

/-! ### The Aeloon cascade (10) -/

/-- SUPERFRAME_START in a standalone Slovor takes the registers written; in the manager with the cascade on, the
superframe counter starts, or counts on (R430, R465). MANAGER_DOWNLINK_TRANSMIT with nothing to repeat: a downlink
frame of this superframe goes out, and an answer of every joined worker is due (R430, R437, R440). -/
def Obligations.ManagerSends : Prop :=
  ((∀ (s : State) (t : Nat), s.core.up = true → s.core.role = .standalone → exec (.superframeStart t) s =
      .next { s.advance t with aeloon := { s.aeloon with ctrl := s.aeloon.ctrlReg, mapCfg := s.aeloon.mapCfgReg } }) ∧
    (∀ (s : State) (t : Nat), s.core.up = true → s.core.role = .manager → bitAt s.aeloon.ctrlReg.toNat 0 = false → s.aeloon.state = 0 →
      exec (.superframeStart t) s =
        .next { s.advance t with aeloon := { s.aeloon with ctrl := s.aeloon.ctrlReg, mapCfg := s.aeloon.mapCfgReg } }) ∧
    (∀ (s : State) (t : Nat), s.core.up = true → s.core.role = .manager → bitAt s.aeloon.ctrlReg.toNat 0 = true → s.alUnits = true →
      s.halterOn = false → s.wheel.owed = none → ∃ s', exec (.superframeStart t) s = .next s' ∧ s'.aeloon.state = 4 ∧
        s'.aeloon.sfc = if s.aeloon.state = 4 then s.aeloon.sfc + 1 else 0)) ∧
  (∀ (s : State) (t : Nat), s.core.up = true → s.core.role = .manager → s.aeloon.state = 4 → s.alRuns = true → s.halterOn = false →
      s.aeloon.ackDue = [] → s.aeloon.queue = [] → s.aeloon.pushes = [] →
      ∃ s', exec (.managerDownlinkTransmit t) s = .next s' ∧
        s'.aeloon.frame = frameBytes 0 2 0 (padPayload (8 * s.aeloon.units) []) 0 (s.aeloon.sfc.toNat % 4096) ∧
        s'.aeloon.ackDue = (s.aeloon.nodes.filter fun x => x.2.joined).map (·.1) ∧ s'.aeloon.kept = [])

/-- BEACON_RECEIVED that fails and one that passes, ALP_MARK and BEACON_LOSS in a worker not yet joined; BEACON_LOSS of
one that is; DOWNLINK_FRAME_RECEIVED that passes (R431, R434, R436, R439, R442, R448). WORKER_SLOT_TRANSMIT of a joined worker, JOIN_CLAIM in an open window, and
PUSH_STAGE_EXPIRY of a push that has its commit (R437, R443, R444, R458). PUSH_STAGE_EXPIRY: a push that was staged
and has no commit is given up (R458). -/
def Obligations.WorkerListensAndSpeaks : Prop :=
  (∀ (s : State) (t : Nat), s.core.up = true → s.workerOn = true → s.aeloon.state = 1 → s.aeloon.joinSlots = none →
      (∀ bytes codeErr arrival, s.aeloon.ctrlReg = s.aeloon.ctrl → s.aeloon.outstanding = false → bytes.length ≠ 64 →
        ∃ s', exec (.beaconReceived t bytes codeErr arrival) s = .next s' ∧ s'.aeloon.lost = s.aeloon.lost + 1 ∧
          s'.aeloon.joinOpen = false ∧ s'.aeloon.units = 0) ∧
      (∀ bytes codeErr arrival, s.aeloon.ctrlReg = s.aeloon.ctrl → s.aeloon.outstanding = false → bytes.length = 64 →
        frameClass bytes codeErr 0 0 0 0 = 0 →
        let p := framePayload bytes
        ∃ s', exec (.beaconReceived t bytes codeErr arrival) s = .next s' ∧ s'.aeloon.lost = 0 ∧
          s'.aeloon.sfc = BitVec.ofNat 32 (leAt p 0 4) ∧ s'.aeloon.rate = BitVec.ofNat 32 (leAt p 8 4) ∧
          s'.aeloon.joinOpen = bitAt (leAt p 18 1) 3 ∧ s'.aeloon.units = leAt p (24 + s.core.node.toNat) 1) ∧
      (∀ endLow pulses, s.wheel.state = .free → s.wheel.alp.acqEdges.length < 3 →
        ∃ s', exec (.alpMark t endLow pulses) s = .next s' ∧ s'.aeloon.lastMark = some endLow ∧ s'.aeloon.alpOk = true) ∧
      (∃ s', exec (.beaconLoss t) s = .next s' ∧ s'.aeloon.lost = 0 ∧ s'.aeloon.alpOk = false ∧ s'.aeloon.state = 1) ∧
      (∀ bytes, frameClass bytes false 0 2 0 (s.aeloon.sfc.toNat % 4096) = 0 → chunksOf bytes = [] →
        ∃ s', exec (.downlinkFrameReceived t bytes false) s = .next s' ∧ s'.aeloon.gotDown = true)) ∧
  (∀ (s : State) (t : Nat), s.core.up = true → s.workerOn = true → s.halterOn = false →
      (s.aeloon.state = 4 → s.aeloon.units ≠ 0 → ∃ s', exec (.workerSlotTransmit t) s = .next s' ∧ s'.aeloon.outstanding = true ∧
        s'.aeloon.resend = false ∧ s'.core.pushResults = []) ∧
      (s.aeloon.state = 1 → s.aeloon.joinOpen = true → exec (.joinClaim t false) s = .next { s.advance t with aeloon := { s.aeloon with
        frame := frameBytes s.core.node.toNat 1 0 ([BitVec.ofNat 8 s.core.node.toNat, 0, 0, 0] ++ leBytes 4 dieNonce) s.core.node.toNat 0
        joinOpen := false, state := 3, backoff := 2, joinSlots := none } }) ∧
      (∀ num, (s.aeloon.staged.any fun x => decide (x.num = num) && x.commit.isNone) = false →
        exec (.pushStageExpiry t num) s = .next (s.advance t))) ∧
  (∀ (s : State) (t : Nat), s.core.up = true → s.workerOn = true → s.aeloon.state = 4 → ∃ s', exec (.beaconLoss t) s = .next s' ∧
      s'.aeloon.state = 1 ∧ s'.aeloon.units = 0 ∧ bitAt s'.core.ready.toNat 6 = false) ∧
  (∀ (s : State) (t : Nat) (x : Staged), s.core.up = true → s.aeloon.staged = [x] → x.commit = none → x.waits = true →
      x.at' + 8000 * superframeTicks ≤ max s.now t →
      ∃ s', exec (.pushStageExpiry t x.num) s = .next s' ∧ s'.aeloon.staged = [x.settled] ∧ s'.job? (512 + x.num) = none)

/-- SLOT_FRAME_RECEIVED, SLOT_MISSED and JOIN_FRAME_RECEIVED in a manager that sends beacons (R437, R439, R443 to
R446): a frame that fails is counted against its node by class, one that passes is heard, ends the
node's run of misses and enters its distance as the mean of the last sixteen; a joined worker's missed slot counts, a granted one's
brings its end nearer; a claim of a free node is granted with the next generation. -/
def Obligations.ManagerHears : Prop :=
  ∀ (s : State) (t n : Nat), 1 ≤ n → n < 32 → s.core.up = true → s.core.role = .manager → s.aeloon.state = 4 → s.alUnits = true →
    (∀ bytes codeErr twoD, (s.node n).units ≠ 0 → (s.node n).slotted = true →
      frameClass bytes codeErr n 2 n (4096 * (s.node n).gen.toNat + s.aeloon.sfc.toNat % 4096) = 2 →
      exec (.slotFrameReceived t n bytes codeErr twoD) s = .next { s.advance t with
        aeloon := { s.aeloon with ctr := bumpTbl s.aeloon.ctr (32 * n + 2) } }) ∧
    (∀ bytes codeErr twoD, (s.node n).units ≠ 0 → (s.node n).slotted = true →
      frameClass bytes codeErr n 2 n (4096 * (s.node n).gen.toNat + s.aeloon.sfc.toNat % 4096) = 0 → chunksOf bytes = [] →
      let ds := (twoD :: (s.node n).ds).take 16
      ∃ s', exec (.slotFrameReceived t n bytes codeErr twoD) s = .next s' ∧ (s'.node n).joined = true ∧ (s'.node n).heard = true ∧
        (s'.node n).missRun = 0 ∧ (s'.node n).granted = none ∧ (s'.node n).lastSfc = s.aeloon.sfc ∧
        (s'.node n).d = BitVec.ofNat 16 (min 65535 (divRound (ds.foldl (· + ·) 0) (2 * ds.length)))) ∧
    ((s.node n).units ≠ 0 → (s.node n).granted = none → (s.node n).joined = true → (s.node n).missRun < 2 →
      ∃ s', exec (.slotMissed t n) s = .next s' ∧ (s'.node n).missRun = (s.node n).missRun + 1 ∧ (s'.node n).heard = false ∧
        (s'.node n).joined = true) ∧
    (∀ bytes, bitAt s.aeloon.ctrl.toNat 1 = true → leAt (framePayload bytes) 0 1 = n → frameClass bytes false n 1 n 0 = 0 →
      (s.node n).joined = false → ∃ s', exec (.joinFrameReceived t bytes false) s = .next s' ∧ (s'.node n).granted = some 3 ∧
        (s'.node n).gen = BitVec.ofNat 4 (if (s.node n).gen.toNat = 15 then 1 else (s.node n).gen.toNat + 1) ∧
        (s'.node n).nonce = BitVec.ofNat 32 (leAt (framePayload bytes) 4 4))

/-! ### Cinch (12) -/

/-- R518: a write of 1 to CN_CLEAR.CLEAR in a secure session moves LATCHED to FAULT_WAIT and leaves the hold that the
restart condition counts from; without a session, or in any other state, it changes nothing of the power entry; and
nothing but a Cinch reset leaves LOCKOUT. -/
def Obligations.LatchAndLockout : Prop :=
  (∀ (s : State) (t : Nat) (v : Word), s.core.up = true → s.gate.session = true → bitAt v.toNat 0 = true → s.cinch.st = .latched →
    ∃ s', exec (.cnClear t v) s = .next s' ∧ s'.cinch.st = .faultWait ∧ s'.cinch.holdFrom = s.cinch.holdFrom) ∧
  (∀ (s s' : State) (t : Nat) (v : Word), s.gate.session = false ∨ s.cinch.st ≠ .latched → exec (.cnClear t v) s = .next s' →
    s'.cinch = s.cinch) ∧
  (∀ s s' : State, step s = .next s' → s.cinch.st = .lockout →
    s'.cinch.st = .lockout ∨ ∃ t rest, s.pending = .cinchReset t :: rest)

/-- R519: the writable fields of CN_CTRL and CN_SOFT keep their values through every command but a write of those two
registers and a Cinch reset, which returns them to their reset values: so through Beam die resets, power cycles,
Halter mode, host-link resets and every rung of the ladder. -/
def Obligations.EntrySettingsSurvive : Prop :=
  (∀ (c : Instr) (s s' : State), exec c s = .next s' →
    (∀ t v, c ≠ .loadOnWrite t v) → (∀ t v, c ≠ .cnSoftWrite t v) → (∀ t, c ≠ .cinchReset t) →
    (∀ t off size v, c = .registerWrite t off size v → off ≠ 0x7004 ∧ off ≠ 0x7008) →
    s'.cinch.loadOn = s.cinch.loadOn ∧ s'.cinch.seatDb = s.cinch.seatDb ∧ s'.cinch.soft = s.cinch.soft) ∧
  (∀ (s : State) (t : Nat), ∃ s', exec (.cinchReset t) s = .next s' ∧ s'.cinch.loadOn = true ∧ s'.cinch.seatDb = 50 ∧ s'.cinch.soft = 0)

/-- CINCH_RESET and CINCH_RESET_EXIT: both dies return to reset and the rails are off, with Halter mode in force; the
Cinch die comes out with V(TMEM) taken as the model's temperature (R496, R514, R524, R525). CINCH_READY and
HK_REGULATION_LOSS: the housekeeping supply's readiness bit and the Beam die's rails (R525, R526). -/
def Obligations.CinchResets : Prop :=
  (∀ (s : State) (t : Nat),
      (∃ s', exec (.cinchReset t) s = .next s' ∧ s'.cinch.up = false ∧ s'.core.up = false ∧ s'.power.railsOff = true ∧
        s'.core.ready = 0x100 ∧ s'.cinch.st = .unseated ∧ s'.mram = s.mram) ∧
      (∀ v, s.cinch.up = false → ∃ s', exec (.cinchResetExit t v) s = .next s' ∧ s'.cinch.up = true ∧ s'.cinch.dt1 = 0 ∧
        s'.cinch.dt2 = (v : Rat) / 20000)) ∧
  (∀ (s : State) (t : Nat), s.cinch.up = true →
      (∃ s', exec (.cinchReady t) s = .next s' ∧ bitAt s'.core.ready.toNat 0 = true ∧ s'.power.railsOff = false) ∧
      (∃ s', exec (.hkRegulationLoss t) s = .next s' ∧ bitAt s'.core.ready.toNat 0 = false))

/-- SEAT_ASSERT, SEAT_DEBOUNCE_EXPIRY and SEAT_REMOVAL (R498 to R500): a seat going low starts the debounce, its end
leaves the entry waiting, and removal returns to UNSEATED from every state but LOCKOUT. VIN_OUT_OF_RANGE,
PRECHARGE_START and PRECHARGE_DONE (R501, R502, R505): a driving entry stops when VIN leaves its range, a waiting one
with nothing against it starts its pre-charge, and one charged near VIN at a low slope starts its ramp and leaves its energy and length in CN_PCH_LAST (R504). R596: beyond
110 V at VIN nothing is specified, and the commands of the entry that measure it stop the model. -/
def Obligations.EntryStarts : Prop :=
  (∀ (s : State) (t : Nat), s.cinch.up = true →
      (s.cinch.st = .unseated → ∃ s', exec (.seatAssert t) s = .next s' ∧ s'.cinch.st = .seating ∧ s'.cinch.seatLow = true) ∧
      (s.cinch.st = .seating → s.cinch.seatLow = true → s.cinch.stAt + s.cinch.seatDb.toNat * ms ≤ max s.now t →
        ∃ s', exec (.seatDebounceExpiry t) s = .next s' ∧ s'.cinch.st = .wait) ∧
      (s.cinch.st ≠ .lockout → ∃ s', exec (.seatRemoval t) s = .next s' ∧ s'.cinch.st = .unseated ∧ s'.cinch.seatLow = false ∧
        s'.cinch.flt = false)) ∧
  (∀ (s : State) (t vin vout slope : Nat), s.cinch.up = true → vin ≤ 110000000 →
      (s.cinch.st.drives = true → (s.noteVin vin).vinStops = true →
        ∃ s', exec (.vinOutOfRange t vin) s = .next s' ∧ s'.cinch.st = .wait ∧ s'.cinch.vin = vin) ∧
      (s.cinch.st = .wait → (((s.advance t).noteVin vin).onCinch fun c => { c with vout := vout }).why = 0 →
        ∃ s', exec (.prechargeStart t vin vout) s = .next s' ∧ s'.cinch.st = .precharge ∧ s'.cinch.pch = true ∧
          s'.cinch.pchStart = some (max s.now t) ∧ s'.cinch.pchRun = 0 ∧
          s'.cinch.pchEnergy = s.cinch.pchEnergy ∧ s'.cinch.pchTicks = s.cinch.pchTicks) ∧
      (s.cinch.st = .precharge → vin ≤ vout + s.pchDv → slope < s.pchDvdt →
        ∃ s', exec (.prechargeDone t vin vout slope) s = .next s' ∧ s'.cinch.st = .ramp ∧ s'.cinch.vout = vout ∧
          s'.cinch.pchEnergy = s.cinch.pchRun ∧ s'.cinch.pchTicks = max s.now t - s.cinch.pchStart.getD (max s.now t))) ∧
  (∀ (s : State) (t vin vout slope vds : Nat) (sense : Int), 110000000 < vin →
      exec (.vinOutOfRange t vin) s = .fault .beyondRatings ∧ exec (.prechargeStart t vin vout) s = .fault .beyondRatings ∧
      exec (.prechargeDone t vin vout slope) s = .fault .beyondRatings ∧ exec (.fetShort t vin vout) s = .fault .beyondRatings ∧
      exec (.fetModelStep t vds sense vin vout) s = .fault .beyondRatings)

/-- RAMP_COMPLETE, PG_ASSERT, PG_LATE and PG_DEASSERT (R506 to R508): the ramp ends in ON, power-good follows the drop
across the FET there, and a late one is remembered. LIMIT_ENTER and LIMIT_EXIT (R509, R520): in ON an excess of
current enters LIMIT and is counted; current 5 % below the limit returns to the state it was entered from. -/
def Obligations.PowerGoodAndLimit : Prop :=
  (∀ (s : State) (t : Nat), s.cinch.up = true →
      (s.cinch.st = .ramp → ∃ s', exec (.rampComplete t) s = .next s' ∧ s'.cinch.st = .on) ∧
      (∀ vds, s.cinch.st = .on → vds < s.vdsPg → exec (.pgAssert t vds) s = .next { s.advance t with
        cinch := { s.cinch with pg := true, pch := false, flt := false, vds := vds } }) ∧
      (s.cinch.st = .on → s.cinch.pg = false → s.cinch.stAt + 100 * ms ≤ max s.now t → exec (.pgLate t) s = .next { s.advance t with cinch := { s.cinch with pgLate := true } }) ∧
      (s.cinch.st = .on → exec (.pgDeassert t) s = .next { s.advance t with cinch := { s.cinch with pg := false } })) ∧
  (∀ (s : State) (t sense : Nat), s.cinch.up = true →
      (s.cinch.st = .on → s.limitNow ≤ sense → ∃ s', exec (.limitEnter t sense) s = .next s' ∧ s'.cinch.st = .limit ∧
        s'.cinch.back = .on ∧ s'.cinch.sense = sense ∧ s'.cinch.limitEntries = satInc s.cinch.limitEntries) ∧
      (s.cinch.st = .limit → s.cinch.back = .on → 100 * sense < 95 * s.limitNow → ∃ s', exec (.limitExit t sense) s = .next s' ∧
        s'.cinch.st = .on ∧ s'.cinch.sense = sense))

/-- PCH_ENERGY, PCH_TIME, GATE_FAIL, FAST_TRIP, OVERLOAD, TFET_HOT and FET_SHORT: the fault that each condition is,
with the state it arose in, the entry driving nothing and one more fault in a row (R505, R509 to R513). A FAST_TRIP of
the step in which a removal ended the drive is the fault too, and UNSEATED stays (R520). -/
def Obligations.CinchFaults : Prop :=
  ∀ (s : State) (t : Nat), s.cinch.up = true →
    let ends (i : Instr) (code : Nat) : Prop := ∃ s', exec i s = .next s' ∧ s'.cinch.fault = BitVec.ofNat 4 code ∧
      s'.cinch.faultState = BitVec.ofNat 4 s.cinch.st.code ∧ s'.cinch.consec = min 255 (s.cinch.consec + 1) ∧
      s'.cinch.pg = false ∧ s'.cinch.pch = false ∧ s'.cinch.flt = true
    (s.cinch.st = .precharge → s.pchEmax < s.cinch.pchRun → ends (.pchEnergy t) 4) ∧
    (∀ a, s.cinch.st = .precharge → s.cinch.pchRun ≤ s.pchEmax → s.cinch.pchStart = some a → a + s.pchTmax ≤ max s.now t →
      ends (.pchTime t) 5) ∧
    (s.cinch.st = .ramp → s.gateRise ≤ s.cinch.rampTicks + (max s.now t - s.cinch.stAt) → ends (.gateFail t) 6) ∧
    (∀ sense : Nat, s.cinch.st.drives = true → s.fastOver sense = true → ends (.fastTrip t sense) 2) ∧
    (s.cinch.st.drives = true → (s.tjTrip : Rat) ≤ s.tModel → s.fastOver s.cinch.sense = false → ends (.overload t) 1) ∧
    (s.cinch.st.drives = true → s.tfetFitted = true → s.cinch.tfetBad = false → (s.tfTrip : Rat) ≤ s.tfetTemp →
      s.fastOver s.cinch.sense = false → s.tModel < (s.tjTrip : Rat) → ends (.tfetHot t) 3) ∧
    (∀ vin vout, vin ≤ 110000000 → s.cinch.st.drives = false → s.cinch.st ≠ .lockout → 9 * vin ≤ 10 * vout →
      s.cinch.offAt + s.shortTime ≤ max s.now t → ends (.fetShort t vin vout) 7) ∧
    (∀ (sense q : Nat) (e : Entry), s.cinch.st = .unseated → s.cinch.quit = some (q, e) → q / us = max s.now t / us →
      s.fastOver sense = true → ∃ s', exec (.fastTrip t sense) s = .next s' ∧ s'.cinch.st = .unseated ∧ s'.cinch.fault = 2 ∧
        s'.cinch.faultState = BitVec.ofNat 4 e.code)

/-- FET_MODEL_STEP, TMEM_REFRESH, MODEL_LOW, RESTART_CONDITION_MET and FAULT_COUNT_RESET (R510 to R515). -/
def Obligations.FetModel : Prop :=
  ∀ (s : State) (t : Nat), s.cinch.up = true →
    (∀ vds sense vin vout, vin ≤ 110000000 → ∃ s', exec (.fetModelStep t vds sense vin vout) s = .next s' ∧ s'.cinch.vds = vds ∧
      s'.cinch.sense = sense ∧ s'.cinch.vin = vin ∧ s'.cinch.vout = vout ∧ 0 ≤ s'.cinch.dt1 ∧ 0 ≤ s'.cinch.dt2 ∧ s'.cinch.st = s.cinch.st) ∧
    exec (.tmemRefresh t) s = .next { s.advance t with cinch := { s.cinch with tmem := min (5 / 2) ((s.cinch.dt1 + s.cinch.dt2) / 50) } } ∧
    (s.tfetFitted = true → s.cinch.tfetBad = false → s.tModel + 15 < s.tfetTemp → exec (.modelLow t) s = .next { s.advance t with
      cinch := { s.cinch with modelLow := true, modelLowCnt := satInc s.cinch.modelLowCnt } }) ∧
    (s.cinch.st = .faultWait → (s.advance t).coolEnough = true → (s.advance t).retryLeft = 0 →
      ∃ s', exec (.restartConditionMet t) s = .next s' ∧ s'.cinch.st = .wait ∧ s'.cinch.holdFrom = s.cinch.holdFrom) ∧
    (∀ a, s.cinch.onAt = some a → a + seconds 60 ≤ max s.now t → exec (.faultCountReset t) s =
      .next { s.advance t with cinch := { s.cinch with consec := 0 } })

/-- CN_SOFT_WRITE, LOAD_ON_WRITE and CN_CLEAR (R516 to R518, R590): the soft-start code is taken; LOAD_ON 0 stops a
driving entry; CN_CLEAR releases LATCHED only in a secure session. -/
def Obligations.CinchRegisters : Prop :=
  ∀ (s : State) (t : Nat) (v : Word), s.core.up = true →
    exec (.cnSoftWrite t v) s = .next { s.advance t with cinch := { s.cinch with soft := BitVec.ofNat 8 v.toNat } } ∧
    (bitAt v.toNat 0 = false → s.cinch.st.drives = true → ∃ s', exec (.loadOnWrite t v) s = .next s' ∧ s'.cinch.loadOn = false ∧
      s'.cinch.st = .wait) ∧
    (bitAt v.toNat 0 = true → ∃ s', exec (.loadOnWrite t v) s = .next s' ∧ s'.cinch.loadOn = true ∧ s'.cinch.st = s.cinch.st) ∧
    (s.gate.session = false → exec (.cnClear t v) s = .next (s.advance t)) ∧
    (s.gate.session = true → bitAt v.toNat 0 = true → s.cinch.st = .latched →
      ∃ s', exec (.cnClear t v) s = .next s' ∧ s'.cinch.st = .faultWait)

/-! ### Bring-up, Halter mode and the ladder (13) -/

/-- BEAM_DIE_RESET_EXIT, FIRMWARE_VERIFIED and FOREMAN_G_READY (R2, R19, R386, R525, R529). ENGINE_SELFTEST_DONE,
STORE_SELFTEST_DONE and STITCH_SELFTEST_DONE (R128, R221, R529, R531): a part that passes is ready, one that fails is
held off. -/
def Obligations.BeamBoots : Prop :=
  (∀ (s : State) (t : Nat),
      (∀ roleSel slot, s.core.up = false → s.power.railsOff = false → bitAt s.core.ready.toNat 0 = true →
        ∃ s', exec (.beamDieResetExit t roleSel slot) s = .next s' ∧ s'.core.up = true ∧ s'.core.bootId = s.mram.bootId + 1 ∧
          s'.mram.bootId = s.mram.bootId + 1 ∧ s'.wheel.count = 0) ∧
      (s.core.up = true → bitAt s.core.ready.toNat 1 = false → ∃ s', exec (.firmwareVerified t) s = .next s' ∧
        bitAt s'.core.ready.toNat 1 = s.bootChoice.1.isSome ∧ s'.fw.rom = s.bootChoice.1.isNone ∧
        (∀ k fb, s.bootChoice.1 = some (k, fb) → s'.fw.fallback = fb ∧ s'.fw.image = decide (k = 1) ∧
          s'.fw.version = BitVec.ofNat 16 (s.imageVersion k)) ∧
        s'.fw.begun = s.fw.begun ∧ s'.fw.running = s.fw.running ∧ s'.fw.waiting = s.fw.waiting) ∧
      (s.core.up = true → bitAt s.core.ready.toNat 1 = true → bitAt s.core.ready.toNat 2 = false → s.core.report = some 8 →
        ∃ s', exec (.foremanGReady t) s = .next s' ∧ bitAt s'.core.ready.toNat 2 = true ∧ s'.core.report = some 0 ∧
          s'.core.gAnswers = true)) ∧
  (∀ (s : State) (t n : Nat), n < 64 → s.core.up = true →
      (∃ s', exec (.engineSelftestDone t n true) s = .next s' ∧ s'.core.readyAwl = s.core.readyAwl ||| BitVec.ofNat 64 (2 ^ n)) ∧
      (∃ s', exec (.engineSelftestDone t (64 + n) true) s = .next s' ∧ s'.core.readyBkl = s.core.readyBkl ||| BitVec.ofNat 64 (2 ^ n)) ∧
      (∃ s', exec (.engineSelftestDone t n false) s = .next s' ∧ (s'.awl n).selfTest = true ∧ (s'.awl n).mode = 0 ∧
        (s'.awl n).life = .off) ∧
      (bitAt s.stitch.failed.toNat 2 = false →
        ∃ s', exec (.storeSelftestDone t true true true) s = .next s' ∧ bitAt s'.core.ready.toNat 3 = true) ∧
      (∀ unit, unit < 8 → ∃ s', exec (.stitchSelftestDone t unit false) s = .next s' ∧
        s'.stitch.failed = s.stitch.failed ||| BitVec.ofNat 8 (2 ^ unit)))

/-- HEARTBEAT_PULSE and HEARTBEAT_WINDOW (R535, R536): a pulse while both Foremen answer fills the window; the third
empty window in a row enters Halter mode with cause 2. HALTER_ENTER (R536, R537): Halter mode comes into force with
its cause and is counted. -/
def Obligations.HalterEnters : Prop :=
  ((∀ (s : State) (t : Nat), s.core.up = true → bitAt s.core.ready.toNat 1 = true →
      ∃ s', exec (.heartbeatPulse t true) s = .next s' ∧ s'.halter.pulse = true ∧ s'.core.gAnswers = true) ∧
    (∀ (s : State) (t : Nat), s.cinch.up = true → s.halter.pulse = true → s.halter.empty < 2 → s.ports.shipResult = none →
      exec (.heartbeatWindow t) s = .next { s.advance t with halter := { s.halter with
        pulse := false, beats := s.halter.beats + 1, empty := 0, auto := false } }) ∧
    (∀ (s : State) (t : Nat), s.cinch.up = true → s.halter.pulse = false → 2 ≤ s.halter.empty → s.halterOn = false →
      s.tally.going = none → ∃ s', exec (.heartbeatWindow t) s = .next s' ∧ s'.halterOn = true ∧ s'.halter.cause = 2 ∧ s'.halter.beats = 0)) ∧
  (∀ (s : State) (t cause : Nat), s.cinch.up = true → s.halterOn = false → 1 ≤ cause → cause ≤ 5 → s.tally.going = none →
      ∃ s', exec (.halterEnter t cause) s = .next s' ∧ s'.halterOn = true ∧ s'.halter.cause = cause ∧
        s'.halter.entries = satInc s.halter.entries ∧ s'.halter.rounds = 0)

/-- HALTER_ROUND, HALTER_POLL, HALTER_EXIT_REQUEST and RUNG_COUNT_RESET (R540 to R544, R548): a round counts; a poll
with no answer is repeated once, a second one is a miss; an answer that is right and within the limits of its position
ends both runs and leaves the load on; the exit takes effect when its conditions hold; a heartbeat lets the count of rungs
start again. -/
def Obligations.HalterRuns : Prop :=
  ∀ (s : State) (t : Nat), s.cinch.up = true →
    (∀ n rt, s.haltEn = true → s.halterOn = true → s.warning = false → ∃ s', exec (.halterRound t n rt) s = .next s' ∧
      s'.halter.rounds = satInc s.halter.rounds ∧ s'.halter.reset = false ∧ s'.halter.roundBad = false) ∧
    (∀ pos periods lenBad, s.haltEn = true → s.halterOn = true → 1 ≤ pos → pos ≤ 16 → bitAt s.posMask (pos - 1) = true →
      s.halter.inRound = true → s.halter.repeated = none → ∃ s', exec (.halterPoll t pos 0 periods lenBad) s = .next s' ∧
        s'.halter.repeated = some pos ∧ s'.halter.seq = s.halter.seq + 1) ∧
    (∀ pos periods lenBad, s.haltEn = true → s.halterOn = true → 1 ≤ pos → pos ≤ 16 → bitAt s.posMask (pos - 1) = true →
      s.halter.inRound = true → s.halter.repeated = some pos → s.missLimit = 0 → ∃ s', exec (.halterPoll t pos 0 periods lenBad) s = .next s' ∧
        s'.halter.repeated = none ∧ s'.halter.miss = BitVec.ofNat 16 (setBit s.halter.miss.toNat (pos - 1) true) ∧
        s'.halter.reset = true ∧ s'.cinch = s.cinch) ∧
    (∀ pos cal periods lenBad f, s.haltEn = true → s.halterOn = true → 1 ≤ pos → pos ≤ 16 → bitAt s.posMask (pos - 1) = true →
      s.halter.inRound = true → s.halter.repeated = none →
      classify 512 1 (if s.halter.cals.any fun x => decide (x.1 = pos) then some (tget 0 s.halter.cals pos) else none) pos 3
        (s.halter.seq + 1).toNat 0 cal periods lenBad = (.ok, some f) →
      (s.limitsOf pos).1 ≤ bitsAt f.bits 12 12 → bitsAt f.bits 12 12 ≤ (s.limitsOf pos).2 →
      ∃ s', exec (.halterPoll t pos cal periods lenBad) s = .next s' ∧ s'.halter.seq = s.halter.seq + 1 ∧
        tget 0 s'.halter.missRun pos = 0 ∧ tget 0 s'.halter.violRun pos = 0 ∧ s'.cinch = s.cinch) ∧
    (s.halterOn = true → s.core.up = true → s.exitReady = true → s.secureHeld = false → s.autoClear = false →
      ∃ s', exec (.halterExitRequest t) s = .next s' ∧ s'.halterOn = false ∧ s'.pole.waits = true ∧ s'.scr.paused = true) ∧
    (0 < s.halter.beats → exec (.rungCountReset t) s = .next { s.advance t with halter := { s.halter with run := 0 } })

/-- WATCHDOG_RUNG3, BEAM_WARM_RESET and BEAM_POWER_CYCLE (R546 to R548, R560): the watchdog climbs rung 3, which
resets the Beam die, or rung 4, which takes its rails too; the Cinch die, MRAM and host memory stand. ID_RESET_WRITE
(R546, R560): the key with bit 0 climbs rung 3 with cause 2, any other value is counted. -/
def Obligations.LadderClimbs : Prop :=
  (∀ (s : State) (t : Nat), s.cinch.up = true →
      (s.warning = false → s.halter.beats = 0 → s.halterOn = true → s.halter.cause = 2 → s.halter.auto = false →
        s.halter.enteredAt + 100 * ms ≤ max s.now t → s.rung4After = 0 → s.tally.going = none →
        ∃ s', exec (.watchdogRung3 t) s = .next s' ∧ s'.halter.rung = some (false, 4) ∧ s'.halter.run = min 15 (s.halter.run + 1)) ∧
      (∀ cause, s.halter.rung = some (false, cause) → ∃ s', exec (.beamWarmReset t) s = .next s' ∧ s'.core.up = false ∧
        s'.core.resetCause = BitVec.ofNat 4 cause ∧ s'.cinch = s.cinch ∧ s'.mram = s.mram ∧ s'.link.mem = s.link.mem ∧
        s'.pole.entries = [] ∧ s'.power.railsOff = s.power.railsOff) ∧
      (∀ cause, s.halter.rung = some (true, cause) → ∃ s', exec (.beamPowerCycle t) s = .next s' ∧ s'.core.up = false ∧
        s'.power.railsOff = true ∧ s'.cinch = s.cinch ∧ s'.mram = s.mram ∧ s'.halter.cycles = satInc s.halter.cycles) ∧
      (s.power.railsOff = true → s.brownedOut = false → exec (.powerCycleEnd t) s =
        .next { s.advance t with power := { s.power with railsOff := false } })) ∧
  (∀ (s : State) (t : Nat) (v : Word), s.core.up = true → s.tally.going = none →
      (bitsAt v.toNat 16 16 = 0x1DA5 → bitAt v.toNat 0 = true → s.warning = false → ∃ s', exec (.idResetWrite t v) s = .next s' ∧
        s'.halter.rung = some (false, 2) ∧ s'.halterOn = true) ∧
      (bitsAt v.toNat 16 16 ≠ 0x1DA5 ∨ bitAt v.toNat 0 = false → s.ports.shipResult = none →
        exec (.idResetWrite t v) s = .next { s.advance t with halter := { s.halter with keyBad := satInc s.halter.keyBad } }))

/-- BROWNOUT_WARNING, BROWNOUT_WARNING_CLEAR, BROWN_OUT and BROWNOUT_COPY_DONE (R550 to R555, R557): the clear lets an
exit from Halter mode that waited for it take effect. FOREMAN_G_RESTART
and FOREMAN_S_RESTART (R404 to R406, R411, R532): the restarted Foreman's readiness falls, its epoch counts, and jobs
waiting for a unit are lost. -/
def Obligations.BrownOut : Prop :=
  (∀ (s : State) (t : Nat), s.cinch.up = true →
      (∀ code hold, s.power.warn = false → ∃ s', exec (.brownoutWarning t code hold) s = .next s' ∧ s'.power.warn = true ∧
        s'.power.holdOk = hold ∧ s'.power.vinCode = code % 4096 ∧ s'.warning = true) ∧
      (s.power.warn = true → ∃ s', exec (.brownoutWarningClear t) s = .next s' ∧ s'.power.warn = false ∧ s'.warning = false ∧
        s'.power.railsOff = (s.power.railsOff && decide (s.core.resetCause ≠ 7)) ∧
        (s.power.railsOff = false → s.core.up = true → s.halter.exitWait = true → s.halterOn = true → s.exitBar = true →
          s.secureHeld = false → s.fw.running = none → s.fw.waiting = [] → s'.halterOn = false)) ∧
      (∃ s', exec (.brownOut t) s = .next s' ∧ s'.core.up = false ∧ s'.core.resetCause = 7 ∧ s'.power.railsOff = true ∧
        s'.cinch = s.cinch ∧ s'.halterOn = true) ∧
      (s.core.up = true → s.power.copying = true → s.halter.waitingRung = none → s.ports.shipResult = none →
        ∃ s', exec (.brownoutCopyDone t) s = .next s' ∧ s'.power.copying = false ∧ s'.power.copyDone = true)) ∧
  (∀ (s : State) (t : Nat), s.core.up = true →
      (s.core.gStart.isSome = true ∨ bitAt s.core.ready.toNat 2 = true → ∃ s', exec (.foremanGRestart t) s = .next s' ∧ bitAt s'.core.ready.toNat 2 = false ∧
        s'.rail.fgEpoch = s.rail.fgEpoch + 1 ∧ s'.stitch.waiting = [] ∧ s'.tab.points = s.tab.points) ∧
      (∃ s', exec (.foremanSRestart t) s = .next s' ∧ bitAt s'.core.ready.toNat 1 = false ∧
        s'.rail.fsEpoch = s.rail.fsEpoch + 1 ∧ s'.tab.points = s.tab.points))

/-! ### The gate, the Sill and recovery (14) -/

/-- SG_CHALLENGE, SG_VERIFY and SG_CLOSE (R574 to R577): a challenge draws a nonce; the right response opens a
session, a wrong one starts a hold-off and is counted; a close ends the session. CHALLENGE_EXPIRY, HOLDOFF_EXPIRY and
SESSION_IDLE_TIMEOUT (R575 to R577). -/
def Obligations.Sessions : Prop :=
  (∀ (s : State) (t : Nat), s.core.up = true →
      (s.gateServed = true → s.gate.session = false → s.gate.state ≠ 3 → s.gate.heldUntil ≤ max s.now t → ∃ s', exec (.sgChallenge t) s = .next s' ∧ s'.gate.state = 1 ∧
        s'.gate.nonce = leBytes 32 (Config.freeNat s.free) ∧ s'.gate.key = s.sillBytes 24 8 ∧ s'.free = s.free + 1) ∧
      (s.gate.state = 1 → max s.now t ≤ s.gate.expiresAt → s.sgResponse = s.sgExpected → ∃ s', exec (.sgVerify t) s = .next s' ∧ s'.gate.session = true ∧ s'.gate.run = 0) ∧
      (s.gate.state = 1 → max s.now t ≤ s.gate.expiresAt → s.sgResponse ≠ s.sgExpected → ∃ s', exec (.sgVerify t) s = .next s' ∧ s'.gate.state = 3 ∧
        s'.gate.fails = satInc s.gate.fails ∧ s'.gate.run = satInc s.gate.run ∧ s'.gate.failedAt = max s.now t) ∧
      (s.gate.session = true → ∃ s', exec (.sgClose t) s = .next s' ∧ s'.gate.session = false ∧
        s'.rail.hostSEpoch = s.rail.hostSEpoch + 1)) ∧
  (∀ (s : State) (t : Nat), s.core.up = true →
      (s.gate.state = 1 → s.gate.expiresAt ≤ max s.now t → exec (.challengeExpiry t) s = .next { s.advance t with gate := { s.gate with state := 0, nonce := [] } }) ∧
      (s.gate.state = 3 → s.gate.heldUntil ≤ max s.now t → exec (.holdoffExpiry t) s = .next { s.advance t with gate := { s.gate with state := 0 } }) ∧
      (s.gate.session = true → s.gate.activeAt + seconds 600 ≤ max s.now t → ∃ s', exec (.sessionIdleTimeout t) s = .next s' ∧ s'.gate.state = 0 ∧ s'.gate.recovery = none ∧
        s'.rail.hostSEpoch = s.rail.hostSEpoch + 1))

/-- SILL_PROGRAM and SILL_PROGRAM_DONE (R562, R570 to R572): a request that nothing refuses begins, a refused one
reports its reason; at the end the row reads 1 in every bit of the data beside those it had, and no other row changes.
-/
def Obligations.SillPrograms : Prop :=
  (∀ (s : State) (t : Nat) (v : Word) (pin vqps : Bool), s.core.up = true → bitsAt v.toNat 16 16 = 0x5111 → bitAt v.toNat 0 = true →
    s.sill.busy = none → s.sill.pgmData ≠ 0 → ∃ s', exec (.sillProgram t v pin vqps) s = .next s' ∧
      ((s.onSill fun x => { x with pin := pin, vqps := vqps }).sillRefusal = 0 →
        s'.sill.pgmState = 1 ∧ s'.sill.busy = some (s.sill.pgmRow.toNat, s.sill.pgmData)) ∧
      ((s.onSill fun x => { x with pin := pin, vqps := vqps }).sillRefusal ≠ 0 → s'.sill.pgmState = 3 ∧ s'.sill.busy = none ∧
        s'.sill.pgmResult = BitVec.ofNat 4 (s.onSill fun x => { x with pin := pin, vqps := vqps }).sillRefusal)) ∧
  (∀ (s : State) (t row : Nat) (data half : Word) (marginOk : Bool), s.sill.busy = some (row, data) → s.sill.abortAt = none →
    ∃ s', exec (.sillProgramDone t marginOk half) s = .next s' ∧ s'.sill.busy = none ∧ s'.sill.pgmState = 2 ∧
      tget 0 s'.sill.rows row = tget 0 s.sill.rows row ||| data ∧
      ∀ r, r ≠ row → tget 0 s'.sill.rows r = tget 0 s.sill.rows r)

/-- SECURE_HALTER_ENTER, SECURE_HALTER_RELEASE, SECURE_RUNG3 and SECURE_RUNG4 on FORMAL channel 8 (R543, R546, R580).
RECOVERY_BEGIN, RECOVERY_WORD and RECOVERY_END under the boot ROM: an image cut short is refused, a whole and valid one
is committed and rung 3 climbed (R588). -/
def Obligations.SecureCommands : Prop :=
  (∀ (s : State) (t w : Nat), s.core.up = true → s.word8 = some w → s.gate.recovery = none → s.tally.going = none →
      (s.chan 8).formal = true → s.warning = false →
      (w = 0x10000000 → s.halterOn = false → ∃ s', exec (.secureHalterEnter t) s = .next s' ∧ s'.halterOn = true ∧ s'.halter.cause = 5 ∧
        s'.halter.secure = true) ∧
      (w = 0x11000000 → s.exitReady = true → s.halterOn = true → ∃ s', exec (.secureHalterRelease t) s = .next s' ∧
        s'.halter.release = true ∧ (s'.chan 8).inb.full = false ∧ (s'.chan 8).ackCode = 0) ∧
      (w = 0x20001DA5 → ∃ s', exec (.secureRung3 t) s = .next s' ∧ s'.halter.rung = some (false, 3)) ∧
      (w = 0x21001DA5 → ∃ s', exec (.secureRung4 t) s = .next s' ∧ s'.halter.rung = some (true, 5))) ∧
  (∀ (s : State) (t w : Nat), s.core.up = true → s.word8 = some w → s.fw.rom = true → (s.chan 8).formal = true → s.tally.going = none →
      (s.gate.recovery = none → w / 2 ^ 24 = 0x30 → 63 ≤ w % 2 ^ 24 → w % 2 ^ 24 ≤ 65534 →
        ∃ s', exec (.recoveryBegin t) s = .next s' ∧ s'.gate.recovery = some (w % 2 ^ 24, 0) ∧ (s'.chan 8).inb.full = false) ∧
      (∀ n k, s.gate.recovery = some (n, k) → k < n → ∃ s', exec (.recoveryWord t) s = .next s' ∧
        s'.gate.recovery = some (n, k + 1) ∧ (s'.chan 8).inb.full = false) ∧
      (w = 0x32000000 → ∀ n k, s.gate.recovery = some (n, k) → k < n → s.ports.shipResult = none →
        ∃ s', exec (.recoveryEnd t) s = .next s' ∧ s'.gate.recovery = none ∧ (s'.chan 8).ackCode = 0x8010) ∧
      (w = 0x32000000 → ∀ n k, s.gate.recovery = some (n, k) → n ≤ k → s.ports.shipResult = none → s.imageFault 0 = none →
        s.warning = false → ∃ s', exec (.recoveryEnd t) s = .next s' ∧ s'.gate.recovery = none ∧ s'.halter.rung = some (false, 3) ∧
        s'.commitSeq 0 = (if s.committed 1 then s.commitSeq 1 + 1 else 1) % 2 ^ 32))

/-! ### Register accesses (00, 06, 14) -/

/-- PT_MAP_SEL, PT_PGRP, PT_AWL_CFG, PT_AWL_SENT and PT_TW_CFG writes: the register reads back what its fields took,
and what waits for a boundary waits (R130, R171, R174, R292). COUNTER_READ_CLEAR and REGISTER_WRITE (R16, R17, R343):
an aligned 32-bit read of a clearing counter returns it and leaves zero; any other size or alignment returns zero, and
a write of that kind changes nothing. -/
def Obligations.RegisterAccesses : Prop :=
  (∀ (s : State) (t n : Nat) (v : Word), s.core.up = true → s.isWorker = false → n < 64 →
      (∃ s', exec (.ptMapSelWrite t v) s = .next s' ∧ s'.ports.mapSel = pack [(0, bitsAt v.toNat 0 6), (8, bitsAt v.toNat 8 7)]) ∧
      (∀ i, i < 32 → ∃ s', exec (.ptPgrpWrite t i v) s = .next s' ∧ tget 0 s'.scr.pgrpReg i = v &&& 0x8F8F8F8F ∧ s'.scr.pgrp = s.scr.pgrp) ∧
      (∃ s', exec (.ptAwlCfgWrite t n v) s = .next s' ∧ (s'.awl n).cfg = (s.awl n).cfg ∧
        (bitsAt v.toNat 0 2 ≤ 2 → (s.awl n).selfTest = false → bitsAt (s'.awl n).cfgReg.toNat 0 2 = bitsAt v.toNat 0 2)) ∧
      let took (old new : Word) (f : Nat × Nat × Nat × Nat) : Prop := bitsAt new.toNat f.1 f.2.1 =
        if f.2.2.1 ≤ bitsAt v.toNat f.1 f.2.1 ∧ bitsAt v.toNat f.1 f.2.1 ≤ f.2.2.2 then bitsAt v.toNat f.1 f.2.1 else bitsAt old.toNat f.1 f.2.1
      (∃ s', exec (.ptAwlSentWrite t n v) s = .next s' ∧ (s'.awl n).sent = (s.awl n).sent ∧ (s'.awl n).life = (s.awl n).life ∧
        ∀ f ∈ ([(0, 3, 1, 6), (3, 1, 0, 1), (4, 1, 0, 1), (5, 2, 0, 2), (7, 3, 0, 4), (10, 6, 0, 63), (16, 5, 0, 31), (21, 7, 3, 90)] :
          List (Nat × Nat × Nat × Nat)), took (s.awl n).sentReg (s'.awl n).sentReg f) ∧
      (∃ s', exec (.ptTwCfgWrite t n v) s = .next s' ∧ (s'.tw n).cfg = (s.tw n).cfg ∧ (s'.tw n).fenced = (s.tw n).fenced ∧
        ((s.tw n).selfTest = false → took (s.tw n).cfgReg (s'.tw n).cfgReg (0, 2, 0, 1)) ∧
        ∀ f ∈ ([(2, 2, 0, 2), (4, 5, 0, 31), (9, 6, 25, 35), (15, 1, 0, 1), (16, 7, 0, 127), (23, 1, 0, 1), (24, 4, 1, 15)] :
          List (Nat × Nat × Nat × Nat)), took (s.tw n).cfgReg (s'.tw n).cfgReg f)) ∧
  (∀ (s : State) (t : Nat) (v : Word), s.core.up = true →
      exec (.counterReadClear t 0x4038 4) s = .next { s.advance t with
        lastRead := pack [(0, s.wheel.steps.toNat), (16, s.wheel.holds.toNat)], wheel := { s.wheel with steps := 0, holds := 0 } } ∧
      exec (.counterReadClear t 0x7024 4) s = .next { s.advance t with lastRead := s.readReg 0x7024
                                                                       cinch := { s.cinch with halterTrip := 0, limitEntries := 0, modelLowCnt := 0, gateFs := 0 } } ∧
      (∀ off size, size ≠ 4 ∨ off % 4 ≠ 0 → exec (.counterReadClear t off size) s = .next { s.advance t with lastRead := 0 }) ∧
      (∀ off size, size ≠ 4 ∨ off % 4 ≠ 0 → s.ports.shipResult = none → exec (.registerWrite t off size v) s = .next (s.advance t)) ∧
      (s.ports.shipResult = none → s.isWorker = false → exec (.registerWrite t 0x400C 4 v) s = .next { s.advance t with
        wheel := { s.wheel with a := { s.wheel.a with offset := v.setWidth 16 } } }))
end

