-- ==== Sys2Proof/Laws/Ops.lean ====
section
/-! SUPPORT. What the shared operations can do, each said once: which part of the state an operation on events, jobs,
compiles and host memory replaces, and how a command that acts on a die ends. -/
namespace Sys2Proof.Machine

/-! ### How commands end -/

theorem always_next (t : Nat) (s : State) (f : State → State) :
    always t s f = .next ((f (s.advance t)).keeping (s.advance t)) := rfl

theorem onBeam_next (t : Nat) (s : State) (f : State → State) (h : s.core.up = true) :
    onBeam t s f = .next ((f (s.advance t)).keeping (s.advance t)) := by
  have h' : (s.advance t).core.up = true := h
  simp [onBeam, h']

/-- While the Beam die is in reset only time passes. -/
theorem onBeam_down (t : Nat) (s : State) (f : State → State) (h : s.core.up = false) : onBeam t s f = .next (s.advance t) := by
  have h' : (s.advance t).core.up = false := h
  simp [onBeam, h']

theorem onCinchDie_next (t : Nat) (s : State) (f : State → State) (h : s.cinch.up = true) :
    onCinchDie t s f = .next ((f (s.advance t)).keeping (s.advance t)) := by
  have h' : (s.advance t).cinch.up = true := h
  simp [onCinchDie, h']

theorem onCinchDie_down (t : Nat) (s : State) (f : State → State) (h : s.cinch.up = false) :
    onCinchDie t s f = .next (s.advance t) := by
  have h' : (s.advance t).cinch.up = false := h
  simp [onCinchDie, h']

/-- Within the ratings a command of the power entry is one of the Cinch die. -/
theorem onEntry_within (t vin : Nat) (s : State) (f : State → State) (h : vin ≤ 110000000) : onEntry t vin s f = onCinchDie t s f := by
  simp [onEntry, Nat.not_lt.2 h]

/-! ### Events and jobs: only the link changes -/

theorem onQueue_link (s : State) (q : Nat) (f : EvQueue → EvQueue) : ∃ l, s.onQueue q f = { s with link := l } := by
  simp only [State.onQueue]
  split
  · exact ⟨_, rfl⟩
  · exact ⟨s.link, rfl⟩

theorem signalPme_link (s : State) : ∃ l, s.signalPme = { s with link := l } := by
  simp only [State.signalPme]
  split
  · exact ⟨s.link, rfl⟩
  · split
    · exact ⟨_, rfl⟩
    · split
      · exact ⟨_, rfl⟩
      · exact ⟨s.link, rfl⟩

theorem post_link (s : State) (code src : Nat) (payload : List Byte) (status : Nat) :
    ∃ l, s.post code src payload status = { s with link := l } := by
  simp only [State.post]
  split
  · obtain ⟨l, h⟩ := onQueue_link s (bitsAt s.link.evtRoute.toNat (4 * (code / 16) - 4) 3)
      fun x => x.push s.linkActive { code := code, src := src, status := status, time := s.stamp, payload := payload16 payload }
    rw [h]
    exact signalPme_link _
  · exact ⟨s.link, rfl⟩

theorem postCourse_link (s : State) (c code : Nat) (payload : List Byte) : ∃ l, s.postCourse c code payload = { s with link := l } := by
  simp only [State.postCourse]
  split
  · obtain ⟨l, h⟩ := onQueue_link s (bitsAt (s.snapRing c).cfg.toNat 18 3)
      fun x => x.push s.linkActive { code := code, src := c, time := s.stamp, payload := payload16 payload }
    rw [h]
    exact signalPme_link _
  · exact ⟨s.link, rfl⟩

theorem postCompletion_link (s : State) (w0 : Word) (slot : Option Nat) (status detail : Nat) (payload : List Byte) :
    ∃ l, s.postCompletion w0 slot status detail payload = { s with link := l } := by
  simp only [State.postCompletion]
  obtain ⟨l, h⟩ := onQueue_link s (if (s.queue (bitsAt w0.toNat 8 3)).enabled then bitsAt w0.toNat 8 3 else s.firstQueue)
    fun x => x.push s.linkActive { code := if status = 0 then 1 else 2, src := bitsAt w0.toNat 16 16, status := status,
                                   detail := detail, time := s.stamp, payload := payload16 payload, slot := slot }
  rw [h]
  exact signalPme_link _

/-! ### Completions and readiness: the link, the Beam die's own record and the count of stitch runs -/

theorem countRun_runs (s : State) (opcode : Nat) : ∃ n, s.countRun opcode = { s with stitch := { s.stitch with runs := n } } := by
  simp only [State.countRun]
  split
  · exact ⟨_, rfl⟩
  · exact ⟨s.stitch.runs, rfl⟩

theorem finishOne_parts (s : State) (slot status detail : Nat) (payload : List Byte) :
    ∃ l c n, s.finishOne slot status detail payload = { s with link := l, core := c, stitch := { s.stitch with runs := n } } := by
  simp only [State.finishOne]
  split
  · exact ⟨s.link, s.core, s.stitch.runs, rfl⟩
  · rename_i j hj
    split
    · exact ⟨s.link, s.core, s.stitch.runs, rfl⟩
    · obtain ⟨n, hn⟩ := countRun_runs s j.opcode
      rw [hn]
      split
      · exact ⟨_, s.core, n, rfl⟩
      · split
        · exact ⟨_, _, n, rfl⟩
        · obtain ⟨l, h⟩ := postCompletion_link ((State.onJob { s with stitch := { s.stitch with runs := n } } slot
            fun j => { j with posted := true, status := status })) j.w0 (some slot) status detail payload
          exact ⟨l, s.core, n, h⟩

theorem complete_parts (s : State) (slot status : Nat) (payload : List Byte) (detail : Nat) :
    ∃ l c n, s.complete slot status payload detail = { s with link := l, core := c, stitch := { s.stitch with runs := n } } := by
  simp only [State.complete]
  split
  · exact ⟨s.link, s.core, s.stitch.runs, rfl⟩
  · rename_i j hj
    have fold : ∀ (as : List Nat) (r : State), (∃ l c n, r = { s with link := l, core := c, stitch := { s.stitch with runs := n } }) →
        ∃ l c n, as.foldl (fun s a => s.finishOne a (if status = 8 then 0 else 0xA) 0 (leBytes 2 j.tag ++ if status = 8 then leBytes 2 status else [])) r
          = { s with link := l, core := c, stitch := { s.stitch with runs := n } } := by
      intro as
      induction as with
      | nil => exact fun r h => h
      | cons a as ih =>
        rintro r ⟨l, c, n, rfl⟩
        refine ih _ ?_
        obtain ⟨l', c', n', h⟩ := finishOne_parts { s with link := l, core := c, stitch := { s.stitch with runs := n } } a
          (if status = 8 then 0 else 0xA) 0 (leBytes 2 j.tag ++ if status = 8 then leBytes 2 status else [])
        exact ⟨l', c', n', h⟩
    exact fold _ _ (finishOne_parts s slot status detail payload)

theorem postReady_link (s : State) (reg new old : Nat) : ∃ l, s.postReady reg new old = { s with link := l } := by
  simp only [State.postReady]
  split
  · exact ⟨s.link, rfl⟩
  · exact post_link _ _ _ _ _

theorem setReady_link (s : State) (bit : Nat) (v : Bool) :
    ∃ l, s.setReady bit v = { s with link := l, core := { s.core with ready := BitVec.ofNat 10 (setBit s.core.ready.toNat bit v) } } := by
  obtain ⟨l, h⟩ := postReady_link (s.onCore fun c => { c with ready := BitVec.ofNat 10 (setBit s.core.ready.toNat bit v) }) 0
    (setBit s.core.ready.toNat bit v) s.core.ready.toNat
  exact ⟨l, h⟩

/-! ### Compiles: only the Scriber changes -/

theorem startCompile_scr (s : State) : ∃ c, s.startCompile = { s with scr := c } := by
  simp only [State.startCompile]
  split
  · exact ⟨s.scr, rfl⟩
  · generalize takeChanges s.scr.gathered false = x
    obtain ⟨take, wait⟩ := x
    dsimp only
    split
    · exact ⟨s.scr, rfl⟩
    · exact ⟨_, rfl⟩

theorem requestCompile_scr (s : State) (x : Change) : ∃ c, s.requestCompile x = { s with scr := c } := by
  obtain ⟨c, h⟩ := startCompile_scr (s.onScr fun y => { y with gathered := y.gathered ++ [x] })
  exact ⟨c, h⟩

/-! ### Host memory -/

/-- A write of bytes lands in host memory or waits, and changes nothing else. -/
theorem writeHost_link (s : State) (addr : Nat) (bs : List Byte) :
    s.writeHost addr bs = { s with link := { s.link with mem := putBytes s.link.mem addr bs } } ∨
    s.writeHost addr bs = { s with link := { s.link with held := s.link.held ++ [(addr, bs)] } } := by
  simp only [State.writeHost, State.onLink]
  split
  · exact .inl rfl
  · exact .inr rfl

theorem writeBegun_link (s : State) (addr : Nat) (bs : List Byte) :
    s.writeBegun addr bs = { s with link := { s.link with mem := putBytes s.link.mem addr bs } } ∨
    s.writeBegun addr bs = { s with link := { s.link with held := s.link.held ++ [(addr, bs)] } } := by
  simp only [State.writeBegun]
  split
  · exact .inl rfl
  · exact writeHost_link s addr bs

/-! ### Counters and free values -/

theorem awlCount_ports (s : State) (n i : Nat) : ∃ p, s.awlCount n i = { s with ports := p } := ⟨_, rfl⟩
theorem bklCount_ports (s : State) (m i : Nat) : ∃ p, s.bklCount m i = { s with ports := p } := ⟨_, rfl⟩
theorem scrCount_scr (s : State) (p i : Nat) : ∃ c, s.scrCount p i = { s with scr := c } := ⟨_, rfl⟩

/-- A free value is one application of the constant; the counter moves on and nothing else changes. -/
theorem takeFree_eq (s : State) : s.takeFree = (Config.freeNat s.free, { s with free := s.free + 1 }) := rfl

end Sys2Proof.Machine
end

