-- ==== Sys2Proof/Laws/State.lean ====
section
/-! SUPPORT. One lemma per field per update of the state, each true by unfolding: the updates of one part of the state,
the passing of time, and what a command leaves as it stood. -/
namespace Sys2Proof.Machine

/-! `onWheel` -/

@[simp] theorem State.onWheel_now (s : State) (f : Wheel → Wheel) : (s.onWheel f).now = s.now := rfl
@[simp] theorem State.onWheel_pending (s : State) (f : Wheel → Wheel) : (s.onWheel f).pending = s.pending := rfl
@[simp] theorem State.onWheel_free (s : State) (f : Wheel → Wheel) : (s.onWheel f).free = s.free := rfl
@[simp] theorem State.onWheel_lastRead (s : State) (f : Wheel → Wheel) : (s.onWheel f).lastRead = s.lastRead := rfl
@[simp] theorem State.onWheel_wheel (s : State) (f : Wheel → Wheel) : (s.onWheel f).wheel = f s.wheel := rfl
@[simp] theorem State.onWheel_pole (s : State) (f : Wheel → Wheel) : (s.onWheel f).pole = s.pole := rfl
@[simp] theorem State.onWheel_tab (s : State) (f : Wheel → Wheel) : (s.onWheel f).tab = s.tab := rfl
@[simp] theorem State.onWheel_scr (s : State) (f : Wheel → Wheel) : (s.onWheel f).scr = s.scr := rfl
@[simp] theorem State.onWheel_ports (s : State) (f : Wheel → Wheel) : (s.onWheel f).ports = s.ports := rfl
@[simp] theorem State.onWheel_tack (s : State) (f : Wheel → Wheel) : (s.onWheel f).tack = s.tack := rfl
@[simp] theorem State.onWheel_stitch (s : State) (f : Wheel → Wheel) : (s.onWheel f).stitch = s.stitch := rfl
@[simp] theorem State.onWheel_link (s : State) (f : Wheel → Wheel) : (s.onWheel f).link = s.link := rfl
@[simp] theorem State.onWheel_rail (s : State) (f : Wheel → Wheel) : (s.onWheel f).rail = s.rail := rfl
@[simp] theorem State.onWheel_core (s : State) (f : Wheel → Wheel) : (s.onWheel f).core = s.core := rfl
@[simp] theorem State.onWheel_tally (s : State) (f : Wheel → Wheel) : (s.onWheel f).tally = s.tally := rfl
@[simp] theorem State.onWheel_sill (s : State) (f : Wheel → Wheel) : (s.onWheel f).sill = s.sill := rfl
@[simp] theorem State.onWheel_gate (s : State) (f : Wheel → Wheel) : (s.onWheel f).gate = s.gate := rfl
@[simp] theorem State.onWheel_aeloon (s : State) (f : Wheel → Wheel) : (s.onWheel f).aeloon = s.aeloon := rfl
@[simp] theorem State.onWheel_fw (s : State) (f : Wheel → Wheel) : (s.onWheel f).fw = s.fw := rfl
@[simp] theorem State.onWheel_mram (s : State) (f : Wheel → Wheel) : (s.onWheel f).mram = s.mram := rfl
@[simp] theorem State.onWheel_cinch (s : State) (f : Wheel → Wheel) : (s.onWheel f).cinch = s.cinch := rfl
@[simp] theorem State.onWheel_halter (s : State) (f : Wheel → Wheel) : (s.onWheel f).halter = s.halter := rfl
@[simp] theorem State.onWheel_power (s : State) (f : Wheel → Wheel) : (s.onWheel f).power = s.power := rfl

/-! `onPole` -/

@[simp] theorem State.onPole_now (s : State) (f : Pole → Pole) : (s.onPole f).now = s.now := rfl
@[simp] theorem State.onPole_pending (s : State) (f : Pole → Pole) : (s.onPole f).pending = s.pending := rfl
@[simp] theorem State.onPole_free (s : State) (f : Pole → Pole) : (s.onPole f).free = s.free := rfl
@[simp] theorem State.onPole_lastRead (s : State) (f : Pole → Pole) : (s.onPole f).lastRead = s.lastRead := rfl
@[simp] theorem State.onPole_wheel (s : State) (f : Pole → Pole) : (s.onPole f).wheel = s.wheel := rfl
@[simp] theorem State.onPole_pole (s : State) (f : Pole → Pole) : (s.onPole f).pole = f s.pole := rfl
@[simp] theorem State.onPole_tab (s : State) (f : Pole → Pole) : (s.onPole f).tab = s.tab := rfl
@[simp] theorem State.onPole_scr (s : State) (f : Pole → Pole) : (s.onPole f).scr = s.scr := rfl
@[simp] theorem State.onPole_ports (s : State) (f : Pole → Pole) : (s.onPole f).ports = s.ports := rfl
@[simp] theorem State.onPole_tack (s : State) (f : Pole → Pole) : (s.onPole f).tack = s.tack := rfl
@[simp] theorem State.onPole_stitch (s : State) (f : Pole → Pole) : (s.onPole f).stitch = s.stitch := rfl
@[simp] theorem State.onPole_link (s : State) (f : Pole → Pole) : (s.onPole f).link = s.link := rfl
@[simp] theorem State.onPole_rail (s : State) (f : Pole → Pole) : (s.onPole f).rail = s.rail := rfl
@[simp] theorem State.onPole_core (s : State) (f : Pole → Pole) : (s.onPole f).core = s.core := rfl
@[simp] theorem State.onPole_tally (s : State) (f : Pole → Pole) : (s.onPole f).tally = s.tally := rfl
@[simp] theorem State.onPole_sill (s : State) (f : Pole → Pole) : (s.onPole f).sill = s.sill := rfl
@[simp] theorem State.onPole_gate (s : State) (f : Pole → Pole) : (s.onPole f).gate = s.gate := rfl
@[simp] theorem State.onPole_aeloon (s : State) (f : Pole → Pole) : (s.onPole f).aeloon = s.aeloon := rfl
@[simp] theorem State.onPole_fw (s : State) (f : Pole → Pole) : (s.onPole f).fw = s.fw := rfl
@[simp] theorem State.onPole_mram (s : State) (f : Pole → Pole) : (s.onPole f).mram = s.mram := rfl
@[simp] theorem State.onPole_cinch (s : State) (f : Pole → Pole) : (s.onPole f).cinch = s.cinch := rfl
@[simp] theorem State.onPole_halter (s : State) (f : Pole → Pole) : (s.onPole f).halter = s.halter := rfl
@[simp] theorem State.onPole_power (s : State) (f : Pole → Pole) : (s.onPole f).power = s.power := rfl

/-! `onTab` -/

@[simp] theorem State.onTab_now (s : State) (f : Tables → Tables) : (s.onTab f).now = s.now := rfl
@[simp] theorem State.onTab_pending (s : State) (f : Tables → Tables) : (s.onTab f).pending = s.pending := rfl
@[simp] theorem State.onTab_free (s : State) (f : Tables → Tables) : (s.onTab f).free = s.free := rfl
@[simp] theorem State.onTab_lastRead (s : State) (f : Tables → Tables) : (s.onTab f).lastRead = s.lastRead := rfl
@[simp] theorem State.onTab_wheel (s : State) (f : Tables → Tables) : (s.onTab f).wheel = s.wheel := rfl
@[simp] theorem State.onTab_pole (s : State) (f : Tables → Tables) : (s.onTab f).pole = s.pole := rfl
@[simp] theorem State.onTab_tab (s : State) (f : Tables → Tables) : (s.onTab f).tab = f s.tab := rfl
@[simp] theorem State.onTab_scr (s : State) (f : Tables → Tables) : (s.onTab f).scr = s.scr := rfl
@[simp] theorem State.onTab_ports (s : State) (f : Tables → Tables) : (s.onTab f).ports = s.ports := rfl
@[simp] theorem State.onTab_tack (s : State) (f : Tables → Tables) : (s.onTab f).tack = s.tack := rfl
@[simp] theorem State.onTab_stitch (s : State) (f : Tables → Tables) : (s.onTab f).stitch = s.stitch := rfl
@[simp] theorem State.onTab_link (s : State) (f : Tables → Tables) : (s.onTab f).link = s.link := rfl
@[simp] theorem State.onTab_rail (s : State) (f : Tables → Tables) : (s.onTab f).rail = s.rail := rfl
@[simp] theorem State.onTab_core (s : State) (f : Tables → Tables) : (s.onTab f).core = s.core := rfl
@[simp] theorem State.onTab_tally (s : State) (f : Tables → Tables) : (s.onTab f).tally = s.tally := rfl
@[simp] theorem State.onTab_sill (s : State) (f : Tables → Tables) : (s.onTab f).sill = s.sill := rfl
@[simp] theorem State.onTab_gate (s : State) (f : Tables → Tables) : (s.onTab f).gate = s.gate := rfl
@[simp] theorem State.onTab_aeloon (s : State) (f : Tables → Tables) : (s.onTab f).aeloon = s.aeloon := rfl
@[simp] theorem State.onTab_fw (s : State) (f : Tables → Tables) : (s.onTab f).fw = s.fw := rfl
@[simp] theorem State.onTab_mram (s : State) (f : Tables → Tables) : (s.onTab f).mram = s.mram := rfl
@[simp] theorem State.onTab_cinch (s : State) (f : Tables → Tables) : (s.onTab f).cinch = s.cinch := rfl
@[simp] theorem State.onTab_halter (s : State) (f : Tables → Tables) : (s.onTab f).halter = s.halter := rfl
@[simp] theorem State.onTab_power (s : State) (f : Tables → Tables) : (s.onTab f).power = s.power := rfl

/-! `onScr` -/

@[simp] theorem State.onScr_now (s : State) (f : Scriber → Scriber) : (s.onScr f).now = s.now := rfl
@[simp] theorem State.onScr_pending (s : State) (f : Scriber → Scriber) : (s.onScr f).pending = s.pending := rfl
@[simp] theorem State.onScr_free (s : State) (f : Scriber → Scriber) : (s.onScr f).free = s.free := rfl
@[simp] theorem State.onScr_lastRead (s : State) (f : Scriber → Scriber) : (s.onScr f).lastRead = s.lastRead := rfl
@[simp] theorem State.onScr_wheel (s : State) (f : Scriber → Scriber) : (s.onScr f).wheel = s.wheel := rfl
@[simp] theorem State.onScr_pole (s : State) (f : Scriber → Scriber) : (s.onScr f).pole = s.pole := rfl
@[simp] theorem State.onScr_tab (s : State) (f : Scriber → Scriber) : (s.onScr f).tab = s.tab := rfl
@[simp] theorem State.onScr_scr (s : State) (f : Scriber → Scriber) : (s.onScr f).scr = f s.scr := rfl
@[simp] theorem State.onScr_ports (s : State) (f : Scriber → Scriber) : (s.onScr f).ports = s.ports := rfl
@[simp] theorem State.onScr_tack (s : State) (f : Scriber → Scriber) : (s.onScr f).tack = s.tack := rfl
@[simp] theorem State.onScr_stitch (s : State) (f : Scriber → Scriber) : (s.onScr f).stitch = s.stitch := rfl
@[simp] theorem State.onScr_link (s : State) (f : Scriber → Scriber) : (s.onScr f).link = s.link := rfl
@[simp] theorem State.onScr_rail (s : State) (f : Scriber → Scriber) : (s.onScr f).rail = s.rail := rfl
@[simp] theorem State.onScr_core (s : State) (f : Scriber → Scriber) : (s.onScr f).core = s.core := rfl
@[simp] theorem State.onScr_tally (s : State) (f : Scriber → Scriber) : (s.onScr f).tally = s.tally := rfl
@[simp] theorem State.onScr_sill (s : State) (f : Scriber → Scriber) : (s.onScr f).sill = s.sill := rfl
@[simp] theorem State.onScr_gate (s : State) (f : Scriber → Scriber) : (s.onScr f).gate = s.gate := rfl
@[simp] theorem State.onScr_aeloon (s : State) (f : Scriber → Scriber) : (s.onScr f).aeloon = s.aeloon := rfl
@[simp] theorem State.onScr_fw (s : State) (f : Scriber → Scriber) : (s.onScr f).fw = s.fw := rfl
@[simp] theorem State.onScr_mram (s : State) (f : Scriber → Scriber) : (s.onScr f).mram = s.mram := rfl
@[simp] theorem State.onScr_cinch (s : State) (f : Scriber → Scriber) : (s.onScr f).cinch = s.cinch := rfl
@[simp] theorem State.onScr_halter (s : State) (f : Scriber → Scriber) : (s.onScr f).halter = s.halter := rfl
@[simp] theorem State.onScr_power (s : State) (f : Scriber → Scriber) : (s.onScr f).power = s.power := rfl

/-! `onPorts` -/

@[simp] theorem State.onPorts_now (s : State) (f : Ports → Ports) : (s.onPorts f).now = s.now := rfl
@[simp] theorem State.onPorts_pending (s : State) (f : Ports → Ports) : (s.onPorts f).pending = s.pending := rfl
@[simp] theorem State.onPorts_free (s : State) (f : Ports → Ports) : (s.onPorts f).free = s.free := rfl
@[simp] theorem State.onPorts_lastRead (s : State) (f : Ports → Ports) : (s.onPorts f).lastRead = s.lastRead := rfl
@[simp] theorem State.onPorts_wheel (s : State) (f : Ports → Ports) : (s.onPorts f).wheel = s.wheel := rfl
@[simp] theorem State.onPorts_pole (s : State) (f : Ports → Ports) : (s.onPorts f).pole = s.pole := rfl
@[simp] theorem State.onPorts_tab (s : State) (f : Ports → Ports) : (s.onPorts f).tab = s.tab := rfl
@[simp] theorem State.onPorts_scr (s : State) (f : Ports → Ports) : (s.onPorts f).scr = s.scr := rfl
@[simp] theorem State.onPorts_ports (s : State) (f : Ports → Ports) : (s.onPorts f).ports = f s.ports := rfl
@[simp] theorem State.onPorts_tack (s : State) (f : Ports → Ports) : (s.onPorts f).tack = s.tack := rfl
@[simp] theorem State.onPorts_stitch (s : State) (f : Ports → Ports) : (s.onPorts f).stitch = s.stitch := rfl
@[simp] theorem State.onPorts_link (s : State) (f : Ports → Ports) : (s.onPorts f).link = s.link := rfl
@[simp] theorem State.onPorts_rail (s : State) (f : Ports → Ports) : (s.onPorts f).rail = s.rail := rfl
@[simp] theorem State.onPorts_core (s : State) (f : Ports → Ports) : (s.onPorts f).core = s.core := rfl
@[simp] theorem State.onPorts_tally (s : State) (f : Ports → Ports) : (s.onPorts f).tally = s.tally := rfl
@[simp] theorem State.onPorts_sill (s : State) (f : Ports → Ports) : (s.onPorts f).sill = s.sill := rfl
@[simp] theorem State.onPorts_gate (s : State) (f : Ports → Ports) : (s.onPorts f).gate = s.gate := rfl
@[simp] theorem State.onPorts_aeloon (s : State) (f : Ports → Ports) : (s.onPorts f).aeloon = s.aeloon := rfl
@[simp] theorem State.onPorts_fw (s : State) (f : Ports → Ports) : (s.onPorts f).fw = s.fw := rfl
@[simp] theorem State.onPorts_mram (s : State) (f : Ports → Ports) : (s.onPorts f).mram = s.mram := rfl
@[simp] theorem State.onPorts_cinch (s : State) (f : Ports → Ports) : (s.onPorts f).cinch = s.cinch := rfl
@[simp] theorem State.onPorts_halter (s : State) (f : Ports → Ports) : (s.onPorts f).halter = s.halter := rfl
@[simp] theorem State.onPorts_power (s : State) (f : Ports → Ports) : (s.onPorts f).power = s.power := rfl

/-! `onTack` -/

@[simp] theorem State.onTack_now (s : State) (f : Tack → Tack) : (s.onTack f).now = s.now := rfl
@[simp] theorem State.onTack_pending (s : State) (f : Tack → Tack) : (s.onTack f).pending = s.pending := rfl
@[simp] theorem State.onTack_free (s : State) (f : Tack → Tack) : (s.onTack f).free = s.free := rfl
@[simp] theorem State.onTack_lastRead (s : State) (f : Tack → Tack) : (s.onTack f).lastRead = s.lastRead := rfl
@[simp] theorem State.onTack_wheel (s : State) (f : Tack → Tack) : (s.onTack f).wheel = s.wheel := rfl
@[simp] theorem State.onTack_pole (s : State) (f : Tack → Tack) : (s.onTack f).pole = s.pole := rfl
@[simp] theorem State.onTack_tab (s : State) (f : Tack → Tack) : (s.onTack f).tab = s.tab := rfl
@[simp] theorem State.onTack_scr (s : State) (f : Tack → Tack) : (s.onTack f).scr = s.scr := rfl
@[simp] theorem State.onTack_ports (s : State) (f : Tack → Tack) : (s.onTack f).ports = s.ports := rfl
@[simp] theorem State.onTack_tack (s : State) (f : Tack → Tack) : (s.onTack f).tack = f s.tack := rfl
@[simp] theorem State.onTack_stitch (s : State) (f : Tack → Tack) : (s.onTack f).stitch = s.stitch := rfl
@[simp] theorem State.onTack_link (s : State) (f : Tack → Tack) : (s.onTack f).link = s.link := rfl
@[simp] theorem State.onTack_rail (s : State) (f : Tack → Tack) : (s.onTack f).rail = s.rail := rfl
@[simp] theorem State.onTack_core (s : State) (f : Tack → Tack) : (s.onTack f).core = s.core := rfl
@[simp] theorem State.onTack_tally (s : State) (f : Tack → Tack) : (s.onTack f).tally = s.tally := rfl
@[simp] theorem State.onTack_sill (s : State) (f : Tack → Tack) : (s.onTack f).sill = s.sill := rfl
@[simp] theorem State.onTack_gate (s : State) (f : Tack → Tack) : (s.onTack f).gate = s.gate := rfl
@[simp] theorem State.onTack_aeloon (s : State) (f : Tack → Tack) : (s.onTack f).aeloon = s.aeloon := rfl
@[simp] theorem State.onTack_fw (s : State) (f : Tack → Tack) : (s.onTack f).fw = s.fw := rfl
@[simp] theorem State.onTack_mram (s : State) (f : Tack → Tack) : (s.onTack f).mram = s.mram := rfl
@[simp] theorem State.onTack_cinch (s : State) (f : Tack → Tack) : (s.onTack f).cinch = s.cinch := rfl
@[simp] theorem State.onTack_halter (s : State) (f : Tack → Tack) : (s.onTack f).halter = s.halter := rfl
@[simp] theorem State.onTack_power (s : State) (f : Tack → Tack) : (s.onTack f).power = s.power := rfl

/-! `onStitch` -/

@[simp] theorem State.onStitch_now (s : State) (f : Stitch → Stitch) : (s.onStitch f).now = s.now := rfl
@[simp] theorem State.onStitch_pending (s : State) (f : Stitch → Stitch) : (s.onStitch f).pending = s.pending := rfl
@[simp] theorem State.onStitch_free (s : State) (f : Stitch → Stitch) : (s.onStitch f).free = s.free := rfl
@[simp] theorem State.onStitch_lastRead (s : State) (f : Stitch → Stitch) : (s.onStitch f).lastRead = s.lastRead := rfl
@[simp] theorem State.onStitch_wheel (s : State) (f : Stitch → Stitch) : (s.onStitch f).wheel = s.wheel := rfl
@[simp] theorem State.onStitch_pole (s : State) (f : Stitch → Stitch) : (s.onStitch f).pole = s.pole := rfl
@[simp] theorem State.onStitch_tab (s : State) (f : Stitch → Stitch) : (s.onStitch f).tab = s.tab := rfl
@[simp] theorem State.onStitch_scr (s : State) (f : Stitch → Stitch) : (s.onStitch f).scr = s.scr := rfl
@[simp] theorem State.onStitch_ports (s : State) (f : Stitch → Stitch) : (s.onStitch f).ports = s.ports := rfl
@[simp] theorem State.onStitch_tack (s : State) (f : Stitch → Stitch) : (s.onStitch f).tack = s.tack := rfl
@[simp] theorem State.onStitch_stitch (s : State) (f : Stitch → Stitch) : (s.onStitch f).stitch = f s.stitch := rfl
@[simp] theorem State.onStitch_link (s : State) (f : Stitch → Stitch) : (s.onStitch f).link = s.link := rfl
@[simp] theorem State.onStitch_rail (s : State) (f : Stitch → Stitch) : (s.onStitch f).rail = s.rail := rfl
@[simp] theorem State.onStitch_core (s : State) (f : Stitch → Stitch) : (s.onStitch f).core = s.core := rfl
@[simp] theorem State.onStitch_tally (s : State) (f : Stitch → Stitch) : (s.onStitch f).tally = s.tally := rfl
@[simp] theorem State.onStitch_sill (s : State) (f : Stitch → Stitch) : (s.onStitch f).sill = s.sill := rfl
@[simp] theorem State.onStitch_gate (s : State) (f : Stitch → Stitch) : (s.onStitch f).gate = s.gate := rfl
@[simp] theorem State.onStitch_aeloon (s : State) (f : Stitch → Stitch) : (s.onStitch f).aeloon = s.aeloon := rfl
@[simp] theorem State.onStitch_fw (s : State) (f : Stitch → Stitch) : (s.onStitch f).fw = s.fw := rfl
@[simp] theorem State.onStitch_mram (s : State) (f : Stitch → Stitch) : (s.onStitch f).mram = s.mram := rfl
@[simp] theorem State.onStitch_cinch (s : State) (f : Stitch → Stitch) : (s.onStitch f).cinch = s.cinch := rfl
@[simp] theorem State.onStitch_halter (s : State) (f : Stitch → Stitch) : (s.onStitch f).halter = s.halter := rfl
@[simp] theorem State.onStitch_power (s : State) (f : Stitch → Stitch) : (s.onStitch f).power = s.power := rfl

/-! `onLink` -/

@[simp] theorem State.onLink_now (s : State) (f : Link → Link) : (s.onLink f).now = s.now := rfl
@[simp] theorem State.onLink_pending (s : State) (f : Link → Link) : (s.onLink f).pending = s.pending := rfl
@[simp] theorem State.onLink_free (s : State) (f : Link → Link) : (s.onLink f).free = s.free := rfl
@[simp] theorem State.onLink_lastRead (s : State) (f : Link → Link) : (s.onLink f).lastRead = s.lastRead := rfl
@[simp] theorem State.onLink_wheel (s : State) (f : Link → Link) : (s.onLink f).wheel = s.wheel := rfl
@[simp] theorem State.onLink_pole (s : State) (f : Link → Link) : (s.onLink f).pole = s.pole := rfl
@[simp] theorem State.onLink_tab (s : State) (f : Link → Link) : (s.onLink f).tab = s.tab := rfl
@[simp] theorem State.onLink_scr (s : State) (f : Link → Link) : (s.onLink f).scr = s.scr := rfl
@[simp] theorem State.onLink_ports (s : State) (f : Link → Link) : (s.onLink f).ports = s.ports := rfl
@[simp] theorem State.onLink_tack (s : State) (f : Link → Link) : (s.onLink f).tack = s.tack := rfl
@[simp] theorem State.onLink_stitch (s : State) (f : Link → Link) : (s.onLink f).stitch = s.stitch := rfl
@[simp] theorem State.onLink_link (s : State) (f : Link → Link) : (s.onLink f).link = f s.link := rfl
@[simp] theorem State.onLink_rail (s : State) (f : Link → Link) : (s.onLink f).rail = s.rail := rfl
@[simp] theorem State.onLink_core (s : State) (f : Link → Link) : (s.onLink f).core = s.core := rfl
@[simp] theorem State.onLink_tally (s : State) (f : Link → Link) : (s.onLink f).tally = s.tally := rfl
@[simp] theorem State.onLink_sill (s : State) (f : Link → Link) : (s.onLink f).sill = s.sill := rfl
@[simp] theorem State.onLink_gate (s : State) (f : Link → Link) : (s.onLink f).gate = s.gate := rfl
@[simp] theorem State.onLink_aeloon (s : State) (f : Link → Link) : (s.onLink f).aeloon = s.aeloon := rfl
@[simp] theorem State.onLink_fw (s : State) (f : Link → Link) : (s.onLink f).fw = s.fw := rfl
@[simp] theorem State.onLink_mram (s : State) (f : Link → Link) : (s.onLink f).mram = s.mram := rfl
@[simp] theorem State.onLink_cinch (s : State) (f : Link → Link) : (s.onLink f).cinch = s.cinch := rfl
@[simp] theorem State.onLink_halter (s : State) (f : Link → Link) : (s.onLink f).halter = s.halter := rfl
@[simp] theorem State.onLink_power (s : State) (f : Link → Link) : (s.onLink f).power = s.power := rfl

/-! `onRail` -/

@[simp] theorem State.onRail_now (s : State) (f : Rail → Rail) : (s.onRail f).now = s.now := rfl
@[simp] theorem State.onRail_pending (s : State) (f : Rail → Rail) : (s.onRail f).pending = s.pending := rfl
@[simp] theorem State.onRail_free (s : State) (f : Rail → Rail) : (s.onRail f).free = s.free := rfl
@[simp] theorem State.onRail_lastRead (s : State) (f : Rail → Rail) : (s.onRail f).lastRead = s.lastRead := rfl
@[simp] theorem State.onRail_wheel (s : State) (f : Rail → Rail) : (s.onRail f).wheel = s.wheel := rfl
@[simp] theorem State.onRail_pole (s : State) (f : Rail → Rail) : (s.onRail f).pole = s.pole := rfl
@[simp] theorem State.onRail_tab (s : State) (f : Rail → Rail) : (s.onRail f).tab = s.tab := rfl
@[simp] theorem State.onRail_scr (s : State) (f : Rail → Rail) : (s.onRail f).scr = s.scr := rfl
@[simp] theorem State.onRail_ports (s : State) (f : Rail → Rail) : (s.onRail f).ports = s.ports := rfl
@[simp] theorem State.onRail_tack (s : State) (f : Rail → Rail) : (s.onRail f).tack = s.tack := rfl
@[simp] theorem State.onRail_stitch (s : State) (f : Rail → Rail) : (s.onRail f).stitch = s.stitch := rfl
@[simp] theorem State.onRail_link (s : State) (f : Rail → Rail) : (s.onRail f).link = s.link := rfl
@[simp] theorem State.onRail_rail (s : State) (f : Rail → Rail) : (s.onRail f).rail = f s.rail := rfl
@[simp] theorem State.onRail_core (s : State) (f : Rail → Rail) : (s.onRail f).core = s.core := rfl
@[simp] theorem State.onRail_tally (s : State) (f : Rail → Rail) : (s.onRail f).tally = s.tally := rfl
@[simp] theorem State.onRail_sill (s : State) (f : Rail → Rail) : (s.onRail f).sill = s.sill := rfl
@[simp] theorem State.onRail_gate (s : State) (f : Rail → Rail) : (s.onRail f).gate = s.gate := rfl
@[simp] theorem State.onRail_aeloon (s : State) (f : Rail → Rail) : (s.onRail f).aeloon = s.aeloon := rfl
@[simp] theorem State.onRail_fw (s : State) (f : Rail → Rail) : (s.onRail f).fw = s.fw := rfl
@[simp] theorem State.onRail_mram (s : State) (f : Rail → Rail) : (s.onRail f).mram = s.mram := rfl
@[simp] theorem State.onRail_cinch (s : State) (f : Rail → Rail) : (s.onRail f).cinch = s.cinch := rfl
@[simp] theorem State.onRail_halter (s : State) (f : Rail → Rail) : (s.onRail f).halter = s.halter := rfl
@[simp] theorem State.onRail_power (s : State) (f : Rail → Rail) : (s.onRail f).power = s.power := rfl

/-! `onCore` -/

@[simp] theorem State.onCore_now (s : State) (f : CoreDie → CoreDie) : (s.onCore f).now = s.now := rfl
@[simp] theorem State.onCore_pending (s : State) (f : CoreDie → CoreDie) : (s.onCore f).pending = s.pending := rfl
@[simp] theorem State.onCore_free (s : State) (f : CoreDie → CoreDie) : (s.onCore f).free = s.free := rfl
@[simp] theorem State.onCore_lastRead (s : State) (f : CoreDie → CoreDie) : (s.onCore f).lastRead = s.lastRead := rfl
@[simp] theorem State.onCore_wheel (s : State) (f : CoreDie → CoreDie) : (s.onCore f).wheel = s.wheel := rfl
@[simp] theorem State.onCore_pole (s : State) (f : CoreDie → CoreDie) : (s.onCore f).pole = s.pole := rfl
@[simp] theorem State.onCore_tab (s : State) (f : CoreDie → CoreDie) : (s.onCore f).tab = s.tab := rfl
@[simp] theorem State.onCore_scr (s : State) (f : CoreDie → CoreDie) : (s.onCore f).scr = s.scr := rfl
@[simp] theorem State.onCore_ports (s : State) (f : CoreDie → CoreDie) : (s.onCore f).ports = s.ports := rfl
@[simp] theorem State.onCore_tack (s : State) (f : CoreDie → CoreDie) : (s.onCore f).tack = s.tack := rfl
@[simp] theorem State.onCore_stitch (s : State) (f : CoreDie → CoreDie) : (s.onCore f).stitch = s.stitch := rfl
@[simp] theorem State.onCore_link (s : State) (f : CoreDie → CoreDie) : (s.onCore f).link = s.link := rfl
@[simp] theorem State.onCore_rail (s : State) (f : CoreDie → CoreDie) : (s.onCore f).rail = s.rail := rfl
@[simp] theorem State.onCore_core (s : State) (f : CoreDie → CoreDie) : (s.onCore f).core = f s.core := rfl
@[simp] theorem State.onCore_tally (s : State) (f : CoreDie → CoreDie) : (s.onCore f).tally = s.tally := rfl
@[simp] theorem State.onCore_sill (s : State) (f : CoreDie → CoreDie) : (s.onCore f).sill = s.sill := rfl
@[simp] theorem State.onCore_gate (s : State) (f : CoreDie → CoreDie) : (s.onCore f).gate = s.gate := rfl
@[simp] theorem State.onCore_aeloon (s : State) (f : CoreDie → CoreDie) : (s.onCore f).aeloon = s.aeloon := rfl
@[simp] theorem State.onCore_fw (s : State) (f : CoreDie → CoreDie) : (s.onCore f).fw = s.fw := rfl
@[simp] theorem State.onCore_mram (s : State) (f : CoreDie → CoreDie) : (s.onCore f).mram = s.mram := rfl
@[simp] theorem State.onCore_cinch (s : State) (f : CoreDie → CoreDie) : (s.onCore f).cinch = s.cinch := rfl
@[simp] theorem State.onCore_halter (s : State) (f : CoreDie → CoreDie) : (s.onCore f).halter = s.halter := rfl
@[simp] theorem State.onCore_power (s : State) (f : CoreDie → CoreDie) : (s.onCore f).power = s.power := rfl

/-! `onTally` -/

@[simp] theorem State.onTally_now (s : State) (f : Tally → Tally) : (s.onTally f).now = s.now := rfl
@[simp] theorem State.onTally_pending (s : State) (f : Tally → Tally) : (s.onTally f).pending = s.pending := rfl
@[simp] theorem State.onTally_free (s : State) (f : Tally → Tally) : (s.onTally f).free = s.free := rfl
@[simp] theorem State.onTally_lastRead (s : State) (f : Tally → Tally) : (s.onTally f).lastRead = s.lastRead := rfl
@[simp] theorem State.onTally_wheel (s : State) (f : Tally → Tally) : (s.onTally f).wheel = s.wheel := rfl
@[simp] theorem State.onTally_pole (s : State) (f : Tally → Tally) : (s.onTally f).pole = s.pole := rfl
@[simp] theorem State.onTally_tab (s : State) (f : Tally → Tally) : (s.onTally f).tab = s.tab := rfl
@[simp] theorem State.onTally_scr (s : State) (f : Tally → Tally) : (s.onTally f).scr = s.scr := rfl
@[simp] theorem State.onTally_ports (s : State) (f : Tally → Tally) : (s.onTally f).ports = s.ports := rfl
@[simp] theorem State.onTally_tack (s : State) (f : Tally → Tally) : (s.onTally f).tack = s.tack := rfl
@[simp] theorem State.onTally_stitch (s : State) (f : Tally → Tally) : (s.onTally f).stitch = s.stitch := rfl
@[simp] theorem State.onTally_link (s : State) (f : Tally → Tally) : (s.onTally f).link = s.link := rfl
@[simp] theorem State.onTally_rail (s : State) (f : Tally → Tally) : (s.onTally f).rail = s.rail := rfl
@[simp] theorem State.onTally_core (s : State) (f : Tally → Tally) : (s.onTally f).core = s.core := rfl
@[simp] theorem State.onTally_tally (s : State) (f : Tally → Tally) : (s.onTally f).tally = f s.tally := rfl
@[simp] theorem State.onTally_sill (s : State) (f : Tally → Tally) : (s.onTally f).sill = s.sill := rfl
@[simp] theorem State.onTally_gate (s : State) (f : Tally → Tally) : (s.onTally f).gate = s.gate := rfl
@[simp] theorem State.onTally_aeloon (s : State) (f : Tally → Tally) : (s.onTally f).aeloon = s.aeloon := rfl
@[simp] theorem State.onTally_fw (s : State) (f : Tally → Tally) : (s.onTally f).fw = s.fw := rfl
@[simp] theorem State.onTally_mram (s : State) (f : Tally → Tally) : (s.onTally f).mram = s.mram := rfl
@[simp] theorem State.onTally_cinch (s : State) (f : Tally → Tally) : (s.onTally f).cinch = s.cinch := rfl
@[simp] theorem State.onTally_halter (s : State) (f : Tally → Tally) : (s.onTally f).halter = s.halter := rfl
@[simp] theorem State.onTally_power (s : State) (f : Tally → Tally) : (s.onTally f).power = s.power := rfl

/-! `onSill` -/

@[simp] theorem State.onSill_now (s : State) (f : Sill → Sill) : (s.onSill f).now = s.now := rfl
@[simp] theorem State.onSill_pending (s : State) (f : Sill → Sill) : (s.onSill f).pending = s.pending := rfl
@[simp] theorem State.onSill_free (s : State) (f : Sill → Sill) : (s.onSill f).free = s.free := rfl
@[simp] theorem State.onSill_lastRead (s : State) (f : Sill → Sill) : (s.onSill f).lastRead = s.lastRead := rfl
@[simp] theorem State.onSill_wheel (s : State) (f : Sill → Sill) : (s.onSill f).wheel = s.wheel := rfl
@[simp] theorem State.onSill_pole (s : State) (f : Sill → Sill) : (s.onSill f).pole = s.pole := rfl
@[simp] theorem State.onSill_tab (s : State) (f : Sill → Sill) : (s.onSill f).tab = s.tab := rfl
@[simp] theorem State.onSill_scr (s : State) (f : Sill → Sill) : (s.onSill f).scr = s.scr := rfl
@[simp] theorem State.onSill_ports (s : State) (f : Sill → Sill) : (s.onSill f).ports = s.ports := rfl
@[simp] theorem State.onSill_tack (s : State) (f : Sill → Sill) : (s.onSill f).tack = s.tack := rfl
@[simp] theorem State.onSill_stitch (s : State) (f : Sill → Sill) : (s.onSill f).stitch = s.stitch := rfl
@[simp] theorem State.onSill_link (s : State) (f : Sill → Sill) : (s.onSill f).link = s.link := rfl
@[simp] theorem State.onSill_rail (s : State) (f : Sill → Sill) : (s.onSill f).rail = s.rail := rfl
@[simp] theorem State.onSill_core (s : State) (f : Sill → Sill) : (s.onSill f).core = s.core := rfl
@[simp] theorem State.onSill_tally (s : State) (f : Sill → Sill) : (s.onSill f).tally = s.tally := rfl
@[simp] theorem State.onSill_sill (s : State) (f : Sill → Sill) : (s.onSill f).sill = f s.sill := rfl
@[simp] theorem State.onSill_gate (s : State) (f : Sill → Sill) : (s.onSill f).gate = s.gate := rfl
@[simp] theorem State.onSill_aeloon (s : State) (f : Sill → Sill) : (s.onSill f).aeloon = s.aeloon := rfl
@[simp] theorem State.onSill_fw (s : State) (f : Sill → Sill) : (s.onSill f).fw = s.fw := rfl
@[simp] theorem State.onSill_mram (s : State) (f : Sill → Sill) : (s.onSill f).mram = s.mram := rfl
@[simp] theorem State.onSill_cinch (s : State) (f : Sill → Sill) : (s.onSill f).cinch = s.cinch := rfl
@[simp] theorem State.onSill_halter (s : State) (f : Sill → Sill) : (s.onSill f).halter = s.halter := rfl
@[simp] theorem State.onSill_power (s : State) (f : Sill → Sill) : (s.onSill f).power = s.power := rfl

/-! `onGate` -/

@[simp] theorem State.onGate_now (s : State) (f : Gate → Gate) : (s.onGate f).now = s.now := rfl
@[simp] theorem State.onGate_pending (s : State) (f : Gate → Gate) : (s.onGate f).pending = s.pending := rfl
@[simp] theorem State.onGate_free (s : State) (f : Gate → Gate) : (s.onGate f).free = s.free := rfl
@[simp] theorem State.onGate_lastRead (s : State) (f : Gate → Gate) : (s.onGate f).lastRead = s.lastRead := rfl
@[simp] theorem State.onGate_wheel (s : State) (f : Gate → Gate) : (s.onGate f).wheel = s.wheel := rfl
@[simp] theorem State.onGate_pole (s : State) (f : Gate → Gate) : (s.onGate f).pole = s.pole := rfl
@[simp] theorem State.onGate_tab (s : State) (f : Gate → Gate) : (s.onGate f).tab = s.tab := rfl
@[simp] theorem State.onGate_scr (s : State) (f : Gate → Gate) : (s.onGate f).scr = s.scr := rfl
@[simp] theorem State.onGate_ports (s : State) (f : Gate → Gate) : (s.onGate f).ports = s.ports := rfl
@[simp] theorem State.onGate_tack (s : State) (f : Gate → Gate) : (s.onGate f).tack = s.tack := rfl
@[simp] theorem State.onGate_stitch (s : State) (f : Gate → Gate) : (s.onGate f).stitch = s.stitch := rfl
@[simp] theorem State.onGate_link (s : State) (f : Gate → Gate) : (s.onGate f).link = s.link := rfl
@[simp] theorem State.onGate_rail (s : State) (f : Gate → Gate) : (s.onGate f).rail = s.rail := rfl
@[simp] theorem State.onGate_core (s : State) (f : Gate → Gate) : (s.onGate f).core = s.core := rfl
@[simp] theorem State.onGate_tally (s : State) (f : Gate → Gate) : (s.onGate f).tally = s.tally := rfl
@[simp] theorem State.onGate_sill (s : State) (f : Gate → Gate) : (s.onGate f).sill = s.sill := rfl
@[simp] theorem State.onGate_gate (s : State) (f : Gate → Gate) : (s.onGate f).gate = f s.gate := rfl
@[simp] theorem State.onGate_aeloon (s : State) (f : Gate → Gate) : (s.onGate f).aeloon = s.aeloon := rfl
@[simp] theorem State.onGate_fw (s : State) (f : Gate → Gate) : (s.onGate f).fw = s.fw := rfl
@[simp] theorem State.onGate_mram (s : State) (f : Gate → Gate) : (s.onGate f).mram = s.mram := rfl
@[simp] theorem State.onGate_cinch (s : State) (f : Gate → Gate) : (s.onGate f).cinch = s.cinch := rfl
@[simp] theorem State.onGate_halter (s : State) (f : Gate → Gate) : (s.onGate f).halter = s.halter := rfl
@[simp] theorem State.onGate_power (s : State) (f : Gate → Gate) : (s.onGate f).power = s.power := rfl

/-! `onAeloon` -/

@[simp] theorem State.onAeloon_now (s : State) (f : Aeloon → Aeloon) : (s.onAeloon f).now = s.now := rfl
@[simp] theorem State.onAeloon_pending (s : State) (f : Aeloon → Aeloon) : (s.onAeloon f).pending = s.pending := rfl
@[simp] theorem State.onAeloon_free (s : State) (f : Aeloon → Aeloon) : (s.onAeloon f).free = s.free := rfl
@[simp] theorem State.onAeloon_lastRead (s : State) (f : Aeloon → Aeloon) : (s.onAeloon f).lastRead = s.lastRead := rfl
@[simp] theorem State.onAeloon_wheel (s : State) (f : Aeloon → Aeloon) : (s.onAeloon f).wheel = s.wheel := rfl
@[simp] theorem State.onAeloon_pole (s : State) (f : Aeloon → Aeloon) : (s.onAeloon f).pole = s.pole := rfl
@[simp] theorem State.onAeloon_tab (s : State) (f : Aeloon → Aeloon) : (s.onAeloon f).tab = s.tab := rfl
@[simp] theorem State.onAeloon_scr (s : State) (f : Aeloon → Aeloon) : (s.onAeloon f).scr = s.scr := rfl
@[simp] theorem State.onAeloon_ports (s : State) (f : Aeloon → Aeloon) : (s.onAeloon f).ports = s.ports := rfl
@[simp] theorem State.onAeloon_tack (s : State) (f : Aeloon → Aeloon) : (s.onAeloon f).tack = s.tack := rfl
@[simp] theorem State.onAeloon_stitch (s : State) (f : Aeloon → Aeloon) : (s.onAeloon f).stitch = s.stitch := rfl
@[simp] theorem State.onAeloon_link (s : State) (f : Aeloon → Aeloon) : (s.onAeloon f).link = s.link := rfl
@[simp] theorem State.onAeloon_rail (s : State) (f : Aeloon → Aeloon) : (s.onAeloon f).rail = s.rail := rfl
@[simp] theorem State.onAeloon_core (s : State) (f : Aeloon → Aeloon) : (s.onAeloon f).core = s.core := rfl
@[simp] theorem State.onAeloon_tally (s : State) (f : Aeloon → Aeloon) : (s.onAeloon f).tally = s.tally := rfl
@[simp] theorem State.onAeloon_sill (s : State) (f : Aeloon → Aeloon) : (s.onAeloon f).sill = s.sill := rfl
@[simp] theorem State.onAeloon_gate (s : State) (f : Aeloon → Aeloon) : (s.onAeloon f).gate = s.gate := rfl
@[simp] theorem State.onAeloon_aeloon (s : State) (f : Aeloon → Aeloon) : (s.onAeloon f).aeloon = f s.aeloon := rfl
@[simp] theorem State.onAeloon_fw (s : State) (f : Aeloon → Aeloon) : (s.onAeloon f).fw = s.fw := rfl
@[simp] theorem State.onAeloon_mram (s : State) (f : Aeloon → Aeloon) : (s.onAeloon f).mram = s.mram := rfl
@[simp] theorem State.onAeloon_cinch (s : State) (f : Aeloon → Aeloon) : (s.onAeloon f).cinch = s.cinch := rfl
@[simp] theorem State.onAeloon_halter (s : State) (f : Aeloon → Aeloon) : (s.onAeloon f).halter = s.halter := rfl
@[simp] theorem State.onAeloon_power (s : State) (f : Aeloon → Aeloon) : (s.onAeloon f).power = s.power := rfl

/-! `onFw` -/

@[simp] theorem State.onFw_now (s : State) (f : Firmware → Firmware) : (s.onFw f).now = s.now := rfl
@[simp] theorem State.onFw_pending (s : State) (f : Firmware → Firmware) : (s.onFw f).pending = s.pending := rfl
@[simp] theorem State.onFw_free (s : State) (f : Firmware → Firmware) : (s.onFw f).free = s.free := rfl
@[simp] theorem State.onFw_lastRead (s : State) (f : Firmware → Firmware) : (s.onFw f).lastRead = s.lastRead := rfl
@[simp] theorem State.onFw_wheel (s : State) (f : Firmware → Firmware) : (s.onFw f).wheel = s.wheel := rfl
@[simp] theorem State.onFw_pole (s : State) (f : Firmware → Firmware) : (s.onFw f).pole = s.pole := rfl
@[simp] theorem State.onFw_tab (s : State) (f : Firmware → Firmware) : (s.onFw f).tab = s.tab := rfl
@[simp] theorem State.onFw_scr (s : State) (f : Firmware → Firmware) : (s.onFw f).scr = s.scr := rfl
@[simp] theorem State.onFw_ports (s : State) (f : Firmware → Firmware) : (s.onFw f).ports = s.ports := rfl
@[simp] theorem State.onFw_tack (s : State) (f : Firmware → Firmware) : (s.onFw f).tack = s.tack := rfl
@[simp] theorem State.onFw_stitch (s : State) (f : Firmware → Firmware) : (s.onFw f).stitch = s.stitch := rfl
@[simp] theorem State.onFw_link (s : State) (f : Firmware → Firmware) : (s.onFw f).link = s.link := rfl
@[simp] theorem State.onFw_rail (s : State) (f : Firmware → Firmware) : (s.onFw f).rail = s.rail := rfl
@[simp] theorem State.onFw_core (s : State) (f : Firmware → Firmware) : (s.onFw f).core = s.core := rfl
@[simp] theorem State.onFw_tally (s : State) (f : Firmware → Firmware) : (s.onFw f).tally = s.tally := rfl
@[simp] theorem State.onFw_sill (s : State) (f : Firmware → Firmware) : (s.onFw f).sill = s.sill := rfl
@[simp] theorem State.onFw_gate (s : State) (f : Firmware → Firmware) : (s.onFw f).gate = s.gate := rfl
@[simp] theorem State.onFw_aeloon (s : State) (f : Firmware → Firmware) : (s.onFw f).aeloon = s.aeloon := rfl
@[simp] theorem State.onFw_fw (s : State) (f : Firmware → Firmware) : (s.onFw f).fw = f s.fw := rfl
@[simp] theorem State.onFw_mram (s : State) (f : Firmware → Firmware) : (s.onFw f).mram = s.mram := rfl
@[simp] theorem State.onFw_cinch (s : State) (f : Firmware → Firmware) : (s.onFw f).cinch = s.cinch := rfl
@[simp] theorem State.onFw_halter (s : State) (f : Firmware → Firmware) : (s.onFw f).halter = s.halter := rfl
@[simp] theorem State.onFw_power (s : State) (f : Firmware → Firmware) : (s.onFw f).power = s.power := rfl

/-! `onMram` -/

@[simp] theorem State.onMram_now (s : State) (f : Mram → Mram) : (s.onMram f).now = s.now := rfl
@[simp] theorem State.onMram_pending (s : State) (f : Mram → Mram) : (s.onMram f).pending = s.pending := rfl
@[simp] theorem State.onMram_free (s : State) (f : Mram → Mram) : (s.onMram f).free = s.free := rfl
@[simp] theorem State.onMram_lastRead (s : State) (f : Mram → Mram) : (s.onMram f).lastRead = s.lastRead := rfl
@[simp] theorem State.onMram_wheel (s : State) (f : Mram → Mram) : (s.onMram f).wheel = s.wheel := rfl
@[simp] theorem State.onMram_pole (s : State) (f : Mram → Mram) : (s.onMram f).pole = s.pole := rfl
@[simp] theorem State.onMram_tab (s : State) (f : Mram → Mram) : (s.onMram f).tab = s.tab := rfl
@[simp] theorem State.onMram_scr (s : State) (f : Mram → Mram) : (s.onMram f).scr = s.scr := rfl
@[simp] theorem State.onMram_ports (s : State) (f : Mram → Mram) : (s.onMram f).ports = s.ports := rfl
@[simp] theorem State.onMram_tack (s : State) (f : Mram → Mram) : (s.onMram f).tack = s.tack := rfl
@[simp] theorem State.onMram_stitch (s : State) (f : Mram → Mram) : (s.onMram f).stitch = s.stitch := rfl
@[simp] theorem State.onMram_link (s : State) (f : Mram → Mram) : (s.onMram f).link = s.link := rfl
@[simp] theorem State.onMram_rail (s : State) (f : Mram → Mram) : (s.onMram f).rail = s.rail := rfl
@[simp] theorem State.onMram_core (s : State) (f : Mram → Mram) : (s.onMram f).core = s.core := rfl
@[simp] theorem State.onMram_tally (s : State) (f : Mram → Mram) : (s.onMram f).tally = s.tally := rfl
@[simp] theorem State.onMram_sill (s : State) (f : Mram → Mram) : (s.onMram f).sill = s.sill := rfl
@[simp] theorem State.onMram_gate (s : State) (f : Mram → Mram) : (s.onMram f).gate = s.gate := rfl
@[simp] theorem State.onMram_aeloon (s : State) (f : Mram → Mram) : (s.onMram f).aeloon = s.aeloon := rfl
@[simp] theorem State.onMram_fw (s : State) (f : Mram → Mram) : (s.onMram f).fw = s.fw := rfl
@[simp] theorem State.onMram_mram (s : State) (f : Mram → Mram) : (s.onMram f).mram = f s.mram := rfl
@[simp] theorem State.onMram_cinch (s : State) (f : Mram → Mram) : (s.onMram f).cinch = s.cinch := rfl
@[simp] theorem State.onMram_halter (s : State) (f : Mram → Mram) : (s.onMram f).halter = s.halter := rfl
@[simp] theorem State.onMram_power (s : State) (f : Mram → Mram) : (s.onMram f).power = s.power := rfl

/-! `onCinch` -/

@[simp] theorem State.onCinch_now (s : State) (f : Cinch → Cinch) : (s.onCinch f).now = s.now := rfl
@[simp] theorem State.onCinch_pending (s : State) (f : Cinch → Cinch) : (s.onCinch f).pending = s.pending := rfl
@[simp] theorem State.onCinch_free (s : State) (f : Cinch → Cinch) : (s.onCinch f).free = s.free := rfl
@[simp] theorem State.onCinch_lastRead (s : State) (f : Cinch → Cinch) : (s.onCinch f).lastRead = s.lastRead := rfl
@[simp] theorem State.onCinch_wheel (s : State) (f : Cinch → Cinch) : (s.onCinch f).wheel = s.wheel := rfl
@[simp] theorem State.onCinch_pole (s : State) (f : Cinch → Cinch) : (s.onCinch f).pole = s.pole := rfl
@[simp] theorem State.onCinch_tab (s : State) (f : Cinch → Cinch) : (s.onCinch f).tab = s.tab := rfl
@[simp] theorem State.onCinch_scr (s : State) (f : Cinch → Cinch) : (s.onCinch f).scr = s.scr := rfl
@[simp] theorem State.onCinch_ports (s : State) (f : Cinch → Cinch) : (s.onCinch f).ports = s.ports := rfl
@[simp] theorem State.onCinch_tack (s : State) (f : Cinch → Cinch) : (s.onCinch f).tack = s.tack := rfl
@[simp] theorem State.onCinch_stitch (s : State) (f : Cinch → Cinch) : (s.onCinch f).stitch = s.stitch := rfl
@[simp] theorem State.onCinch_link (s : State) (f : Cinch → Cinch) : (s.onCinch f).link = s.link := rfl
@[simp] theorem State.onCinch_rail (s : State) (f : Cinch → Cinch) : (s.onCinch f).rail = s.rail := rfl
@[simp] theorem State.onCinch_core (s : State) (f : Cinch → Cinch) : (s.onCinch f).core = s.core := rfl
@[simp] theorem State.onCinch_tally (s : State) (f : Cinch → Cinch) : (s.onCinch f).tally = s.tally := rfl
@[simp] theorem State.onCinch_sill (s : State) (f : Cinch → Cinch) : (s.onCinch f).sill = s.sill := rfl
@[simp] theorem State.onCinch_gate (s : State) (f : Cinch → Cinch) : (s.onCinch f).gate = s.gate := rfl
@[simp] theorem State.onCinch_aeloon (s : State) (f : Cinch → Cinch) : (s.onCinch f).aeloon = s.aeloon := rfl
@[simp] theorem State.onCinch_fw (s : State) (f : Cinch → Cinch) : (s.onCinch f).fw = s.fw := rfl
@[simp] theorem State.onCinch_mram (s : State) (f : Cinch → Cinch) : (s.onCinch f).mram = s.mram := rfl
@[simp] theorem State.onCinch_cinch (s : State) (f : Cinch → Cinch) : (s.onCinch f).cinch = f s.cinch := rfl
@[simp] theorem State.onCinch_halter (s : State) (f : Cinch → Cinch) : (s.onCinch f).halter = s.halter := rfl
@[simp] theorem State.onCinch_power (s : State) (f : Cinch → Cinch) : (s.onCinch f).power = s.power := rfl

/-! `onHalter` -/

@[simp] theorem State.onHalter_now (s : State) (f : Halter → Halter) : (s.onHalter f).now = s.now := rfl
@[simp] theorem State.onHalter_pending (s : State) (f : Halter → Halter) : (s.onHalter f).pending = s.pending := rfl
@[simp] theorem State.onHalter_free (s : State) (f : Halter → Halter) : (s.onHalter f).free = s.free := rfl
@[simp] theorem State.onHalter_lastRead (s : State) (f : Halter → Halter) : (s.onHalter f).lastRead = s.lastRead := rfl
@[simp] theorem State.onHalter_wheel (s : State) (f : Halter → Halter) : (s.onHalter f).wheel = s.wheel := rfl
@[simp] theorem State.onHalter_pole (s : State) (f : Halter → Halter) : (s.onHalter f).pole = s.pole := rfl
@[simp] theorem State.onHalter_tab (s : State) (f : Halter → Halter) : (s.onHalter f).tab = s.tab := rfl
@[simp] theorem State.onHalter_scr (s : State) (f : Halter → Halter) : (s.onHalter f).scr = s.scr := rfl
@[simp] theorem State.onHalter_ports (s : State) (f : Halter → Halter) : (s.onHalter f).ports = s.ports := rfl
@[simp] theorem State.onHalter_tack (s : State) (f : Halter → Halter) : (s.onHalter f).tack = s.tack := rfl
@[simp] theorem State.onHalter_stitch (s : State) (f : Halter → Halter) : (s.onHalter f).stitch = s.stitch := rfl
@[simp] theorem State.onHalter_link (s : State) (f : Halter → Halter) : (s.onHalter f).link = s.link := rfl
@[simp] theorem State.onHalter_rail (s : State) (f : Halter → Halter) : (s.onHalter f).rail = s.rail := rfl
@[simp] theorem State.onHalter_core (s : State) (f : Halter → Halter) : (s.onHalter f).core = s.core := rfl
@[simp] theorem State.onHalter_tally (s : State) (f : Halter → Halter) : (s.onHalter f).tally = s.tally := rfl
@[simp] theorem State.onHalter_sill (s : State) (f : Halter → Halter) : (s.onHalter f).sill = s.sill := rfl
@[simp] theorem State.onHalter_gate (s : State) (f : Halter → Halter) : (s.onHalter f).gate = s.gate := rfl
@[simp] theorem State.onHalter_aeloon (s : State) (f : Halter → Halter) : (s.onHalter f).aeloon = s.aeloon := rfl
@[simp] theorem State.onHalter_fw (s : State) (f : Halter → Halter) : (s.onHalter f).fw = s.fw := rfl
@[simp] theorem State.onHalter_mram (s : State) (f : Halter → Halter) : (s.onHalter f).mram = s.mram := rfl
@[simp] theorem State.onHalter_cinch (s : State) (f : Halter → Halter) : (s.onHalter f).cinch = s.cinch := rfl
@[simp] theorem State.onHalter_halter (s : State) (f : Halter → Halter) : (s.onHalter f).halter = f s.halter := rfl
@[simp] theorem State.onHalter_power (s : State) (f : Halter → Halter) : (s.onHalter f).power = s.power := rfl

/-! `onPower` -/

@[simp] theorem State.onPower_now (s : State) (f : Power → Power) : (s.onPower f).now = s.now := rfl
@[simp] theorem State.onPower_pending (s : State) (f : Power → Power) : (s.onPower f).pending = s.pending := rfl
@[simp] theorem State.onPower_free (s : State) (f : Power → Power) : (s.onPower f).free = s.free := rfl
@[simp] theorem State.onPower_lastRead (s : State) (f : Power → Power) : (s.onPower f).lastRead = s.lastRead := rfl
@[simp] theorem State.onPower_wheel (s : State) (f : Power → Power) : (s.onPower f).wheel = s.wheel := rfl
@[simp] theorem State.onPower_pole (s : State) (f : Power → Power) : (s.onPower f).pole = s.pole := rfl
@[simp] theorem State.onPower_tab (s : State) (f : Power → Power) : (s.onPower f).tab = s.tab := rfl
@[simp] theorem State.onPower_scr (s : State) (f : Power → Power) : (s.onPower f).scr = s.scr := rfl
@[simp] theorem State.onPower_ports (s : State) (f : Power → Power) : (s.onPower f).ports = s.ports := rfl
@[simp] theorem State.onPower_tack (s : State) (f : Power → Power) : (s.onPower f).tack = s.tack := rfl
@[simp] theorem State.onPower_stitch (s : State) (f : Power → Power) : (s.onPower f).stitch = s.stitch := rfl
@[simp] theorem State.onPower_link (s : State) (f : Power → Power) : (s.onPower f).link = s.link := rfl
@[simp] theorem State.onPower_rail (s : State) (f : Power → Power) : (s.onPower f).rail = s.rail := rfl
@[simp] theorem State.onPower_core (s : State) (f : Power → Power) : (s.onPower f).core = s.core := rfl
@[simp] theorem State.onPower_tally (s : State) (f : Power → Power) : (s.onPower f).tally = s.tally := rfl
@[simp] theorem State.onPower_sill (s : State) (f : Power → Power) : (s.onPower f).sill = s.sill := rfl
@[simp] theorem State.onPower_gate (s : State) (f : Power → Power) : (s.onPower f).gate = s.gate := rfl
@[simp] theorem State.onPower_aeloon (s : State) (f : Power → Power) : (s.onPower f).aeloon = s.aeloon := rfl
@[simp] theorem State.onPower_fw (s : State) (f : Power → Power) : (s.onPower f).fw = s.fw := rfl
@[simp] theorem State.onPower_mram (s : State) (f : Power → Power) : (s.onPower f).mram = s.mram := rfl
@[simp] theorem State.onPower_cinch (s : State) (f : Power → Power) : (s.onPower f).cinch = s.cinch := rfl
@[simp] theorem State.onPower_halter (s : State) (f : Power → Power) : (s.onPower f).halter = s.halter := rfl
@[simp] theorem State.onPower_power (s : State) (f : Power → Power) : (s.onPower f).power = f s.power := rfl

/-! `advance` -/

@[simp] theorem State.advance_now (s : State) (t : Nat) : (s.advance t).now = max s.now t := rfl
@[simp] theorem State.advance_pending (s : State) (t : Nat) : (s.advance t).pending = s.pending := rfl
@[simp] theorem State.advance_free (s : State) (t : Nat) : (s.advance t).free = s.free := rfl
@[simp] theorem State.advance_lastRead (s : State) (t : Nat) : (s.advance t).lastRead = s.lastRead := rfl
@[simp] theorem State.advance_wheel (s : State) (t : Nat) : (s.advance t).wheel = s.wheel := rfl
@[simp] theorem State.advance_pole (s : State) (t : Nat) : (s.advance t).pole = s.pole := rfl
@[simp] theorem State.advance_tab (s : State) (t : Nat) : (s.advance t).tab = s.tab := rfl
@[simp] theorem State.advance_scr (s : State) (t : Nat) : (s.advance t).scr = s.scr := rfl
@[simp] theorem State.advance_ports (s : State) (t : Nat) : (s.advance t).ports = s.ports := rfl
@[simp] theorem State.advance_tack (s : State) (t : Nat) : (s.advance t).tack = s.tack := rfl
@[simp] theorem State.advance_stitch (s : State) (t : Nat) : (s.advance t).stitch = s.stitch := rfl
@[simp] theorem State.advance_link (s : State) (t : Nat) : (s.advance t).link = s.link := rfl
@[simp] theorem State.advance_rail (s : State) (t : Nat) : (s.advance t).rail = s.rail := rfl
@[simp] theorem State.advance_core (s : State) (t : Nat) : (s.advance t).core = s.core := rfl
@[simp] theorem State.advance_tally (s : State) (t : Nat) : (s.advance t).tally = s.tally := rfl
@[simp] theorem State.advance_sill (s : State) (t : Nat) : (s.advance t).sill = s.sill := rfl
@[simp] theorem State.advance_gate (s : State) (t : Nat) : (s.advance t).gate = s.gate := rfl
@[simp] theorem State.advance_aeloon (s : State) (t : Nat) : (s.advance t).aeloon = s.aeloon := rfl
@[simp] theorem State.advance_fw (s : State) (t : Nat) : (s.advance t).fw = s.fw := rfl
@[simp] theorem State.advance_mram (s : State) (t : Nat) : (s.advance t).mram = s.mram := rfl
@[simp] theorem State.advance_cinch (s : State) (t : Nat) : (s.advance t).cinch = s.cinch := rfl
@[simp] theorem State.advance_halter (s : State) (t : Nat) : (s.advance t).halter = s.halter := rfl
@[simp] theorem State.advance_power (s : State) (t : Nat) : (s.advance t).power = s.power := rfl

/-! `keeping` -/

@[simp] theorem State.keeping_now (r s : State) : (r.keeping s).now = s.now := rfl
@[simp] theorem State.keeping_pending (r s : State) : (r.keeping s).pending = s.pending := rfl
@[simp] theorem State.keeping_free (r s : State) : (r.keeping s).free = r.free := rfl
@[simp] theorem State.keeping_lastRead (r s : State) : (r.keeping s).lastRead = r.lastRead := rfl
@[simp] theorem State.keeping_wheel (r s : State) : (r.keeping s).wheel = r.wheel := rfl
@[simp] theorem State.keeping_pole (r s : State) : (r.keeping s).pole = r.pole := rfl
@[simp] theorem State.keeping_tab (r s : State) : (r.keeping s).tab = r.tab := rfl
@[simp] theorem State.keeping_scr (r s : State) : (r.keeping s).scr = r.scr := rfl
@[simp] theorem State.keeping_ports (r s : State) : (r.keeping s).ports = r.ports := rfl
@[simp] theorem State.keeping_tack (r s : State) : (r.keeping s).tack = r.tack := rfl
@[simp] theorem State.keeping_stitch (r s : State) : (r.keeping s).stitch = r.stitch := rfl
@[simp] theorem State.keeping_link (r s : State) : (r.keeping s).link = r.link := rfl
@[simp] theorem State.keeping_rail (r s : State) : (r.keeping s).rail = r.rail := rfl
@[simp] theorem State.keeping_core (r s : State) : (r.keeping s).core = r.core := rfl
@[simp] theorem State.keeping_tally (r s : State) : (r.keeping s).tally = r.tally := rfl
@[simp] theorem State.keeping_sill (r s : State) : (r.keeping s).sill = { r.sill with rows := s.sill.rows, half := s.sill.half } := rfl
@[simp] theorem State.keeping_gate (r s : State) : (r.keeping s).gate = r.gate := rfl
@[simp] theorem State.keeping_aeloon (r s : State) : (r.keeping s).aeloon = r.aeloon := rfl
@[simp] theorem State.keeping_fw (r s : State) : (r.keeping s).fw = r.fw := rfl
@[simp] theorem State.keeping_mram (r s : State) : (r.keeping s).mram = r.mram := rfl
@[simp] theorem State.keeping_cinch (r s : State) : (r.keeping s).cinch = r.cinch := rfl
@[simp] theorem State.keeping_halter (r s : State) : (r.keeping s).halter = r.halter := rfl
@[simp] theorem State.keeping_power (r s : State) : (r.keeping s).power = r.power := rfl

/-- A command that changes neither queue, clock nor fuses is its own result. -/
theorem State.keeping_eq (r s : State) (h1 : r.pending = s.pending) (h2 : r.now = s.now) (h3 : r.sill.rows = s.sill.rows)
    (h4 : r.sill.half = s.sill.half) : r.keeping s = r := by
  cases r
  simp only at h1 h2 h3 h4
  simp [State.keeping, h1, h2, ← h3, ← h4]

end Sys2Proof.Machine
end

