-- ==== Sys2Proof/Laws/Tables.lean ====
section
/-! SUPPORT. Laws of the sparse tables and of host memory: a read after a write, and that every operation keeps the
canonical form. -/
namespace Sys2Proof.Machine

variable {α : Type}

@[simp] theorem tget_nil (d : α) (k : Nat) : tget d [] k = d := rfl

@[simp] theorem tget_tinsert_same (d : α) (m : Tbl α) (k : Nat) (v : α) : tget d (tinsert m k v) k = v := by
  induction m with
  | nil => simp [tinsert, tget]
  | cons x m ih =>
    simp only [tinsert]
    split
    · simp [tget]
    · split
      · simp [tget]
      · rename_i h1 h2
        have h3 : ¬ x.1 = k := fun h => h2 h.symm
        simp [tget, h3, ih]

theorem tget_tinsert_other (d : α) (m : Tbl α) (k j : Nat) (v : α) (h : j ≠ k) : tget d (tinsert m k v) j = tget d m j := by
  have hk : ¬ k = j := fun e => h e.symm
  induction m with
  | nil => simp [tinsert, tget, hk]
  | cons x m ih =>
    simp only [tinsert]
    split
    · simp [tget, hk]
    · split
      · rename_i h2
        simp [tget, hk, ← h2]
      · simp [tget, ih]

@[simp] theorem tget_terase_same (d : α) (m : Tbl α) (k : Nat) : tget d (terase m k) k = d := by
  induction m with
  | nil => rfl
  | cons x m ih =>
    simp only [terase]
    split
    · exact ih
    · rename_i h
      simp [tget, h, ih]

theorem tget_terase_other (d : α) (m : Tbl α) (k j : Nat) (h : j ≠ k) : tget d (terase m k) j = tget d m j := by
  induction m with
  | nil => rfl
  | cons x m ih =>
    simp only [terase]
    split
    · rename_i h2
      have h3 : ¬ x.1 = j := fun e => h (e.symm.trans h2)
      simp [tget, h3, ih]
    · simp [tget, ih]

variable [DecidableEq α]

/-- A read of the key written gives the value written. -/
@[simp] theorem tget_tset_same (d : α) (m : Tbl α) (k : Nat) (v : α) : tget d (tset d m k v) k = v := by
  simp only [tset]
  split
  · rename_i h
    simp [h]
  · simp

/-- A write leaves every other key alone. -/
theorem tget_tset_other (d : α) (m : Tbl α) (k j : Nat) (v : α) (h : j ≠ k) : tget d (tset d m k v) j = tget d m j := by
  simp only [tset]
  split
  · exact tget_terase_other d m k j h
  · exact tget_tinsert_other d m k j v h

@[simp] theorem tget_tmod_same (d : α) (m : Tbl α) (k : Nat) (f : α → α) : tget d (tmod d m k f) k = f (tget d m k) := by
  simp [tmod]

theorem tget_tmod_other (d : α) (m : Tbl α) (k j : Nat) (f : α → α) (h : j ≠ k) : tget d (tmod d m k f) j = tget d m j :=
  tget_tset_other d m k j _ h

/-! ### The canonical form -/

omit [DecidableEq α] in
theorem terase_not_mem (m : Tbl α) (k : Nat) (h : ∀ x ∈ m, x.1 ≠ k) : terase m k = m := by
  induction m with
  | nil => rfl
  | cons x m ih =>
    have hx := h x (by simp)
    simp only [terase, if_neg hx]
    rw [ih fun y hy => h y (by simp [hy])]

/-- What the canonical form says of the tail and of the keys in it. -/
theorem twf_cons (d : α) (k : Nat) (v : α) (m : Tbl α) :
    twf d ((k, v) :: m) = true ↔ v ≠ d ∧ (∀ x ∈ m, k < x.1) ∧ twf d m = true := by
  induction m generalizing k v with
  | nil => simp [twf]
  | cons y m ih =>
    obtain ⟨k', v'⟩ := y
    simp only [twf, Bool.and_eq_true, decide_eq_true_eq, Bool.not_eq_true', decide_eq_false_iff_not]
    constructor
    · rintro ⟨⟨hv, hk⟩, hm⟩
      refine ⟨hv, ?_, hm⟩
      intro x hx
      rcases List.mem_cons.1 hx with rfl | hx
      · exact hk
      · exact Nat.lt_trans hk (((ih k' v').1 hm).2.1 x hx)
    · rintro ⟨hv, hk, hm⟩
      exact ⟨⟨hv, hk (k', v') (by simp)⟩, hm⟩

/-- Erasing keeps the canonical form, and lists nothing new. -/
theorem twf_terase (d : α) (m : Tbl α) (k : Nat) (h : twf d m = true) : twf d (terase m k) = true ∧ ∀ x ∈ terase m k, x ∈ m := by
  induction m with
  | nil => simp [terase, twf]
  | cons x m ih =>
    obtain ⟨k', v'⟩ := x
    obtain ⟨hv, hk, hm⟩ := (twf_cons d k' v' m).1 h
    obtain ⟨i1, i2⟩ := ih hm
    simp only [terase]
    split
    · exact ⟨i1, fun x hx => by simp [i2 x hx]⟩
    · refine ⟨(twf_cons d k' v' _).2 ⟨hv, fun x hx => hk x (i2 x hx), i1⟩, ?_⟩
      intro x hx
      rcases List.mem_cons.1 hx with rfl | hx
      · simp
      · simp [i2 x hx]

/-- Inserting a value other than the default keeps the canonical form. -/
theorem twf_tinsert (d : α) (m : Tbl α) (k : Nat) (v : α) (hd : v ≠ d) (h : twf d m = true) :
    twf d (tinsert m k v) = true ∧ ∀ x ∈ tinsert m k v, x = (k, v) ∨ x ∈ m := by
  induction m with
  | nil => simp [tinsert, twf, hd]
  | cons x m ih =>
    obtain ⟨k', v'⟩ := x
    obtain ⟨hv, hk, hm⟩ := (twf_cons d k' v' m).1 h
    obtain ⟨i1, i2⟩ := ih hm
    simp only [tinsert]
    split
    · rename_i hlt
      refine ⟨(twf_cons d k v _).2 ⟨hd, ?_, h⟩, ?_⟩
      · intro x hx
        rcases List.mem_cons.1 hx with rfl | hx
        · exact hlt
        · exact Nat.lt_trans hlt (hk x hx)
      · intro x hx
        simpa using hx
    · split
      · rename_i heq
        subst heq
        refine ⟨(twf_cons d k v _).2 ⟨hd, hk, hm⟩, ?_⟩
        intro x hx
        rcases List.mem_cons.1 hx with rfl | hx
        · simp
        · simp [hx]
      · rename_i h1 h2
        refine ⟨(twf_cons d k' v' _).2 ⟨hv, ?_, i1⟩, ?_⟩
        · intro x hx
          rcases i2 x hx with rfl | hx
          · simp only at h1 h2 ⊢; omega
          · exact hk x hx
        · intro x hx
          rcases List.mem_cons.1 hx with rfl | hx
          · simp
          · rcases i2 x hx with rfl | hx
            · simp
            · simp [hx]

/-- A write keeps the canonical form. -/
theorem twf_tset (d : α) (m : Tbl α) (k : Nat) (v : α) (h : twf d m = true) : twf d (tset d m k v) = true := by
  simp only [tset]
  split
  · exact (twf_terase d m k h).1
  · rename_i hd
    exact (twf_tinsert d m k v hd h).1

theorem twf_tmod (d : α) (m : Tbl α) (k : Nat) (f : α → α) (h : twf d m = true) : twf d (tmod d m k f) = true :=
  twf_tset d m k _ h

/-! ### Host memory -/

theorem memory_wf_cons (k : Nat) (v : BitVec 8) (m : List Host.Cell) :
    Memory.wf ((k, v) :: m) = true ↔ (∀ x ∈ m, k < x.1) ∧ Memory.wf m = true := by
  induction m generalizing k v with
  | nil => simp [Memory.wf]
  | cons y m ih =>
    obtain ⟨k', v'⟩ := y
    simp only [Memory.wf, Bool.and_eq_true, decide_eq_true_eq]
    constructor
    · rintro ⟨hk, hm⟩
      refine ⟨?_, hm⟩
      intro x hx
      rcases List.mem_cons.1 hx with rfl | hx
      · exact hk
      · exact Nat.lt_trans hk (((ih k' v').1 hm).1 x hx)
    · rintro ⟨hk, hm⟩
      exact ⟨hk (k', v') (by simp), hm⟩

/-- Writing one byte keeps the form. -/
theorem memory_wf_tinsert (m : Tbl Byte) (k : Nat) (v : Byte) (h : Memory.wf m = true) :
    Memory.wf (tinsert m k v) = true ∧ ∀ x ∈ tinsert m k v, x = (k, v) ∨ x ∈ m := by
  induction m with
  | nil => simp [tinsert, Memory.wf]
  | cons x m ih =>
    obtain ⟨k', v'⟩ := x
    obtain ⟨hk, hm⟩ := (memory_wf_cons k' v' m).1 h
    obtain ⟨i1, i2⟩ := ih hm
    simp only [tinsert]
    split
    · rename_i hlt
      refine ⟨(memory_wf_cons k v _).2 ⟨?_, h⟩, fun x hx => by simpa using hx⟩
      intro x hx
      rcases List.mem_cons.1 hx with rfl | hx
      · exact hlt
      · exact Nat.lt_trans hlt (hk x hx)
    · split
      · rename_i heq
        subst heq
        refine ⟨(memory_wf_cons k v _).2 ⟨hk, hm⟩, ?_⟩
        intro x hx
        rcases List.mem_cons.1 hx with rfl | hx
        · simp
        · simp [hx]
      · rename_i h1 h2
        refine ⟨(memory_wf_cons k' v' _).2 ⟨?_, i1⟩, ?_⟩
        · intro x hx
          rcases i2 x hx with rfl | hx
          · simp only at h1 h2 ⊢; omega
          · exact hk x hx
        · intro x hx
          rcases List.mem_cons.1 hx with rfl | hx
          · simp
          · rcases i2 x hx with rfl | hx
            · simp
            · simp [hx]

/-- Every write of bytes to host memory keeps its canonical form. -/
theorem memory_wf_putBytes (m : Tbl Byte) (addr : Nat) (bs : List Byte) (h : Memory.wf m = true) :
    Memory.wf (putBytes m addr bs) = true := by
  simp only [putBytes]
  induction bs.zipIdx generalizing m with
  | nil => exact h
  | cons x xs ih => exact ih _ (memory_wf_tinsert m _ _ h).1

/-- A byte outside the bytes written reads as before. -/
theorem putBytes_other (m : Tbl Byte) (addr : Nat) (bs : List Byte) (a : Nat) (d : Byte)
    (h : a < addr ∨ addr + bs.length ≤ a) : tget d (putBytes m addr bs) a = tget d m a := by
  simp only [putBytes]
  have key : ∀ (xs : List (Byte × Nat)) (m : Tbl Byte), (∀ x ∈ xs, a ≠ addr + x.2) →
      tget d (xs.foldl (fun m x => tinsert m (addr + x.2) x.1) m) a = tget d m a := by
    intro xs
    induction xs with
    | nil => intro m _; rfl
    | cons x xs ih =>
      intro m hx
      rw [List.foldl_cons, ih _ fun y hy => hx y (by simp [hy]), tget_tinsert_other _ _ _ _ _ (hx x (by simp))]
  apply key
  intro x hx
  have := List.snd_lt_add_of_mem_zipIdx hx
  omega

end Sys2Proof.Machine
end

