-- ==== Sys2Proof/WellFormed.lean ====
section
/-! DEFINITION. When a command is well formed: each operand that numbers a port, a ring, a slot, a node or the like is
in the range the manual gives it, and an instant that a command reports does not lie after the command. -/
namespace Sys2Proof

/-- The checks on the operands of each command. -/
def Instr.wf (i : Instr) : Bool :=
  match i with
  | .beamDieResetExit _ roleSel slot => decide (roleSel < 4) && decide (slot < 32)
  | .zxEdgeQualified t _ stamp => decide (stamp ≤ t)
  | .phaseHoldEnd _ => true
  | .phaseSlewEnd _ => true
  | .missedEdge _ input => [0, 1, 5].contains input
  | .acquisitionChoice _ => true
  | .cycleBoundary _ => true
  | .nop _ idx => decide (idx < 256)
  | .strike _ idx => decide (idx < 256)
  | .publish _ idx => decide (idx < 256)
  | .openWindow _ idx => decide (idx < 256)
  | .closeWindow _ idx => decide (idx < 256)
  | .doorbellFetch _ idx => decide (idx < 256)
  | .tallyTick _ idx => decide (idx < 256)
  | .aeloonBeacon _ idx => decide (idx < 256)
  | .traceMark _ idx => decide (idx < 256)
  | .pwCtrlWrite _ _ => true
  | .pwNominalWrite _ _ => true
  | .pwCycleLoRead _ => true
  | .cutListEntryStart _ port _ => decide (port < 128)
  | .gapTransactionStart _ port => decide (port < 128)
  | .breikRetry _ port => decide (port < 64)
  | .cappingWriteStart _ port => decide (64 ≤ port) && decide (port < 128)
  | .breikFrameReceived _ port _ _ _ => decide (port < 64)
  | .breikResponseTimeout _ port => decide (port < 64)
  | .writeCommitWindowEnd _ port => decide (port < 64)
  | .spuWindowEnd _ port _ => decide (port < 64)
  | .echoReceived t port edge => decide (port < 64) && decide (edge ≤ t)
  | .echoTimeout _ port => decide (port < 64)
  | .presencePulse _ port _ _ => decide (port < 64)
  | .presenceCountEnd _ port => decide (port < 64)
  | .delayProbeReflection _ port _ => decide (port < 64)
  | .delayProbeTimeout _ port => decide (port < 64)
  | .searchRestart _ port => decide (port < 64)
  | .unstableRetry _ port => decide (port < 64)
  | .fenceStuck _ port _ => decide (port < 64)
  | .fenceChatter _ port _ _ => decide (port < 64)
  | .unfenceTimer _ port => decide (port < 128)
  | .unfenceLineCheckEnd _ port _ _ => decide (port < 128)
  | .fenceIntervalReset _ port => decide (port < 128)
  | .sentFrameReceived t port id _ _ _ edge _ => decide (port < 64) && decide (id < 4) && decide (edge ≤ t)
  | .twAttemptEnd _ m _ _ _ _ _ => decide (m < 64)
  | .twClockTimeout _ m => decide (m < 64)
  | .arbLost _ m _ bit won => decide (m < 64) && decide (bit < 8) && decide (won < 256)
  | .twForeignStartStop _ m => decide (m < 64)
  | .twSegmentFree _ m => decide (m < 64)
  | .twTargetTransactionEnd _ m addr _ _ => decide (m < 64) && decide (addr < 128)
  | .alertAssert _ a => decide (a < 8)
  | .alertRelease _ a => decide (a < 8)
  | .alertHoldoff _ a => decide (a < 8)
  | .lpiEnter _ m => decide (m < 64)
  | .lpiWake _ m => decide (m < 64)
  | .lpiAddressMatch _ m => decide (m < 64)
  | .lpiWakeDone _ m => decide (m < 64)
  | .busClear _ m _ _ => decide (m < 64)
  | .clockStuck _ m _ => decide (m < 64)
  | .cinchConversion t ch code sampled => decide (ch < 6) && decide (code < 4096) && decide (sampled ≤ t)
  | .compileComplete _ => true
  | .snapshotPublish _ c => decide (c < 16)
  | .blockCheckReady _ => true
  | .snapshotCopyDone _ c => decide (c < 16)
  | .mergeWaitExpiry _ c => decide (c < 16)
  | .csTrRearm _ => true
  | .hlGoSet _ _ => true
  | .hlGoClear _ => true
  | .hlQuiesced _ => true
  | .busMasterDisable _ => true
  | .doorbellInterval _ => true
  | .doorbellFetchDone _ _ => true
  | .doorbellFetchFailed _ => true
  | .descriptorReadDone _ ring _ _ => decide (ring < 8)
  | .doorbellWriteBack _ => true
  | .jobImageReadDone _ slot _ _ => decide (slot < 512)
  | .eventRecordWrite _ q => decide (q < 8)
  | .msiXCoalesceTimeout _ q => decide (q < 8)
  | .drainComplete _ => true
  | .hostLinkReset _ kind => decide (kind < 4)
  | .functionLevelReset _ => true
  | .linkUp _ => true
  | .d3hotEntry _ _ => true
  | .jobNop _ slot => decide (slot < 768)
  | .pointLoad _ slot => decide (slot < 768)
  | .coefLoad _ slot => decide (slot < 768)
  | .courseSet _ slot => decide (slot < 768)
  | .poleLoad _ slot => decide (slot < 768)
  | .readNow _ slot => decide (slot < 768)
  | .writeTarget _ slot => decide (slot < 768)
  | .rawXfer _ slot => decide (slot < 768)
  | .chainSearch _ slot => decide (slot < 768)
  | .portReinit _ slot => decide (slot < 768)
  | .portFence _ slot => decide (slot < 768)
  | .portUnfence _ slot => decide (slot < 768)
  | .traceFreeze _ slot => decide (slot < 768)
  | .traceCopy _ slot => decide (slot < 768)
  | .traceCopyDone _ => true
  | .stitchRun _ slot => decide (slot < 768)
  | .stitchRunComplete _ unit _ _ => decide (unit < 8)
  | .abort _ slot => decide (slot < 768)
  | .workerPush _ slot => decide (slot < 768)
  | .stringSet _ slot => decide (slot < 768)
  | .stringClear _ slot => decide (slot < 768)
  | .ocvLoad _ slot => decide (slot < 768)
  | .tallyRead _ slot => decide (slot < 768)
  | .socSet _ slot => decide (slot < 768)
  | .learnReset _ slot => decide (slot < 768)
  | .ledgerSync _ slot => decide (slot < 768)
  | .fwStage _ slot => decide (slot < 768)
  | .fwCommit _ slot => decide (slot < 768)
  | .tallyEvalTimer _ => true
  | .ledgerHourly _ str => decide (str < 32)
  | .ledgerCommitDone _ str => decide (str < 32)
  | .ledgerScan _ => true
  | .shipArm _ => true
  | .shipGo _ => true
  | .hrInWrite _ ch _ => decide (ch < 16)
  | .hrOutRead _ ch => decide (ch < 16)
  | .hrAckOutWrite _ ch _ => decide (ch < 16)
  | .hrModeWrite _ ch _ => decide (ch < 16)
  | .hostBump _ => true
  | .firmwareInRead _ ch => decide (ch < 144)
  | .firmwareAckIn _ ch _ => decide (ch < 144)
  | .firmwarePostOut _ ch _ => decide (ch < 144)
  | .crossTimeout _ ch => decide (ch < 144)
  | .superframeStart _ => true
  | .managerDownlinkTransmit _ => true
  | .beaconReceived _ _ _ _ => true
  | .alpMark t endLow _ => decide (endLow ≤ t)
  | .workerSlotTransmit _ => true
  | .slotFrameReceived _ node _ _ _ => decide (1 ≤ node) && decide (node < 32)
  | .downlinkFrameReceived _ _ _ => true
  | .slotMissed _ node => decide (1 ≤ node) && decide (node < 32)
  | .joinClaim _ _ => true
  | .joinFrameReceived _ _ _ => true
  | .beaconLoss _ => true
  | .pushStageExpiry _ num => decide (num < 256)
  | .cinchReset _ => true
  | .cinchResetExit _ _ => true
  | .cinchReady _ => true
  | .hkRegulationLoss _ => true
  | .seatAssert _ => true
  | .seatDebounceExpiry _ => true
  | .seatRemoval _ => true
  | .vinOutOfRange _ _ => true
  | .prechargeStart _ _ _ => true
  | .prechargeDone _ _ _ _ => true
  | .pchEnergy _ => true
  | .pchTime _ => true
  | .rampComplete _ => true
  | .gateFail _ => true
  | .pgAssert _ _ => true
  | .pgLate _ => true
  | .limitEnter _ _ => true
  | .limitExit _ _ => true
  | .fastTrip _ _ => true
  | .overload _ => true
  | .tfetHot _ => true
  | .fetShort _ _ _ => true
  | .fetModelStep _ _ _ _ _ => true
  | .tmemRefresh _ => true
  | .modelLow _ => true
  | .restartConditionMet _ => true
  | .faultCountReset _ => true
  | .cnSoftWrite _ _ => true
  | .loadOnWrite _ _ => true
  | .cnClear _ _ => true
  | .firmwareVerified _ => true
  | .foremanGReady _ => true
  | .engineSelftestDone _ port _ => decide (port < 128)
  | .storeSelftestDone _ _ _ _ => true
  | .stitchSelftestDone _ unit _ => decide (unit < 8)
  | .heartbeatPulse _ _ => true
  | .heartbeatWindow _ => true
  | .foremanGRestart _ => true
  | .foremanSRestart _ => true
  | .halterEnter _ cause => decide (1 ≤ cause) && decide (cause ≤ 5)
  | .halterRound _ n _ => decide (n ≤ 96)
  | .halterPoll _ pos _ _ _ => decide (1 ≤ pos) && decide (pos ≤ 16)
  | .halterExitRequest _ => true
  | .watchdogRung3 _ => true
  | .rungCountReset _ => true
  | .beamWarmReset _ => true
  | .beamPowerCycle _ => true
  | .idResetWrite _ _ => true
  | .brownoutWarning _ vinCode _ => decide (vinCode < 4096)
  | .brownoutWarningClear _ => true
  | .brownOut _ => true
  | .brownoutCopyDone _ => true
  | .sgChallenge _ => true
  | .sgVerify _ => true
  | .sgClose _ => true
  | .challengeExpiry _ => true
  | .sessionIdleTimeout _ => true
  | .sillProgram _ _ _ _ => true
  | .sillProgramDone _ _ _ => true
  | .secureHalterEnter _ => true
  | .secureHalterRelease _ => true
  | .secureRung3 _ => true
  | .secureRung4 _ => true
  | .recoveryBegin _ => true
  | .recoveryWord _ => true
  | .recoveryEnd _ => true
  | .ptMapSelWrite _ _ => true
  | .ptPgrpWrite _ i _ => decide (i < 32)
  | .ptAwlCfgWrite _ n _ => decide (n < 64)
  | .ptAwlSentWrite _ n _ => decide (n < 64)
  | .ptTwCfgWrite _ m _ => decide (m < 64)
  | .counterReadClear _ off size => decide (off < 65536) && [1, 2, 4, 8].contains size
  | .registerWrite _ off size _ => decide (off < 65536) && [1, 2, 4, 8].contains size
  | .holdoffExpiry _ => true
  | .pgDeassert _ => true
  | .d3hotExit _ => true
  | .perstNRelease _ => true
  | .powerCycleEnd _ => true
  | .spcResponseTimeout _ port => decide (port < 64)

end Sys2Proof
end

