-- ==== Sys2Proof/Tests/Slice0.lean ====
section
/-! SUPPORT. The model's own tests: ill-formed commands are refused; every clause of a statement that has hypotheses
has a state and operands that meet them, and there the command does what the clause says. Each is one step on a small
state. -/
namespace Sys2Proof.Machine.Tests
set_option Elab.async false
open Sys2Proof Sys2Proof.Machine

/-- The command ends in a next state with a property. -/
def after (r : Result) (p : State → Bool) : Bool :=
  match r with
  | .next s => p s
  | _ => false

/-- A standalone Slovor in service: both dies out of reset, every part ready, Halter mode left. -/
def up : State := { State.reset with core := { State.reset.core with up := true, ready := 0xFF }, now := 1000000 }

/-- The same in Halter mode. -/
def halted : State := { up with core := { up.core with ready := 0x1FF } }

/-- A manager that sends beacons, with node 1 joined, and a worker that has joined. -/
def manager : State := { up with
  core := { up.core with role := .manager }
  aeloon := { state := 4, ctrl := 3, ctrlReg := 3, nodes := [(1, { joined := true, units := 4, gen := 1 })] } }
def worker : State := { up with
  core := { up.core with role := .worker, node := 1 }
  aeloon := { state := 4, ctrl := 3, ctrlReg := 3, units := 4, gen := 1 } }

def withAwl (s : State) (p : AwlPort) : State := { s with ports := { s.ports with awl := [(3, p)] } }
def withTw (s : State) (p : TwPort) : State := { s with ports := { s.ports with tw := [(3, p)] } }
def withPole (s : State) (e : PoleEntry) : State := { s with pole := { s.pole with entries := [e] } }

/-! ### Well-formed commands -/

/-- Ill-formed commands, one for each check, are refused. -/
theorem test_ill_formed_1 :
    ([
      .beamDieResetExit 0 4 0, .beamDieResetExit 0 0 32, .zxEdgeQualified 0 false 1, .missedEdge 0 3, .nop 0 256,
      .strike 0 256, .publish 0 256, .openWindow 0 256, .closeWindow 0 256, .doorbellFetch 0 256, .tallyTick 0 256,
      .aeloonBeacon 0 256, .traceMark 0 256, .cutListEntryStart 0 128 0, .gapTransactionStart 0 128, .breikRetry 0 64,
      .cappingWriteStart 0 63, .cappingWriteStart 0 128, .breikFrameReceived 0 64 0 [] false, .breikResponseTimeout 0 64,
      .writeCommitWindowEnd 0 64, .spuWindowEnd 0 64 false, .echoReceived 0 64 0, .echoReceived 0 0 1, .echoTimeout 0 64,
      .presencePulse 0 64 0 0, .presenceCountEnd 0 64, .delayProbeReflection 0 64 0, .delayProbeTimeout 0 64,
      .searchRestart 0 64] : List Instr).all (fun i => !i.wf) = true := by decide

/-- Ill-formed commands, one for each check, are refused. -/
theorem test_ill_formed_2 :
    ([
      .unstableRetry 0 64, .fenceStuck 0 64 0, .fenceChatter 0 64 0 0, .unfenceTimer 0 128,
      .unfenceLineCheckEnd 0 128 false false, .fenceIntervalReset 0 128, .sentFrameReceived 0 64 0 0 [] none 0 0,
      .sentFrameReceived 0 0 4 0 [] none 0 0, .sentFrameReceived 0 0 0 0 [] none 1 0, .twAttemptEnd 0 64 0 0 none [] false,
      .twClockTimeout 0 64, .arbLost 0 64 0 0 0, .arbLost 0 0 0 8 0, .arbLost 0 0 0 0 256, .twForeignStartStop 0 64,
      .twSegmentFree 0 64, .twTargetTransactionEnd 0 64 0 false [], .twTargetTransactionEnd 0 0 128 false [],
      .alertAssert 0 8, .alertRelease 0 8, .alertHoldoff 0 8, .lpiEnter 0 64, .lpiWake 0 64, .lpiAddressMatch 0 64,
      .lpiWakeDone 0 64, .busClear 0 64 0 false, .clockStuck 0 64 0, .cinchConversion 0 6 0 0, .cinchConversion 0 0 4096 0,
      .cinchConversion 0 0 0 1] : List Instr).all (fun i => !i.wf) = true := by decide

/-- Ill-formed commands, one for each check, are refused. -/
theorem test_ill_formed_3 :
    ([
      .snapshotPublish 0 16, .snapshotCopyDone 0 16, .mergeWaitExpiry 0 16, .descriptorReadDone 0 8 false [],
      .jobImageReadDone 0 512 false [], .eventRecordWrite 0 8, .msiXCoalesceTimeout 0 8, .hostLinkReset 0 4, .jobNop 0 768,
      .pointLoad 0 768, .coefLoad 0 768, .courseSet 0 768, .poleLoad 0 768, .readNow 0 768, .writeTarget 0 768,
      .rawXfer 0 768, .chainSearch 0 768, .portReinit 0 768, .portFence 0 768, .portUnfence 0 768, .traceFreeze 0 768,
      .traceCopy 0 768, .stitchRun 0 768, .stitchRunComplete 0 8 false [], .abort 0 768, .workerPush 0 768,
      .stringSet 0 768, .stringClear 0 768, .ocvLoad 0 768, .tallyRead 0 768] : List Instr).all (fun i => !i.wf) = true := by decide

/-- Ill-formed commands, one for each check, are refused. -/
theorem test_ill_formed_4 :
    ([
      .socSet 0 768, .learnReset 0 768, .ledgerSync 0 768, .fwStage 0 768, .fwCommit 0 768, .ledgerHourly 0 32,
      .ledgerCommitDone 0 32, .hrInWrite 0 16 0, .hrOutRead 0 16, .hrAckOutWrite 0 16 0, .hrModeWrite 0 16 0,
      .firmwareInRead 0 144, .firmwareAckIn 0 144 0, .firmwarePostOut 0 144 0, .crossTimeout 0 144, .alpMark 0 1 0,
      .slotFrameReceived 0 0 [] false 0, .slotFrameReceived 0 32 [] false 0, .slotMissed 0 0, .slotMissed 0 32,
      .pushStageExpiry 0 256, .engineSelftestDone 0 128 false, .stitchSelftestDone 0 8 false, .halterEnter 0 0,
      .halterEnter 0 6, .halterRound 0 97 0, .halterPoll 0 0 0 [] false, .halterPoll 0 17 0 [] false,
      .brownoutWarning 0 4096 false, .ptPgrpWrite 0 32 0] : List Instr).all (fun i => !i.wf) = true := by decide

/-- Ill-formed commands, one for each check, are refused. -/
theorem test_ill_formed_5 :
    ([
      .ptAwlCfgWrite 0 64 0, .ptAwlSentWrite 0 64 0, .ptTwCfgWrite 0 64 0, .counterReadClear 0 65536 1,
      .counterReadClear 0 0 3, .registerWrite 0 65536 1 0, .registerWrite 0 0 3 0, .spcResponseTimeout 0 64] : List Instr).all (fun i => !i.wf) = true := by decide

/-- The same commands with their operands at the edge of their ranges are well formed. -/
theorem test_well_formed_1 :
    ([
      .beamDieResetExit 0 0 0, .zxEdgeQualified 0 false 0, .missedEdge 0 0, .nop 0 0, .strike 0 0, .publish 0 0,
      .openWindow 0 0, .closeWindow 0 0, .doorbellFetch 0 0, .tallyTick 0 0, .aeloonBeacon 0 0, .traceMark 0 0,
      .cutListEntryStart 0 0 0, .gapTransactionStart 0 0, .breikRetry 0 0, .cappingWriteStart 0 64,
      .breikFrameReceived 0 0 0 [] false, .breikResponseTimeout 0 0, .writeCommitWindowEnd 0 0, .spuWindowEnd 0 0 false,
      .echoReceived 0 0 0, .echoTimeout 0 0, .presencePulse 0 0 0 0, .presenceCountEnd 0 0, .delayProbeReflection 0 0 0,
      .delayProbeTimeout 0 0, .searchRestart 0 0, .unstableRetry 0 0, .fenceStuck 0 0 0, .fenceChatter 0 0 0 0,
      .unfenceTimer 0 0, .unfenceLineCheckEnd 0 0 false false, .fenceIntervalReset 0 0,
      .sentFrameReceived 0 0 0 0 [] none 0 0, .twAttemptEnd 0 0 0 0 none [] false, .twClockTimeout 0 0, .arbLost 0 0 0 0 0,
      .twForeignStartStop 0 0, .twSegmentFree 0 0, .twTargetTransactionEnd 0 0 0 false [], .alertAssert 0 0,
      .alertRelease 0 0, .alertHoldoff 0 0, .lpiEnter 0 0, .lpiWake 0 0, .lpiAddressMatch 0 0, .lpiWakeDone 0 0,
      .busClear 0 0 0 false, .clockStuck 0 0 0, .cinchConversion 0 0 0 0, .snapshotPublish 0 0, .snapshotCopyDone 0 0,
      .mergeWaitExpiry 0 0, .descriptorReadDone 0 0 false [], .jobImageReadDone 0 0 false [], .eventRecordWrite 0 0,
      .msiXCoalesceTimeout 0 0, .hostLinkReset 0 0, .jobNop 0 0, .pointLoad 0 0] : List Instr).all (fun i => i.wf) = true := by decide

/-- The same commands with their operands at the edge of their ranges are well formed. -/
theorem test_well_formed_2 :
    ([
      .coefLoad 0 0, .courseSet 0 0, .poleLoad 0 0, .readNow 0 0, .writeTarget 0 0, .rawXfer 0 0, .chainSearch 0 0,
      .portReinit 0 0, .portFence 0 0, .portUnfence 0 0, .traceFreeze 0 0, .traceCopy 0 0, .stitchRun 0 0,
      .stitchRunComplete 0 0 false [], .abort 0 0, .workerPush 0 0, .stringSet 0 0, .stringClear 0 0, .ocvLoad 0 0,
      .tallyRead 0 0, .socSet 0 0, .learnReset 0 0, .ledgerSync 0 0, .fwStage 0 0, .fwCommit 0 0, .ledgerHourly 0 0,
      .ledgerCommitDone 0 0, .hrInWrite 0 0 0, .hrOutRead 0 0, .hrAckOutWrite 0 0 0, .hrModeWrite 0 0 0,
      .firmwareInRead 0 0, .firmwareAckIn 0 0 0, .firmwarePostOut 0 0 0, .crossTimeout 0 0, .alpMark 0 0 0,
      .slotFrameReceived 0 1 [] false 0, .slotMissed 0 1, .pushStageExpiry 0 0, .engineSelftestDone 0 0 false,
      .stitchSelftestDone 0 0 false, .halterEnter 0 1, .halterRound 0 0 0, .halterPoll 0 1 0 [] false,
      .brownoutWarning 0 0 false, .ptPgrpWrite 0 0 0, .ptAwlCfgWrite 0 0 0, .ptAwlSentWrite 0 0 0, .ptTwCfgWrite 0 0 0,
      .counterReadClear 0 0 1, .registerWrite 0 0 1 0, .spcResponseTimeout 0 0] : List Instr).all (fun i => i.wf) = true := by decide

/-! ### The block as a whole -/

/-- One step of a state with a command at the front of its queue. -/
def runs (s : State) (c : Instr) : Result := step { s with pending := [c] }

theorem test_step_takes_front :
    after (step { up with pending := [.heartbeatPulse 1010000 true, .cycleBoundary 5120000] }) (fun r =>
      r.pending = [.cycleBoundary 5120000] ∧ r.halter.pulse ∧ r.now = 1010000) ∧
    after (step up) (fun r => r = up) ∧
    after (Sys2Proof.core.run 2 { up with pending := [.heartbeatPulse 1010000 true, .cycleBoundary 5120000] }) (fun r =>
      r.pending = [] ∧ r.wheel.count = 1) := by
  decide +kernel

theorem test_fuse_stays_blown :
    let s := { up with sill := { rows := [(6, 0x8)], busy := some (6, 0x100) } }
    s.sillOk = true ∧ s.blown 6 3 = true ∧ after (runs s (.sillProgramDone 1010000 true 0)) (fun r => r.sillOk ∧ r.blown 6 3 ∧ r.blown 6 8) := by
  decide +kernel

theorem test_host_memory_stays_canonical :
    let s := { up with link := { up.link with running := true, bme := true, wbDue := 1, dbLo := 0x7000, mem := [(5, 0x41)] } }
    s.hostMemOk = true ∧ after (runs s (.doorbellWriteBack 1010000)) (fun r => r.hostMemOk ∧ r.hostByte 5 = some 0x41 ∧ r.hostByte 0x7800 = some 0) := by
  decide +kernel

theorem test_exits_leave_reset :
    let s := { State.reset with core := { State.reset.core with ready := 0x101 } }
    let d := { State.reset with cinch := { State.reset.cinch with up := false } }
    s.core.up = false ∧ d.cinch.up = false ∧ after (runs s (.beamDieResetExit 1000 0 0)) (fun r => r.core.up) ∧
    after (runs d (.cinchResetExit 1000 0)) (fun r => r.cinch.up) := by
  decide +kernel

theorem test_frames :
    (mayChange .wheel (.lpiEnter 0 0) = false ∧ mayChange .pole (.lpiEnter 0 0) = false ∧ mayChange .tab (.lpiEnter 0 0) = false ∧
      mayChange .scr (.lpiEnter 0 0) = false ∧ mayChange .ports (.challengeExpiry 0) = false ∧ mayChange .tack (.lpiEnter 0 0) = false ∧
      mayChange .stitch (.lpiEnter 0 0) = false ∧ mayChange .link (.lpiEnter 0 0) = false ∧ mayChange .rail (.lpiEnter 0 0) = false ∧
      mayChange .aeloon (.lpiEnter 0 0) = false ∧ mayChange .tally (.lpiEnter 0 0) = false ∧ mayChange .core (.lpiEnter 0 0) = false) ∧
    (mayChange .lastRead (.lpiEnter 0 0) = false ∧ mayChange .cinch (.lpiEnter 0 0) = false ∧ mayChange .halter (.lpiEnter 0 0) = false ∧
      mayChange .power (.lpiEnter 0 0) = false ∧ mayChange .gate (.lpiEnter 0 0) = false ∧ mayChange .sill (.lpiEnter 0 0) = false ∧
      mayChange .fw (.lpiEnter 0 0) = false ∧ mayChange .mram (.lpiEnter 0 0) = false ∧ mayChange .free (.lpiEnter 0 0) = false ∧
      mayChange .hostMemory (.lpiEnter 0 0) = false) ∧
    after (exec (.lpiEnter 1010000 3) up) (fun r => r = up.advance 1010000) ∧ after (exec (.challengeExpiry 1010000) up) (fun r => r.ports = up.ports) := by
  decide +kernel

theorem test_phase_readiness :
    let s := { up with wheel := { up.wheel with ctrl := 4 } }
    bitAt (up.readReg 0x20).toNat 4 = true ∧ bitAt (State.reset.readReg 0x20).toNat 4 = false ∧
    bitAt (s.readReg 0x20).toNat 4 = (decide (s.wheel.state = .locked) || decide (s.wheel.sel = 4)) ∧
    after (runs s (.pwCtrlWrite 1010000 0)) (fun r => bitAt (r.readReg 0x20).toNat 4 = false) := by
  decide +kernel

theorem test_lockout_holds :
    let s := { up with cinch := { st := .lockout } }
    s.cinch.st = .lockout ∧ after (runs s (.seatRemoval 1010000)) (fun r => r.cinch.st = .lockout) ∧
    after (runs s (.cinchReset 1010000)) (fun r => r.cinch.st = .unseated) := by
  decide +kernel

theorem test_entry_settings_survive :
    let s := { up with cinch := { loadOn := false, seatDb := 20, soft := 9 }, halter := { up.halter with rung := some (true, 5) } }
    after (exec (.beamPowerCycle 1010000) s) (fun r => !r.core.up ∧ !r.cinch.loadOn ∧ r.cinch.seatDb = 20 ∧ r.cinch.soft = 9) ∧
    after (exec (.cinchReset 1010000) s) (fun r => r.cinch.loadOn ∧ r.cinch.seatDb = 50 ∧ r.cinch.soft = 0) := by
  decide +kernel

/-! ### The phase wheel and the story pole (01) -/

/-- LOCKED on ZXA, half a cycle after the anchor. -/
def locked : State := { up with wheel := { up.wheel with state := .locked, a := { lastEdge := some 5120000 } }, now := 10240000 }

theorem test_edge_outside_is_rejected :
    (locked.core.up = true ∧ locked.wheel.state ≠ .free ∧ locked.wheel.sources.contains (b2n false) = true ∧
      6554 < (locked.phaseError (b2n false) 12800000).natAbs) ∧
    after (exec (.zxEdgeQualified 12800000 false 12800000) locked) (fun r => r.wheel.a.reject = 1 ∧ r.wheel.state = .locked) := by
  decide +kernel

theorem test_accepted_edge_slews :
    (locked.core.up = true ∧ locked.wheel.state = .locked ∧ locked.wheel.sources.contains 0 = true ∧ locked.wheel.active.toNat = 0 ∧
      (locked.wheel.input 0).winFirst = none ∧ (locked.wheel.input 0).lastEdge = some 5120000 ∧
      rateOk (((10241000 - 5120000 : Nat) : Rat) / ((max 1 (divRound (10241000 - 5120000) locked.wheel.period.toNat) : Nat) : Rat)) = true ∧
      (locked.isManager && decide (locked.aeloon.state = 4)) = false ∧ (locked.phaseError 0 10241000).natAbs ≤ 64) ∧
    after (exec (.zxEdgeQualified 10241000 false 10241000) locked) (fun r => r.wheel.phaseErr = BitVec.ofInt 16 (locked.phaseError 0 10241000) ∧
      r.wheel.motion = .slew (locked.phaseError 0 10241000) ((r.wheel.period.toNat : Nat) : Rat) ∧ r.wheel.anchorT = 10241000 ∧
      (r.wheel.input 0).lastEdge = some 10241000) := by
  decide +kernel

theorem test_hold_ends :
    let s := { up with wheel := { up.wheel with motion := .hold, anchorA := 100 } }
    (s.core.up = true ∧ s.wheel.motion = .hold) ∧
    after (exec (.phaseHoldEnd 2000000) s) (fun r => r.wheel.anchorT = 2000000 ∧ r.wheel.anchorA = 100 ∧ r.wheel.motion = .run) := by
  decide +kernel

theorem test_slew_ends :
    let s := { up with wheel := { up.wheel with motion := .slew 10 5120000 } }
    (s.core.up = true ∧ s.wheel.motion = .slew 10 5120000) ∧
    after (exec (.phaseSlewEnd 5120000) s) (fun r => r.wheel.motion = .run ∧ r.wheel.anchorA = 65546) := by
  decide +kernel

theorem test_missed_edge_counts :
    (locked.core.up = true ∧ locked.wheel.state ≠ .free ∧ locked.wheel.sources.contains 0 = true) ∧
    after (exec (.missedEdge 10240000 0) locked) (fun r => r.wheel.a.miss = 1 ∧ r.wheel.count = locked.wheel.count ∧ r.wheel.state = .locked) := by
  decide +kernel

theorem test_eighth_miss_holds_over :
    let s := { locked with wheel := { locked.wheel with missRun := 7 } }
    (s.wheel.active.toNat = 0 ∧ s.wheel.state = .locked ∧ (s.wheel.input 0).winDirty = false ∧ 7 ≤ s.wheel.missRun.toNat) ∧
    after (exec (.missedEdge 10240000 0) s) (fun r => r.wheel.state = .holdover ∧ r.wheel.holdLeft = 10) := by
  decide +kernel

theorem test_acquisition_locks :
    let s := { up with wheel := { up.wheel with a := { acqEdges := [5120000, 10240000, 15360000, 20480000] } } }
    (s.core.up = true ∧ s.wheel.state = .free ∧ s.wheel.acq = true ∧
      (s.wheel.sources.filter fun k => acqMet (s.wheel.input k).acqEdges) = [0] ∧
      (s.isManager && decide (s.aeloon.state = 4)) = false ∧
      (s.phaseError 0 ((s.wheel.input 0).acqEdges.getLastD 0)).natAbs ≤ 64) ∧
    after (exec (.acquisitionChoice 20480000) s) (fun r => r.wheel.state = .locked ∧ r.wheel.period = 5120000 ∧ r.wheel.active = 0 ∧
      bitAt r.core.ready.toNat 4 = true) := by
  decide +kernel

theorem test_boundary_counts :
    after (exec (.cycleBoundary 5120000) up) (fun r => r.wheel.count = 1) ∧
    after (exec (.cycleBoundary 5120000) { worker with wheel := { worker.wheel with mgrCount := some 41 } }) (fun r => r.wheel.count = 42) := by
  decide +kernel

theorem test_compile_ends :
    let s := { up with scr := { up.scr with compiling := true } }
    (s.core.up = true ∧ s.scr.compiling = true) ∧
    after (exec (.compileComplete 2000000) s) (fun r => r.scr.done = 1 ∧ r.scr.ready ≠ [] ∧ r.scr.compiling = false) := by
  decide +kernel

theorem test_hold_fires_nothing :
    let s := withPole { up with wheel := { up.wheel with motion := .hold } } { action := 4, arg := 2 }
    s.wheel.motion = .hold ∧ after (exec (.closeWindow 2000000 0) s) (fun r => r.pole = s.pole) := by
  decide +kernel

theorem test_nop_fires :
    let s := withPole up { action := 0 }
    (s.core.up = true ∧ s.poleRuns = true ∧ s.isNop 0 = true) ∧
    after (exec (.nop 2000000 0) s) (fun r => r.pole.fired = [0]) := by
  decide +kernel

theorem test_open_and_close_fire :
    ((withPole up { action := 3, arg := 2 }).poleEntry 3 0 = some { action := 3, arg := 2 } ∧
     (withPole up { action := 4, arg := 2 }).poleEntry 4 0 = some { action := 4, arg := 2 }) ∧
    after (exec (.openWindow 2000000 0) { withPole up { action := 3, arg := 2 } with pole := { entries := [{ action := 3, arg := 2 }], closed := 0xF } })
      (fun r => r.pole.closed = 0xB) ∧
    after (exec (.closeWindow 2000000 0) (withPole up { action := 4, arg := 2 })) (fun r => r.pole.closed = 4) := by
  decide +kernel

theorem test_doorbell_entry_fires :
    let s := withPole { up with link := { up.link with running := true, bme := true } } { action := 5 }
    (s.poleEntry 5 0 = some { action := 5 } ∧ s.linkActive = true) ∧
    after (exec (.doorbellFetch 2000000 0) s) (fun r => r.link.fetching = 1 ∧ r.pole.fired = [0]) := by
  decide +kernel

theorem test_beacon_and_mark_fire :
    let m := withPole { up with tack := { up.tack with courses := [(2, { cfg := { w0 := 8 } })] } } { action := 8, arg := 9 }
    ((withPole manager { action := 7 }).poleEntry 7 0 = some { action := 7 } ∧ m.poleEntry 8 0 = some { action := 8, arg := 9 } ∧
      (courseNumbers.any fun c => (m.course c).cfg.traced) = true ∧ m.tack.trace.state ≠ 2) ∧
    after (exec (.aeloonBeacon 2000000 0) (withPole manager { action := 7 })) (fun r => r.aeloon.cycleBeacon) ∧
    after (exec (.traceMark 2000000 0) m) (fun r => r.tack.trace.entries = [(0, 64)] ∧ tget 0 r.tack.trace.mem 0 = 0x80 ∧
      tget 0 r.tack.trace.mem 1 = 9 ∧ r.tack.trace.wptr = 64) := by
  decide +kernel

/-- Course 2 enabled, its strike at angle 100, no points. -/
def course2 : State := withPole { up with tack := { up.tack with courses := [(2, { cfg := { w0 := 1 } })] } } { angle := 100, action := 1, arg := 2 }

theorem test_strike_fires :
    (course2.core.up = true ∧ course2.poleRuns = true ∧ course2.poleEntry 1 0 = some { angle := 100, action := 1, arg := 2 } ∧
      (course2.course (bitsAt (2 : BitVec 8).toNat 0 4)).cfg.enabled = true ∧ course2.warning = false ∧ course2.shedFree = false) ∧
    after (exec (.strike 2000000 0) course2) (fun r => r.pole.fired = [0] ∧
      r.pole.lastStrike = some { angle := 100, cycle := 0, at' := 2000000 } ∧ (r.course 2).strikes.head? = some (100, 0, 2000000) ∧
      (r.course 2).snap.any fun n => n.angle = 100 ∧ n.cycle = 0 ∧ n.count = 0 ∧ n.at' = 2000000 ∧ n.points = course2.coursePoints 2 ∧
        n.cfg = (course2.course 2).cfg) ∧
    after (exec (.strike 2000000 0) { course2 with pole := { course2.pole with lastStrike := some { angle := 100, at' := 1999999 } } })
      (fun r => (r.course 2).strikes.head? = some (100, 0, 1999999)) := by
  decide +kernel

theorem test_strike_is_shed :
    let s := { course2 with core := { course2.core with ready := 0x2FF } }
    (s.poleRuns = true ∧ s.warning = true ∧ s.poleEntry 1 0 = some { angle := 100, action := 1, arg := 2 }) ∧
    after (exec (.strike 2000000 0) s) (fun r => r.wheel.shed = 1 ∧ r.pole.fired = [0] ∧ r.pole.lastStrike = none) := by
  decide +kernel

theorem test_publish_and_tally_fire :
    ((withPole up { action := 2, arg := 2 }).poleEntry 2 0 = some { action := 2, arg := 2 } ∧
      (withPole up { action := 6 }).poleEntry 6 0 = some { action := 6 }) ∧
    after (exec (.publish 2000000 0) { withPole up { action := 2, arg := 2 } with tack := { up.tack with courses := [(2, { snap := some {} })] } })
      (fun r => (r.course 2).snap = none ∧ (r.course 2).seq = 1 ∧ r.pole.fired = [0] ∧ (r.course 2).half ∧ r.tack.checkQ = [(2, true)]) ∧
    after (exec (.tallyTick 2000000 0) (withPole up { action := 6 })) (fun r => r.pole.fired = [0]) := by
  decide +kernel

/-- String 3 with one cell: last rested 15 days ago, and the same with a cell voltage in a drought that has had its rest point. -/
def droughty : BatString := { cfg := { cells := [(7, none)] } }
def resting : BatString := { droughty with volts := [some 4], drought := true, restDone := true }
def withString (s : State) (b : BatString) : State := { s with tally := { s.tally with strings := [(3, some b)] } }

theorem test_strings_are_evaluated :
    let late := 15 * 86400 * 256000000
    (droughty.volts.filterMap id = [] ∧ droughty.drought = false ∧ 86400 * droughty.cfg.droughtDays ≤ droughty.sinceRest (max up.now late) ∧
      up.tally.timerAt ≤ max up.now 512000000 ∧ resting.volts.filterMap id ≠ [] ∧ (resting.volts.filterMap id).length = resting.cfg.cells.length) ∧
    after (exec (.tallyTick late 0) (withString (withPole up { action := 6 }) droughty)) (fun r =>
      (r.string 3).any fun b => b.drought ∧ b.pairOk = false ∧ b.means = []) ∧
    after (exec (.tallyEvalTimer late) (withString up droughty)) (fun r => (r.string 3).any fun b => b.drought) ∧
    after (exec (.tallyTick 2000000 0) (withString (withPole up { action := 6 }) resting)) (fun r =>
      (r.string 3).any fun b => b.means.head? = some (2000000, 4)) ∧
    after (exec (.tallyEvalTimer 512000000) (withString up resting)) (fun r => (r.string 3).any fun b => b.means.head? = some (512000000, 4)) := by
  decide +kernel

theorem test_pw_ctrl_refuses_sel :
    (up.core.up = true ∧ up.isWorker = false ∧ 5 ≤ bitsAt (0x1D : Word).toNat 0 3) ∧
    after (exec (.pwCtrlWrite 2000000 0x1D) up) (fun r => r.wheel.ctrl = 0x18) ∧
    bitsAt (0x10 : Word).toNat 0 3 = up.wheel.sel ∧ bitsAt (0x4 : Word).toNat 0 3 ≠ up.wheel.sel ∧
    after (exec (.pwCtrlWrite 2000000 0x10) up) (fun r => r.wheel.ctrl = 0x10) ∧
    after (exec (.pwCtrlWrite 2000000 0x4) up) (fun r => r.wheel.ctrl = 4 ∧ bitAt r.core.ready.toNat 4 = true ∧ r.wheel.state = .free ∧
      r.wheel.acqWait ∧ r.scr.compiling) := by
  decide +kernel

theorem test_pw_nominal :
    (bitsAt (999 : Word).toNat 0 20 < 1000 ∧ 1000 ≤ bitsAt (60000 : Word).toNat 0 20 ∧ bitsAt (60000 : Word).toNat 0 20 ≤ 1000000 ∧
      up.wheel.sel ≠ 4 ∧ { up.wheel with ctrl := 4 }.sel = 4) ∧
    after (exec (.pwNominalWrite 2000000 60000) { up with wheel := { up.wheel with ctrl := 4 } }) (fun r =>
      r.wheel.nominalReg = 60000 ∧ r.wheel.nominal = 50000 ∧ r.scr.compiling) ∧
    after (exec (.pwNominalWrite 2000000 999) up) (fun r => r = up.advance 2000000) ∧
    after (exec (.pwNominalWrite 2000000 60000) up) (fun r => r.wheel.nominalReg = 60000 ∧ r.wheel.nominal = 50000) := by
  decide +kernel

theorem test_pw_cycle_lo_latches :
    after (exec (.pwCycleLoRead 2000000) { up with wheel := { up.wheel with count := 0x700000005 } })
      (fun r => r.lastRead = 5 ∧ r.wheel.cycleHi = 7) := by
  decide +kernel

/-! ### Breik and SENT ports (02, 03, 06) -/

/-- A Breik port in service at 250 ns, with a chain of two known devices. -/
def chain : AwlPort := { cfg := 0x51E5, life := .service, chainLen := 2, map := [0x1111, 0x2222], rt := 30 }

/-- The periods of a device frame (R82, R90) at tick T, its check by R115. -/
def devPeriods (T pos code seq kind : Nat) (data : List Nat) : List Nat :=
  let input := kind :: data
  let chk := breikCheck (kind ≠ 0) pos code seq input
  let digits := if kind = 0 then [chk / 16 % 16, chk % 16] else [chk / 4096 % 16, chk / 256 % 16, chk / 16 % 16, chk % 16]
  (input ++ digits).map fun v => T * (v + 6)

def idData (v : Nat) : List Nat := (List.range 16).map fun k => v / 16 ^ (15 - k) % 16

/-- Course 2 with a strike at angle 12900, and point 7 of position 1 on BKD03 in it. -/
def spanEntry : CutEntry := { kind := .strikeSpan, angle := 12900, placed := true, off := -3000, len := 3000 }
def striking : State := withAwl
  { up with
    pole := { entries := [{ angle := 12900, action := 1, arg := 2 }] }
    tack := { up.tack with courses := [(2, { cfg := { w0 := 1 } })] }
    tab := { up.tab with points := [(7, { src := 3, addr := 1, cmd := 1, valid := true, courses := 4 })] }
    scr := { up.scr with lists := [(3, { entries := [spanEntry] })] } } chain

/-- The trigger's closing edge is placed by the round trip of four echoes that agreed (R109, R113). -/
theorem test_strike_span_arms_port :
    let s := withAwl striking { chain with rtDue := some 33 }
    let a := s.advance 1004000
    let q : AwlPort := { s.awl 3 with rt := 33, rtDue := none }
    let at' := s.wheel.instantOf 1004000 ((spanEntry.angle : Rat) + 65536 * ((a.entryCycle spanEntry - s.wheel.cycle : Int) : Rat))
    ((tget {} s.scr.lists 3).entries[0]? = some spanEntry ∧ a.entryCycle spanEntry = 0 ∧ s.scr.swapCount = 0 ∧
      (s.portQ 3).ran.contains (0, 0) = false ∧ a.entryDue 3 spanEntry 0 = true ∧ s.halterOn = false ∧ s.warning = false ∧
      s.shedFree = false ∧ s.pole.waits = false ∧ s.engineFree 3 = true ∧ (s.awl 3).cmd = none ∧ (s.awl 3).retries = [] ∧
      (s.awl 3).mode = 1 ∧ 1004000 + (36 + (q.seq + 1).toNat) * q.cmdT 4 ≤ q.strikeEdge at' + s.wheel.period.toNat / 65536) ∧
    after (exec (.cutListEntryStart 1004000 3 0) s) (fun r => (r.awl 3).seq = 1 ∧ (r.awl 3).rt = 33 ∧ (r.awl 3).rtDue = none ∧
      (r.awl 3).armed = some (12900, (2 * 1007813 - 33 - 4 * 64) / 2)) := by
  decide +kernel

/-- A READ_NOW of point 7 that waits in the queue of BKD03. -/
def readJob : Job := { slot := 5, w0 := 0x08, words := [7], started := true }
def waitingJob : State := withAwl { up with
  link := { up.link with jobs := [readJob] }
  tab := { up.tab with points := [(7, { src := 3, addr := 1, cmd := 1, valid := true })] }
  ports := { up.ports with q := [(3, { jobs := [5] })] } } chain
def waiting3 : State := { waitingJob with ports := { waitingJob.ports with q := [(3, { jobs := [5] })], awl := [(3, chain)] } }

theorem test_gap_starts_job :
    (waiting3.halterOn = false ∧ waiting3.warning = false ∧ waiting3.engineFree 3 = true ∧ (waiting3.awl 3).retries = [] ∧
      (waiting3.awl 3).changeCause = 0 ∧ (waiting3.advance 1000100).nextOpenJob 3 = some readJob ∧ (waiting3.awl 3).cmd = none ∧
      ((waiting3.advance 1000100).awlJob 3 readJob).1.code ≠ 6 ∧
      (waiting3.advance 1000100).fitsGap 3 ((waiting3.advance 1000100).awlJob 3 readJob).2 = true) ∧
    after (exec (.gapTransactionStart 1000100 3) waiting3) (fun r => (r.awl 3).cmd.any fun c => c.use = .job 5 ∧ c.code = 3 ∧ c.pos = 1) := by
  decide +kernel

theorem test_retry_asks_again :
    let x : AwlRetry := { use := .sweep, code := 2, pos := 1, kind := 2, left := 1 }
    let s := withAwl up { chain with retries := [x] }
    ((s.awl 3).retries = [x] ∧ (s.awl 3).canStart = true ∧ (s.awl 3).changeCause = 0 ∧ (s.awl 3).cmd = none ∧ x.code ≠ 6 ∧
      (s.advance 1000100).rereadInTime 3 x = true ∧ (s.advance 1000100).retryRoom 3 x = true) ∧
    after (exec (.breikRetry 1000100 3) s) (fun r => (r.awl 3).cmd.map (fun c => (c.use, c.pos, c.isRetry)) = some (.sweep, 1, true) ∧
      tget 0 r.ports.awlCtr (32 * 3 + 17) = 1) := by
  decide +kernel

/-- A capping write of one byte to the target at 0x20 on BKL03. -/
def cappingJob : Job := { slot := 6, w0 := 0x09, words := [9, 1, 0x55], started := true, read := true }
def cappingWaits : State :=
  { up with link := { up.link with jobs := [cappingJob] }
            tab := { up.tab with points := [(9, { src := 67, addr := 0x20, valid := true, prio := 3 })] }
            ports := { up.ports with q := [(67, { capping := [6] })], tw := [(3, { cfg := 1 })] } }

theorem test_capping_write_starts :
    (cappingWaits.engineFree 67 = true ∧ (cappingWaits.portQ 67).ship = [] ∧ (cappingWaits.portQ 67).capping = [6] ∧
      cappingWaits.nextCapping 67 = some cappingJob) ∧
    after (exec (.cappingWriteStart 1000100 67) cappingWaits) (fun r => (r.portQ 67).capping = [] ∧ (r.portQ 67).capUntil.isSome ∧
      (r.tw 3).xfer.isSome) := by
  decide +kernel

/-- An identity sweep of position 1 with its command out. -/
def sweepCmd : AwlCmd := { use := .sweep, code := 2, seq := 5, pos := 1, kind := 2 }
def sweeping : State := withAwl up { chain with cmd := some sweepCmd }

theorem test_sweep_identity_matches :
    let f := devPeriods 64 1 2 5 2 (idData 0x1111)
    ((sweeping.awl 3).cmd = some sweepCmd ∧ (sweeping.awl 3).changeCause = 0 ∧
      (classify ((sweeping.awl 3).cmdT 2) ((sweeping.awl 3).calScale 2) none 1 2 5 ((sweeping.awl 3).expectKind 1 2) 2048 f false).1 = .ok ∧
      ((classify ((sweeping.awl 3).cmdT 2) ((sweeping.awl 3).calScale 2) none 1 2 5 ((sweeping.awl 3).expectKind 1 2) 2048 f false).2.map (·.bits)) = some 0x1111 ∧
      (sweeping.awl 3).map[1 - 1]? = some 0x1111) ∧
    after (exec (.breikFrameReceived 1000100 3 2048 f false) sweeping) (fun r => (r.awl 3).cmd = none ∧ tget 0 (r.awl 3).noResp 1 = 0) := by
  decide +kernel

theorem test_sweep_frame_out_of_range :
    (classify ((sweeping.awl 3).cmdT 2) ((sweeping.awl 3).calScale 2) none 1 2 5 ((sweeping.awl 3).expectKind 1 2) 9999 [] false = (.calRange, none)) ∧
    after (exec (.breikFrameReceived 1000100 3 9999 [] false) sweeping) (fun r => (r.awl 3).cmd = none ∧
      tget 0 r.ports.awlCtr (32 * 3 + FrameClass.calRange.counter) = 1) := by
  decide +kernel

theorem test_no_response :
    (tget 0 (sweeping.awl 3).noResp 1 < 2) ∧
    after (exec (.breikResponseTimeout 1000100 3) sweeping) (fun r => (r.awl 3).cmd = none ∧ tget 0 (r.awl 3).noResp 1 = 1 ∧
      tget 0 r.ports.awlCtr (32 * 3 + 1) = 1) := by
  decide +kernel

/-- A SENT port of BKD03 in request mode, one sensor. -/
def sentPort : AwlPort := { cfg := 0x51E6, life := .off }

theorem test_sent_request_unanswered :
    let e : CutEntry := { kind := .sentRead 0, points := [7] }
    let s := { withAwl up { sentPort with cmd := some { use := .read e 0 } } with
      tab := { up.tab with points := [(7, { src := 3, valid := true, retry := 2 })] } }
    ((s.awl 3).mode = 2 ∧ (s.awl 3).cmd = some { use := .read e 0 } ∧ s.maxRetry e.points ≠ 0) ∧
    after (exec (.spcResponseTimeout 1000100 3) s) (fun r => (r.awl 3).cmd = none ∧ (r.awl 3).retries.length = 1 ∧
      tget 0 r.ports.awlCtr (32 * 3 + 1) = 1) := by
  decide +kernel

theorem test_pull_up_windows_end :
    ((withAwl up { chain with spu := 2 }).awl 3).spu = 2 ∧ ((withAwl up { chain with spu := 1 }).awl 3).spu = 1 ∧
    after (exec (.writeCommitWindowEnd 1000100 3) (withAwl up { chain with spu := 2 })) (fun r => (r.awl 3).spu = 0) ∧
    after (exec (.spuWindowEnd 1000100 3 false) (withAwl up { chain with spu := 1 })) (fun r => (r.awl 3).spu = 0 ∧ (r.awl 3).life = .service) := by
  decide +kernel

theorem test_echo_in_its_window :
    let s := withAwl up { chain with armed := some (100, 1000000), echoRun := 2 }
    (2 * (max 1000286 (1000000 + 30 + 4 * (s.awl 3).cmdT 4) - min 1000286 (1000000 + 30 + 4 * (s.awl 3).cmdT 4)) ≤ (s.awl 3).cmdT 4) ∧
    after (exec (.echoReceived 1000300 3 1000286) s) (fun r => (r.awl 3).armed = none ∧ (r.awl 3).echoOk ∧ (r.awl 3).echoRun = 0 ∧
      (r.awl 3).spu = 1) := by
  decide +kernel

theorem test_echo_missing :
    after (exec (.echoTimeout 1000400 3) (withAwl up { chain with armed := some (100, 1000000) }))
      (fun r => r.wheel.missed = 1 ∧ (r.awl 3).armed = none) := by
  decide +kernel

/-- A search of BKD03 at a step. -/
def searchAt (q : Search) : State := withAwl up { chain with life := .search, search := some q }

theorem test_presence_pulse_counts :
    let q : Search := { step := .presence, resetEnd := 1000000 }
    ((searchAt q).awl 3).search = some q ∧ 6 * us ≤ 8 * us ∧ 8 * us ≤ 10 * us ∧ q.lastPulse = none ∧
    q.resetEnd + 6 * us ≤ 1002000 ∧ 1002000 ≤ q.resetEnd + 11 * us ∧ q.n < 96 ∧
    after (exec (.presencePulse 1005000 3 1002000 (8 * us)) (searchAt q)) (fun r =>
      (r.awl 3).search = some { q with n := 1, lastPulse := some 1002000 }) := by
  decide +kernel

theorem test_presence_ends :
    let q : Search := { step := .presence, n := 2 }
    (q.step = .presence ∧ q.n ≠ 0) ∧
    after (exec (.presenceCountEnd 1005000 3) (searchAt q)) (fun r => (r.awl 3).search = some { q with step := .probe }) := by
  decide +kernel

theorem test_probe_reflects :
    let q : Search := { step := .probe, n := 2 }
    (q.step = .probe ∧ 100 ≤ 1024) ∧
    after (exec (.delayProbeReflection 1005000 3 100) (searchAt q)) (fun r => (r.awl 3).rt = BitVec.ofNat 12 (probeRt 100) ∧
      (r.awl 3).search.map (fun q => (q.step, q.idx)) = some (.identity, 1)) := by
  decide +kernel

theorem test_probe_times_out :
    let q : Search := { step := .probe, n := 2, restarts := 1 }
    (q.single = false ∧ q.restarts < 3) ∧
    after (exec (.delayProbeTimeout 1005000 3) (searchAt q)) (fun r => tget 0 r.ports.awlCtr (32 * 3 + 16) = 1 ∧
      (r.awl 3).search.map (fun q => (q.step, q.restarts)) = some (.waitRestart, 2)) := by
  decide +kernel

theorem test_search_restarts :
    let q : Search := { step := .waitRestart, n := 2, restarts := 1 }
    after (exec (.searchRestart 1005000 3) (searchAt q)) (fun r =>
      (r.awl 3).search.map (fun q => (q.step, q.n, q.restarts)) = some (.presence, 0, 1)) := by
  decide +kernel

theorem test_unstable_retry :
    let s := withAwl up { chain with life := .unstable, nextAt := some 1002000 }
    ((s.awl 3).life = .unstable ∧ (s.awl 3).search = none ∧ s.halterOn = false ∧ (s.awl 3).nextAt = some 1002000 ∧ 1002000 ≤ max s.now 1005000) ∧
    after (exec (.unstableRetry 1001000 3) s) (fun r => (r.awl 3).life = .unstable) ∧
    after (exec (.unstableRetry 1005000 3) s) (fun r => (r.awl 3).life = .search ∧
      (r.awl 3).search.map (fun q => (q.single, q.cause)) = some (true, 9)) := by
  decide +kernel

theorem test_fences :
    let s := withAwl up chain
    (s.halterOn = false ∧ (s.awl 3).mode ≠ 0 ∧ (s.awl 3).life ≠ .fenced ∧ ((s.awl 3).life ≠ .off ∨ (s.awl 3).mode = 2) ∧
      bitsAt s.ports.chainLimit.toNat 0 12 < 4000) ∧
    after (exec (.fenceStuck 1005000 3 200) s) (fun r => (r.awl 3).life = .fenced ∧ (r.awl 3).fenceCause = 1) ∧
    after (exec (.fenceChatter 1005000 3 4000 0) s) (fun r => (r.awl 3).life = .fenced ∧ (r.awl 3).fenceCause = 2) ∧
    after (exec (.spuWindowEnd 1005000 3 true) (withAwl up { chain with spu := 2 })) (fun r => (r.awl 3).life = .fenced ∧ (r.awl 3).fenceCause = 3) ∧
    after (exec (.spuWindowEnd 1005000 3 true) (withAwl up { chain with spu := 1 })) (fun r => (r.awl 3).life = .fenced ∧ (r.awl 3).fenceCause = 3) := by
  decide +kernel

/-- BKD03 fenced by chatter. -/
def fencedPort : State := withAwl up { chain with life := .fenced, fenceCause := 2, fenceExp := 3, nextAt := some 2000000 }

theorem test_unfence_timer :
    ((fencedPort.awl 3).life = .fenced ∧ (fencedPort.awl 3).nextAt = some 2000000 ∧ fencedPort.portFenced 3 = true ∧ fencedPort.watching 3 = false ∧ fencedPort.unfencing 3 = false ∧ (fencedPort.awl 3).fenceCause ≠ 4 ∧
      fencedPort.fenceAuto = true ∧ fencedPort.halterOn = false) ∧
    after (exec (.unfenceTimer 2000000 3) fencedPort) (fun r => (r.awl 3).watch ∧ (r.awl 3).nextAt = none ∧ (r.awl 3).life = .fenced) := by
  decide +kernel

theorem test_unfence_line_high :
    let s := withAwl up { chain with life := .fenced, watch := true }
    let m := withTw up { cfg := 1, fenced := true, watch := true }
    ((s.awl 3).watch = true ∧ (s.awl 3).mode ≠ 2 ∧ (m.tw 3).watch = true) ∧
    after (exec (.unfenceLineCheckEnd 2000000 3 true true) s) (fun r => (r.awl 3).life = .search ∧ (r.awl 3).search.map (·.cause) = some 8) ∧
    after (exec (.unfenceLineCheckEnd 2000000 67 true true) m) (fun r => (r.tw 3).watch = false ∧ (r.tw 3).returning.isSome) := by
  decide +kernel

theorem test_fence_interval_resets :
    let s := withAwl up { chain with fenceExp := 3 }
    s.portFenced 3 = false ∧ after (exec (.fenceIntervalReset 2000000 3) s) (fun r => (r.awl 3).fenceExp = 0) := by
  decide +kernel

/-- A good SENT frame: status 0 and six data nibbles, with its check (R124). -/
def sentBody : List Nat := [0, 1, 2, 3, 4, 5, 6]
def sentCheckNibble : Nat := crcOver sent4 4 (sentBody.drop 1)
def sentPeriods : List Nat := (sentBody ++ [sentCheckNibble]).map fun v => 768 * (v + 12)

/-- A SENT port of one SPC sensor, asked at 1,000,000. -/
def spcPort : AwlPort := { sentPort with sent := 0x603086, spcStart := 1000000 }

theorem test_sent_frames :
    let s := withAwl up sentPort
    let q := withAwl up spcPort
    ((s.awl 3).mode = 2 ∧ (s.awl 3).life ≠ .fenced ∧ (s.awl 3).cmd = none ∧ (s.awl 3).sentIdCount = 0 ∧ (q.awl 3).sentIdCount = 1 ∧
      (sentClassify (s.awl 3).sentTick (s.sentId 3 0).calPrev (s.awl 3).sentNibbles (bitAt (s.awl 3).sent.toNat 4) 1 [] = (.calRange, [])) ∧
      sentClassify (s.awl 3).sentTick (s.sentId 3 0).calPrev (s.awl 3).sentNibbles (bitAt (s.awl 3).sent.toNat 4) (768 * 56) sentPeriods = (.ok, sentBody)) ∧
    after (exec (.sentFrameReceived 1005000 3 0 1 [] none 1000000 1004000) s) (fun r =>
      tget 0 r.ports.awlCtr (32 * 3 + FrameClass.calRange.counter) = 1) ∧
    after (exec (.sentFrameReceived 1005000 3 0 (768 * 56) sentPeriods none 1000000 1004000) s) (fun r =>
      (r.sentId 3 0).last = some { nibbles := sentBody, check := sentCheckNibble, start := 1000000, stop := 1004000 }) ∧
    after (exec (.sentFrameReceived 1005000 3 0 (768 * 56) sentPeriods none 1000000 1004000) q) (fun r => r = q.advance 1005000) := by
  decide +kernel

theorem test_spc_answer :
    let c : AwlCmd := { use := .read {} 0, pos := 0 }
    let s := withAwl up { spcPort with cmd := some c }
    ((s.awl 3).cmd = some c ∧ 0 < (s.awl 3).sentIdCount ∧
      (sentClassify (s.awl 3).sentTick (s.sentId 3 0).calPrev (s.awl 3).sentNibbles (bitAt (s.awl 3).sent.toNat 4) (768 * 56) sentPeriods).1 = .ok) ∧
    after (exec (.sentFrameReceived 1005000 3 0 (768 * 56) sentPeriods none 1002000 1004000) s) (fun r => (r.awl 3).cmd = none ∧
      (r.sentId 3 0).last = some { nibbles := sentBody, check := sentCheckNibble, start := 1000000, stop := 1004000 } ∧
      tget 0 r.ports.awlCtr (32 * 3 + FrameClass.ok.counter) = 1) := by
  decide +kernel

/-! ### Two-wire ports and the converter (04, 06) -/

/-- BKL03 with a VOUT_MODE read of the target at 0x40 on the wire. -/
def vmodeRead : TwXfer := { use := .vmode 0x40, addr := 0x40, tx := some [0x20], rlen := 1, left := 2, arbLeft := 2 }
def twBusy : State := withTw up { cfg := 0x2003241, xfer := some vmodeRead, segFree := false }

theorem test_zone_write_stands :
    let e : CutEntry := { kind := .zoneWrite, angle := 60000 }
    let x : TwXfer := { use := .zone e 0, addr := 0x28, tx := some [1] }
    let s := withTw up { cfg := 0x2003241, xfer := some x }
    ((s.tw 3).xfer = some x ∧ s.tally.going = none ∧ x.classify none [] = .ok ∧ x.firstPec = false ∧
      (s.advance 1010000).zoneInTime e 0 1005000 = true) ∧
    after (exec (.twAttemptEnd 1010000 3 1000000 1005000 none [] false) s) (fun r => (r.tw 3).xfer = none ∧ (r.tw 3).zoneStop = some (60000, 0, 1005000) ∧
      (r.tw 3).segFree = false) := by
  decide +kernel

theorem test_clock_timeout_waits_for_segment :
    ((twBusy.tw 3).xfer = some vmodeRead ∧ vmodeRead.left ≠ 0 ∧ twBusy.tally.going = none ∧ vmodeRead.targets.any (twBusy.tw 3).absent.contains = false) ∧
    after (exec (.twClockTimeout 1010000 3) twBusy) (fun r => (r.tw 3).xfer = none ∧ (r.tw 3).timeoutAt = some 1010000 ∧ !(r.tw 3).scl ∧
      (r.tw 3).retries.map (fun y => (y.left, y.attempts)) = [(1, 1)]) := by
  decide +kernel

theorem test_arbitration_lost :
    vmodeRead.arbLeft ≠ 0 ∧
    after (exec (.arbLost 1010000 3 0 4 0x10) twBusy) (fun r => (r.tw 3).xfer = none ∧ (r.tw 3).arb = arbWord 0x40 0 4 true ∧
      (r.tw 3).retries.map (fun y => (y.arbLeft, y.attempts)) = [(1, 1)]) ∧
    after (exec (.twForeignStartStop 1010000 3) twBusy) (fun r => (r.tw 3).xfer = none ∧
      (r.tw 3).retries.map (fun y => (y.arbLeft, y.attempts)) = [(1, 1)]) := by
  decide +kernel

/-- BKL03 in service with nothing under way. -/
def twIdle : State := withTw up { cfg := 0x2803241, segFree := false }

theorem test_segment_frees :
    (twIdle.tw 3).retries = [] ∧
    after (exec (.twSegmentFree 1010000 3) twIdle) (fun r => (r.tw 3).segFree ∧ !(r.tw 3).target) := by
  decide +kernel

/-- A capping write is tried again as soon as the segment is free (R290). -/
theorem test_segment_free_retries :
    let x : TwXfer := { use := .job 6 true, addr := 0x20, tx := some [0x10, 0x55], attempts := 1 }
    let s := withTw up { cfg := 0x2803241, segFree := false, retries := [x] }
    ((s.tw 3).retries = [x] ∧ x.attempts ≠ 0 ∧ s.twServing 3 = true ∧ (s.tw 3).xfer = none ∧ s.cappingReady 67 = false ∧ (s.tw 3).lpi = false ∧ s.warning = false ∧ (s.tw 3).watch = false) ∧
    after (exec (.twSegmentFree 1010000 3) s) (fun r => (r.tw 3).xfer = some x ∧ (r.tw 3).retries = [] ∧
      tget 0 r.ports.bklCtr (32 * 3 + 11) = 1) := by
  decide +kernel

theorem test_target_notify_counts :
    (twIdle.twServing 3 = true ∧ (twIdle.tw 3).lpi = false) ∧
    after (exec (.twTargetTransactionEnd 1010000 3 8 false [0x40, 0x34, 0x12]) twIdle) (fun r => !(r.tw 3).target ∧
      tget 0 r.ports.bklCtr (32 * 3 + 14) = 1) := by
  decide +kernel

theorem test_low_power_idle :
    let asleep := withTw up { cfg := 0x2803241, lpi := true }
    let waking := withTw up { cfg := 0x2803241, lpi := true, waking := true }
    (twIdle.twServing 3 = true ∧ (twIdle.tw 3).lpiEn = true ∧ (twIdle.tw 3).xfer = none ∧ (twIdle.tw 3).retries = [] ∧
      (twIdle.portQ 67).jobs = [] ∧ (twIdle.portQ 67).capping = [] ∧ (twIdle.portQ 67).ship = [] ∧ (twIdle.tw 3).target = false ∧
      (twIdle.advance 1010000).alertInput 3 = none ∧ (twIdle.advance 1010000).vmodeDue 3 = none ∧
      (twIdle.advance 1010000).fitsGap 67 (bitsAt (twIdle.tw 3).cfg.toNat 24 4 * 1000 * us) = true) ∧
    after (exec (.lpiEnter 1010000 3) twIdle) (fun r => (r.tw 3).lpi ∧ !(r.tw 3).waking) ∧
    after (exec (.lpiWake 1010000 3) asleep) (fun r => (r.tw 3).waking) ∧
    after (exec (.lpiAddressMatch 1010000 3) asleep) (fun r => (r.tw 3).waking ∧ tget 0 r.ports.bklCtr (32 * 3 + 16) = 1) ∧
    after (exec (.lpiWakeDone 1010000 3) waking) (fun r => !(r.tw 3).lpi ∧ !(r.tw 3).waking) := by
  decide +kernel

/-- Alert input 2 enabled and bound to BKL03. -/
def alerted : State := { up with ports := { up.ports with alertCfg := 0x40000, alertBind := [(2, 8)] } }

theorem test_alerts :
    let served := { alerted with ports := { alerted.ports with alert := [(2, { level := true, pending := true, ports := [3], reads := 1 })] } }
    let still := { alerted with ports := { alerted.ports with alert := [(2, { level := true, pending := true })] } }
    ((alerted.alertOf 2).pending = false ∧ alerted.alertEnabled 2 = true ∧ (still.alertOf 2).level = true ∧ (still.alertOf 2).pending = true ∧ (still.alertOf 2).ports = [] ∧
      still.alertEnabled 2 = true) ∧
    after (exec (.alertAssert 1010000 2) alerted) (fun r => r.alertOf 2 = { level := true, pending := true, ports := [3], reads := 0 }) ∧
    after (exec (.alertRelease 1010000 2) served) (fun r => r.alertOf 2 = {}) ∧
    after (exec (.alertHoldoff 1010000 2) still) (fun r => r.alertOf 2 = { level := true, pending := true, ports := [3] }) := by
  decide +kernel

theorem test_bus_recovers :
    let s := withTw up { cfg := 0x2003241, sda := false, segFree := false }
    (s.twServing 3 = true ∧ s.tally.going = none ∧ (s.advance 1010000).clearCase 3 = true ∧ (s.tw 3).xfer = none ∧
      (twBusy.advance 1010000).clearCase 3 = true ∧ vmodeRead.arbLeft ≠ 0 ∧
      twBusy.twEnding vmodeRead.use = false ∧ vmodeRead.targets.any (twBusy.tw 3).absent.contains = false) ∧
    after (exec (.busClear 1010000 3 4 true) s) (fun r => (r.tw 3).sda ∧ (r.tw 3).scl ∧ !(r.tw 3).segFree ∧ tget 0 r.ports.bklCtr (32 * 3 + 19) = 1) ∧
    after (exec (.busClear 1010000 3 4 true) twBusy) (fun r => (r.tw 3).xfer = none ∧ !(r.tw 3).segFree ∧
      (r.tw 3).retries.map (fun y => (y.use, y.arbLeft, y.attempts)) = [(.vmode 0x40, 1, 1)]) ∧
    after (exec (.busClear 1010000 3 9 false) s) (fun r => (r.tw 3).fenced ∧ (r.tw 3).fenceCause = 5) := by
  decide +kernel

theorem test_clock_stays_low :
    let s := withTw up { cfg := 0x2003241, segFree := false }
    let x := withTw up { cfg := 0x2003241, segFree := false, timeoutAt := some 1000000 }
    ((s.tw 3).xfer = none ∧ (bitsAt (s.tw 3).cfg.toNat 9 6 + 10) * 1000 ≤ 40000 ∧ 1000000 + 10000 * us ≤ max x.now 3560000) ∧
    after (exec (.clockStuck 1010000 3 40000) s) (fun r => (r.tw 3).fenced ∧ (r.tw 3).fenceCause = 6 ∧ !(r.tw 3).scl) ∧
    after (exec (.clockStuck 3560000 3 10000) x) (fun r => (r.tw 3).fenced ∧ (r.tw 3).fenceCause = 6) := by
  decide +kernel

/-! ### Courses, snapshots and the trace ring (07) -/

theorem test_no_snapshot_is_open : ∀ c, (up.course c).snap = none := by intro c; rfl

theorem test_conversion_stands :
    up.cinch.up = true ∧ after (exec (.cinchConversion 1010000 1 0x5A3 1009000) up) (fun r => tget (0, 0) r.ports.conv 1 = (0x5A3, 1009000)) := by
  decide +kernel

theorem test_last_in_publishes :
    let s := { up with tack := { up.tack with courses := [(2, { snap := some {}, seq := 6 })] } }
    ((s.course 2).snap = some {} ∧ ({} : Snap).unresolved = []) ∧
    after (exec (.snapshotPublish 1010000 2) s) (fun r => (r.course 2).snap = none ∧ (r.course 2).seq = 7) := by
  decide +kernel

theorem test_unchecked_half_is_dropped :
    let s := { up with tack := { up.tack with checkQ := [(2, true), (3, false)] }, stitch := { failed := 4 } }
    (s.tack.checkQ = [(2, true), (3, false)] ∧ s.aeloon.nodes = [] ∧ bitAt s.stitch.failed.toNat 2 = true) ∧
    after (exec (.blockCheckReady 1010000) s) (fun r => r.tack.checkQ = [(3, false)] ∧ r.tack.banks = s.tack.banks ∧
      (r.course 2).header1 = (s.course 2).header1 ∧ (r.course 2).copies = []) := by
  decide +kernel

/-- The link runs, with a snapshot ring of course 2, event queue 0 and job ring 0 set up. -/
def linked : State := { up with link := { up.link with
  go := true, running := true, quiesced := false, bme := true, linkUp := true, dbLo := 0x7000
  snaps := [(2, { lo := 0x10000, cfg := 0x23 })]
  queues := [(0, { lo := 0x20000, cfg := 0x40D })]
  rings := [(0, { lo := 0x30000, cfg := 0x20D })] } }

theorem test_copy_and_rack_end :
    let s := { linked with tack := { linked.tack with courses := [(2, { cfg := { w0 := 1 }, copies := [(true, false)], merges := [{}] })] } }
    (s.dmaOpen = true ∧ (s.course 2).copies.find? (fun x => !x.2) = some (true, false) ∧ (s.course 2).merges = [{}] ∧ ({} : Merge).parts = []) ∧
    after (exec (.snapshotCopyDone 1010000 2) s) (fun r => (r.snapRing 2).pi = 1 ∧ (r.course 2).copies = []) ∧
    after (exec (.mergeWaitExpiry 1010000 2) s) (fun r => (r.course 2).merges = [] ∧ (r.snapRing 2).pi = 1) := by
  decide +kernel

/-- Unit 2 completes the header of a half struck for the host, and its copy begins (R316, R319). -/
theorem test_checked_half_is_copied :
    let k : Course := { header1 := List.replicate 64 0, cfgB := { w0 := 3 } }
    let s := { linked with tack := { linked.tack with courses := [(2, k)], checkQ := [(2, true)] } }
    (s.tack.checkQ = [(2, true)] ∧ bitAt s.stitch.failed.toNat 2 = false ∧ (s.course 2).halfCfg true = { w0 := 3 } ∧
      ({ w0 := 3 } : CourseCfg).toHost = true ∧ ({ w0 := 3 } : CourseCfg).merged = false ∧ ({ w0 := 3 } : CourseCfg).toUplink = false ∧
      s.linkActive = true ∧ (s.snapRing 2).enabled = true ∧ s.ringUsed 2 < (s.snapRing 2).buffers ∧
      64 + 8 * (s.halfRecords 2 true).length ≤ (s.snapRing 2).bufBytes) ∧
    after (exec (.blockCheckReady 1010000) s) (fun r => r.tack.checkQ = [] ∧ (r.course 2).copies = [(true, false)] ∧
      (r.course 2).header true = checkedHeader (List.replicate 64 0) []) := by
  decide +kernel

theorem test_trace_rearms :
    let s := { up with tack := { up.tack with trace := { state := 2 } } }
    let c := { up with tack := { up.tack with trace := { state := 2, copySlots := [5] } } }
    (s.tack.trace.copying = false ∧ c.tack.trace.copying = true) ∧
    after (exec (.csTrRearm 1010000) s) (fun r => r.tack.trace.state = 0) ∧
    after (exec (.csTrRearm 1010000) c) (fun r => r.tack.trace.state = 2 ∧ r.tack.trace.rearm) := by
  decide +kernel

/-! ### The host link (08) -/

/-- Set up, before GO. -/
def ready : State := { linked with link := { linked.link with go := false, running := false, quiesced := true } }

theorem test_go :
    let d := { ready with link := { ready.link with jobs := [{ draining := true }] } }
    (ready.link.go = false ∧ (ready.onLink fun l => { l with bme := true }).goCheck = 0 ∧ ready.draining = false ∧ d.draining = true ∧
      (d.onLink fun l => { l with bme := true }).goCheck = 0) ∧
    after (exec (.hlGoSet 1010000 true) ready) (fun r => r.link.go ∧ r.link.goErr = 0 ∧ !r.link.quiesced ∧ r.link.running) ∧
    after (exec (.hlGoSet 1010000 true) d) (fun r => r.link.go ∧ !r.link.quiesced ∧ r.link.startWait) := by
  decide +kernel

theorem test_link_stops :
    after (exec (.hlGoClear 1010000) linked) (fun r => !r.link.go ∧ !r.link.running) ∧
    after (exec (.hlQuiesced 1010000) { ready with link := { ready.link with quiesced := false, fetching := 2 } })
      (fun r => r.link.quiesced ∧ r.link.fetching = 0) ∧
    after (exec (.busMasterDisable 1010000) linked) (fun r => !r.link.bme ∧ !r.link.go ∧ r.link.bmeLost) := by
  decide +kernel

theorem test_doorbell_fetches :
    let f := { linked with link := { linked.link with fetching := 1 } }
    (linked.linkActive = true ∧ f.link.fetching ≠ 0 ∧ f.link.running = true ∧ f.link.consecFails + 1 < 16) ∧
    after (exec (.doorbellInterval 1010000) linked) (fun r => r.link.fetching = 1) ∧
    after (exec (.doorbellFetchDone 1010000 []) { f with core := { f.core with ready := 0xFB } }) (fun r => r.link.fetching = 0 ∧
      r.link.wbDue = 1 ∧ r.link.jobs = [] ∧ r.link.consecFails = 0) ∧
    after (exec (.doorbellFetchFailed 1010000) f) (fun r => r.link.fetching = 0 ∧ r.link.dbFails = 1 ∧ r.link.consecFails = 1) := by
  decide +kernel

/-- A producer index two ahead of the consumer's asks for two descriptors; a sound one starts its job (R353 to R358). -/
theorem test_descriptors_are_read :
    let f := { linked with link := { linked.link with fetching := 1 } }
    let s := { linked with link := { linked.link with reads := [{ ring := 0, n := 1, fetch := 3 }] } }
    let j : Job := { slot := 5, w0 := 0x02800000, words := [], ring := 0, order := linked.link.nextOrder }
    (([1, 2, 3, 4, 5, 6, 7].all fun k => !(f.ring k).enabled) ∧ f.linkActive = true ∧ (s.ring 0).err ≠ 2 ∧ (f.ring 0).enabled = true ∧ (f.ring 0).err = 0 ∧ countDiff 2 (f.ring 0).ci = 2 ∧
      2 ≤ (f.ring 0).burst ∧ 2 ≤ (f.ring 0).size ∧ f.inFlight + 2 ≤ 512 ∧ (f.ring 0).ci.toNat % (f.ring 0).size + 2 ≤ (f.ring 0).size ∧
      bitAt f.core.ready.toNat 2 = true ∧ f.link.reads = [] ∧ s.job? 5 = none ∧ s.rejection 0x02800000 j.word = none ∧ bitsAt 0x02800000 23 9 = 5) ∧
    after (exec (.doorbellFetchDone 1010000 [2]) f) (fun r => (r.ring 0).prod = 2 ∧ r.link.reads = [{ ring := 0, n := 2, fetch := 1 }] ∧
      r.link.fetching = 0 ∧ r.link.consecFails = 0) ∧
    after (exec (.descriptorReadDone 1010000 0 true [[0x02800000]]) s) (fun r => (r.ring 0).ci = 1 ∧ r.link.reads = [] ∧ r.link.wbDue = 1 ∧
      r.link.jobs = [j]) := by
  decide +kernel

theorem test_descriptor_read_fails :
    let s := { linked with link := { linked.link with reads := [{ ring := 0, n := 1 }] } }
    (s.link.reads = [{ ring := 0, n := ([[]] : List (List Nat)).length }] ∧ (s.ring 0).err = 0) ∧
    after (exec (.descriptorReadDone 1010000 0 false [[]]) s) (fun r => (r.ring 0).err = 2 ∧ r.link.reads = [] ∧ r.link.wbDue = 1 ∧ r.link.jobs = s.link.jobs) := by
  decide +kernel

theorem test_record_is_written :
    let e : Ev := { code := 0x070, src := 3, status := 0x12 }
    let s := { linked with link := { linked.link with queues := [(0, { lo := 0x20000, cfg := 0x40D, hold := [e], pi := 2 })] } }
    (s.linkActive = true ∧ (s.queue 0).open' = true ∧ (s.queue 0).waiting = [e]) ∧
    after (exec (.eventRecordWrite 1010000 0) s) (fun r => (r.queue 0).pi = 3 ∧ (r.queue 0).hold = [] ∧
      r.hostByte 0x20040 = some 0x70 ∧ r.hostByte 0x20041 = some 0x80 ∧ r.hostByte 0x20044 = some 0x12 ∧ r.hostByte 0x20060 = none) := by
  decide +kernel

theorem test_write_back_and_message :
    let s := { linked with link := { linked.link with wbDue := 1, msixOn := true, msix := [(0, { ctrl := 0 })], queues := [(0, { lo := 0x20000, cfg := 0x40D, unsig := 1 })] } }
    let m := { linked with link := { linked.link with msixOn := true, queues := [(0, { lo := 0x20000, cfg := 0x40D, unsig := 1 })] } }
    (s.linkActive = true ∧ s.link.wbDue ≠ 0 ∧ s.link.wbLast ≠ some s.upperHalf ∧ 0 < (s.queue 0).unsig ∧
      s.msixOpen (s.queue 0).vector = true ∧ m.link.msixOn = true ∧ m.msixOpen (m.queue 0).vector = false) ∧
    after (exec (.doorbellWriteBack 1010000) s) (fun r => r.link.wbDue = 0 ∧ r.link.wbCount = 1 ∧ r.hostByte 0x7800 = some 0 ∧
      r.hostByte 0x7000 = none) ∧
    after (exec (.msiXCoalesceTimeout 1010000 0) s) (fun r => r.link.sent = [0] ∧ (r.queue 0).unsig = 0) ∧
    after (exec (.msiXCoalesceTimeout 1010000 0) m) (fun r => r.link.sent = [] ∧ r.link.pba = 1) := by
  decide +kernel

theorem test_link_resets :
    let w := { linked with link := { linked.link with startWait := true, running := false } }
    (w.draining = false ∧ w.link.startWait = true ∧ linked.link.perst = false ∧ linked.link.held = []) ∧
    after (exec (.drainComplete 1010000) w) (fun r => r.link.running ∧ !r.link.startWait) ∧
    after (exec (.hostLinkReset 1010000 1) linked) (fun r => !r.link.linkUp ∧ r.link.linkLost ∧ r.rail.hostEpoch = 1 ∧
      bitAt r.core.ready.toNat 5 = false) ∧
    after (exec (.functionLevelReset 1010000) linked) (fun r => !r.link.go ∧ r.link.linkUp ∧ r.rail.hostEpoch = 1) := by
  decide +kernel

theorem test_link_up_and_power_states :
    after (exec (.linkUp 1010000) up) (fun r => r.link.linkUp ∧ bitAt r.core.ready.toNat 5 = true) ∧
    after (exec (.d3hotEntry 1010000 true) linked) (fun r => r.link.d3hot ∧ r.link.pmeEn) ∧
    after (exec (.d3hotExit 1010000) { linked with link := { linked.link with d3hot := true } }) (fun r => !r.link.d3hot) ∧
    after (exec (.perstNRelease 1010000) { up with link := { up.link with perst := true, wakeN := false } }) (fun r => !r.link.perst ∧ r.link.wakeN) := by
  decide +kernel

/-! ### Jobs (08) -/

/-- One job in slot 5, its opcode and words. -/
def withJob (s : State) (op : Nat) (words : List Nat) : State :=
  { s with link := { s.link with jobs := [{ slot := 5, w0 := BitVec.ofNat 32 op, words := words }] } }

/-- The job of a slot has ended with a status. -/
def ended (s : State) (slot status : Nat) : Bool := (s.job? slot).any fun j => j.posted && j.status = status

theorem test_nop_and_abort_end :
    let a := withJob up 0x20 [77]
    (((withJob up 0 []).startable 5 0).isSome ∧ (a.startable 5 0x20).isSome ∧
      (a.startable 5 0x20).map (fun j => decide (j.tag ≠ bitsAt (j.word 1) 0 16)) = some true ∧ ∀ v ∈ a.link.jobs, v.tag ≠ 77) ∧
    after (exec (.jobNop 1010000 5) (withJob up 0 [])) (fun r => ended r 5 0) ∧
    after (exec (.abort 1010000 5) a) (fun r => ended r 5 9) := by
  decide +kernel

theorem test_loads_start :
    after (exec (.pointLoad 1010000 5) (withJob up 1 [])) (fun r => (r.job? 5).any (·.started)) ∧
    after (exec (.coefLoad 1010000 5) (withJob up 2 [])) (fun r => (r.job? 5).any (·.started)) ∧
    after (exec (.courseSet 1010000 5) (withJob up 3 [])) (fun r => (r.job? 5).any (·.started)) ∧
    after (exec (.poleLoad 1010000 5) (withJob up 4 [])) (fun r => (r.job? 5).any (·.started)) ∧
    after (exec (.stringSet 1010000 5) (withJob up 0x30 [1])) (fun r => (r.job? 5).any (·.started)) ∧
    after (exec (.ocvLoad 1010000 5) (withJob up 0x30 [3])) (fun r => (r.job? 5).any (·.started)) ∧
    ((withJob up 0x30 [3]).startable 5 0x30).map (fun j => (j.sub, j.read)) = some (3, false) ∧
    ((withJob up 0x30 [1]).startable 5 0x30).map (fun j => (j.sub, j.read)) = some (1, false) ∧ ((withJob up 1 []).startable 5 1).isSome ∧
    ((withJob up 2 []).startable 5 2).isSome ∧ ((withJob up 3 []).startable 5 3).isSome ∧ ((withJob up 4 []).startable 5 4).isSome := by
  decide +kernel

/-- A POLE_LOAD of one entry whose image is being read; the entry's action code is reserved (R48, R60). -/
def poleJob : Job := { slot := 5, w0 := 4, words := [1], started := true }
def poleWaits : State := { linked with link := { linked.link with jobs := [poleJob] } }

theorem test_image_fails :
    (poleWaits.job? 5 = some poleJob ∧ poleWaits.readOpen poleJob = true ∧ poleJob.aborted = false ∧ 1 ≤ poleJob.opcode ∧ poleJob.opcode ≤ 4) ∧
    after (exec (.jobImageReadDone 1010000 5 false []) poleWaits) (fun r => ended r 5 0xC) := by
  decide +kernel

theorem test_image_is_refused :
    let data : List Byte := [0, 0, 0x50, 0, 1, 0, 0, 0]
    (((poleWaits.advance 1010000).onJob 5 fun j => { j with read := true, image := data }).readLoad 4 5 poleJob.word data matches .inl _) ∧ (∀ k ∈ poleWaits.link.jobs, k.isTable = true → k = poleJob) ∧
    after (exec (.jobImageReadDone 1010000 5 true data) poleWaits) (fun r => (r.job? 5).any fun j => j.posted && j.status ≠ 0) := by
  decide +kernel

theorem test_image_is_accepted :
    let data : List Byte := [0, 0, 0, 0, 1, 0, 0, 0]
    let c : Change := .pole (some 5) [{}]
    let busy := { poleWaits with scr := { poleWaits.scr with compiling := true } }
    ((poleWaits.advance 1010000).readLoad 4 5 poleJob.word data = .inr c ∧ poleJob.taken = false ∧ poleWaits.scr.gathered = [] ∧
      ∀ k ∈ poleWaits.link.jobs, k = poleJob) ∧
    after (exec (.jobImageReadDone 1010000 5 true data) poleWaits) (fun r => r.scr.compiling ∧ r.scr.running = [c] ∧ r.scr.gathered = []) ∧
    after (exec (.jobImageReadDone 1010000 5 true data) busy) (fun r => r.scr.compiling ∧ r.scr.running = [] ∧ r.scr.gathered = [c]) := by
  decide +kernel

theorem test_field_jobs_in_halter :
    (halted.halterOn = true ∧ ((withJob halted 8 [7]).startable 5 opReadNow).map (halted.imageNeed ·) = some 0 ∧
      ((withJob halted 9 [7, 1]).startable 5 opWriteTarget).map (halted.imageNeed ·) = some 0 ∧
      ((withJob halted 10 [67, 0]).startable 5 opRawXfer).map (halted.imageNeed ·) = some 0) ∧
    after (exec (.readNow 1010000 5) (withJob halted 8 [7])) (fun r => ended r 5 7) ∧
    after (exec (.writeTarget 1010000 5) (withJob halted 9 [7, 1])) (fun r => ended r 5 7) ∧
    after (exec (.rawXfer 1010000 5) (withJob halted 10 [67, 0])) (fun r => ended r 5 7) := by
  decide +kernel

/-- BKL03 in service, with point 9 of the target at 0x20. -/
def twReady : State := { withTw up { cfg := 0x2003241 } with
  tab := { up.tab with points := [(9, { src := 67, addr := 0x20, cmd := 0x8B, valid := true })] } }

theorem test_field_jobs_queue :
    let ok (s : State) (op : Nat) : Bool := (s.startable 5 op).any fun j =>
      decide (s.imageNeed j = 0) && decide (64 ≤ s.jobPort j) && decide (s.jobPort j < 128) && decide (s.portMode (s.jobPort j) ≠ 0) &&
      !s.portFenced (s.jobPort j) && decide ((s.rules.capWin : Int) ≥ s.rules.au (s.jobSlot j))
    (ok (withJob twReady 8 [9]) opReadNow ∧ ok (withJob twReady 9 [9, 1, 0x55]) opWriteTarget ∧ ok (withJob twReady 10 [67 + 0x4000, 0]) opRawXfer ∧
      ((withJob twReady 8 [9]).startable 5 opReadNow).any (fun j => (twReady.point j.pointIdx).valid) ∧
      ((withJob twReady 9 [9, 1, 0x55]).startable 5 opWriteTarget).any (fun j => (twReady.point j.pointIdx).valid &&
        (twReady.point j.pointIdx).prio != 3 && (twReady.point j.pointIdx).xfer == 0 && bitsAt (j.word 2) 0 8 == 1) ∧
      ((withJob twReady 10 [67 + 0x4000, 0]).startable 5 opRawXfer).any (fun j => rawOk 67 1 j.word)) ∧
    after (exec (.readNow 1010000 5) (withJob twReady 8 [9])) (fun r => (r.portQ 67).jobs = [5]) ∧
    after (exec (.writeTarget 1010000 5) (withJob twReady 9 [9, 1, 0x55])) (fun r => (r.portQ 67).jobs = [5]) ∧
    after (exec (.rawXfer 1010000 5) (withJob twReady 10 [67 + 0x4000, 0])) (fun r => (r.portQ 67).jobs = [5]) := by
  decide +kernel

/-- ABORT of a READ_NOW that waits in its port's queue (R371). -/
theorem test_abort_ends_a_waiting_read :
    let v : Job := { slot := 6, w0 := 0x00420008, words := [9], started := true }
    let a : Job := { slot := 5, w0 := 0x20, words := [0x42] }
    let s := { twReady with link := { twReady.link with jobs := [a, v] }, ports := { twReady.ports with q := [(67, { jobs := [6] })] } }
    (s.startable 5 0x20 = some a ∧ (s.link.jobs.find? fun v => decide (v.slot < 512) && decide (v.slot ≠ 5) &&
        decide (v.tag = bitsAt (a.word 1) 0 16)) = some v ∧ s.job? 6 = some v ∧ v.isWire = true ∧ v.posted = false ∧ v.onWire = false ∧ v.aborted = false ∧
      s.readingImage v = false ∧ v.draining = false ∧ v.aborters = []) ∧
    after (exec (.abort 1010000 5) s) (fun r => ended r 6 8 ∧ ended r 5 0 ∧ (r.portQ 67).jobs = []) := by
  decide +kernel

theorem test_search_jobs :
    let s := withAwl up chain
    ((withJob up 0x10 [3]).chainRefusal 3 = some 0x208 ∧ (withJob s 0x10 [3]).chainRefusal 3 = none ∧
      ((searchAt {}).awl 3).life = .search ∧ ((withJob s 0x11 [3]).startable 5 opPortReinit).isSome ∧
      ((withJob (searchAt {}) 0x10 [3]).startable 5 opChainSearch).isSome ∧ (withJob (searchAt {}) 0x10 [3]).chainRefusal 3 = none) ∧
    after (exec (.chainSearch 1010000 5) (withJob up 0x10 [3])) (fun r => ended r 5 0x208) ∧
    after (exec (.chainSearch 1010000 5) (withJob (searchAt {}) 0x10 [3])) (fun r => (r.awl 3).searchJobs = [5] ∧ (r.job? 5).any (·.started)) ∧
    after (exec (.portReinit 1010000 5) (withJob s 0x11 [3])) (fun r => (r.awl 3).life = .search) := by
  decide +kernel

theorem test_fence_jobs :
    let s := withAwl up chain
    let f := withAwl up { chain with life := .fenced, fenceCause := 2 }
    (s.tally.going = none ∧ s.portMode 3 ≠ 0 ∧ s.portFenced 3 = false ∧ f.portFenced 3 = true ∧ f.watching 3 = false ∧ f.unfencing 3 = false) ∧
    after (exec (.portFence 1010000 5) (withJob s 0x12 [3])) (fun r => (r.awl 3).life = .fenced ∧ (r.awl 3).fenceCause = 4) ∧
    after (exec (.portFence 1010000 5) (withJob f 0x12 [3])) (fun r => (r.awl 3).fenceCause = 4 ∧ ended r 5 0) ∧
    after (exec (.portUnfence 1010000 5) (withJob f 0x13 [3])) (fun r => (r.awl 3).watch ∧ (r.awl 3).unfenceJobs = [5]) ∧
    after (exec (.portUnfence 1010000 5) (withJob s 0x13 [3])) (fun r => ended r 5 0) := by
  decide +kernel

theorem test_trace_jobs :
    let fr (s : State) : State := { s with tack := { s.tack with trace := { state := 2 } } }
    (bitsAt up.tack.trace.ctrl.toNat 0 16 ≠ 0 ∧ up.tack.trace.state = 0) ∧
    after (exec (.traceFreeze 1010000 5) (fr (withJob up 0x18 []))) (fun r => ended r 5 0) ∧
    after (exec (.traceFreeze 1010000 5) (withJob up 0x18 [])) (fun r => r.tack.trace.state = 1 ∧ r.tack.trace.cause = 3 ∧
      r.tack.trace.freezeJobs = [5]) ∧
    after (exec (.traceCopy 1010000 5) (withJob up 0x19 [])) (fun r => ended r 5 0x400) ∧
    after (exec (.traceCopy 1010000 5) (fr (withJob up 0x19 []))) (fun r => r.tack.trace.copying ∧ r.tack.trace.copySlots = [5]) := by
  decide +kernel

theorem test_trace_copy_ends :
    let s := { linked with
      link := { linked.link with jobs := [{ slot := 5, w0 := 0x19, words := [0, 0x50000, 0, 0x1000], started := true }] }
      tack := { linked.tack with trace := { state := 2, copySlots := [5], entries := [(0, 64)], mem := [(0, 0x80)] } } }
    (s.tack.trace.copySlots = [5] ∧ (s.job? 5).any (fun j => !j.aborted) ∧ s.linkActive = true) ∧
    after (exec (.traceCopyDone 1010000) s) (fun r => !r.tack.trace.copying ∧ ended r 5 0 ∧ r.hostByte 0x50000 = some 0x80 ∧
      r.hostByte 0x50040 = none) := by
  decide +kernel

theorem test_stitch_runs :
    let s := withJob linked 0x1A [7, 0x50000, 0, 9, 0, 0, 0]
    let bad := withJob linked 0x1A [2, 0x50000, 0, 9]
    ((s.startable 5 0x1A).any (fun j => (s.stitchFault j).isNone && (s.stitchBefore j).isEmpty) ∧ s.freeUnit = some 4 ∧
      (bad.startable 5 0x1A).any (fun j => bad.stitchFault j = some 0x402)) ∧
    after (exec (.stitchRun 1010000 5) s) (fun r => (r.stitchUnit 4).map (·.1) = some 5) ∧
    after (exec (.stitchRun 1010000 5) bad) (fun r => ended r 5 0x402 ∧ r.stitch.runs = 1) := by
  decide +kernel

theorem test_stitch_run_aborted :
    let s := { linked with
      link := { linked.link with jobs := [{ slot := 5, w0 := 0x1A, words := [7, 0x50000, 0, 9], started := true, aborted := true }] }
      stitch := { units := [(4, some (5, {}))] } }
    (s.stitchUnit 4 = some (5, {}) ∧ s.stitch.waiting = []) ∧
    after (exec (.stitchRunComplete 1010000 4 true []) s) (fun r => r.stitchUnit 4 = none ∧ r.stitch.runs = 1) := by
  decide +kernel

/-- CALC, CHECK and WRITE of the nine bytes "123456789" under profile 7 (R239 to R243). -/
theorem test_stitch_run_ends :
    let p := linked.profile 7
    let nine : List Byte := (List.range 9).map fun k => BitVec.ofNat 8 (0x31 + k)
    let chk := p.field (crcBytes p.crc (foldBytes (bitsAt p.cfg.toNat 8 3) 0 ++ nine))
    let s (op len : Nat) : State := { linked with
      link := { linked.link with jobs := [{ slot := 5, w0 := 0x1A, words := [7 + 16 * op, 0x50000, 0, len, 0, 0x60000, 0], started := true }] }
      stitch := { units := [(4, some (5, p))] } }
    (((s 0 9).job? 5).any (fun j => j.stitchOp = 0 ∧ !j.fromBar2 ∧ (s 0 9).readOpen j ∧ j.word 5 = 0 ∧ j.word 6 = 0x60000) ∧ ((s 1 9).job? 5).any (·.stitchOp = 1) ∧
      ((s 2 9).job? 5).any (·.stitchOp = 2) ∧ (s 2 9).linkActive = true) ∧
    after (exec (.stitchRunComplete 1010000 4 true nine) (s 0 9)) (fun r => r.stitchUnit 4 = none ∧ ended r 5 0 ∧ r.stitch.runs = 1 ∧
      r.link.mem = []) ∧
    after (exec (.stitchRunComplete 1010000 4 true (nine ++ chk)) (s 1 (9 + chk.length))) (fun r => ended r 5 0) ∧
    after (exec (.stitchRunComplete 1010000 4 true (nine ++ chk.map (· + 1))) (s 1 (9 + chk.length))) (fun r => ended r 5 0x401) ∧
    after (exec (.stitchRunComplete 1010000 4 true nine) (s 2 9)) (fun r => ended r 5 0 ∧ r.link.mem = putBytes [] 0x60000 chk) := by
  decide +kernel

theorem test_pushes_start :
    let with' (s : State) (p : Push) : State := { withJob s 0x28 [] with aeloon := { s.aeloon with pushes := [p] } }
    (pushAllowed 0x18 = false ∧ pushAllowed 2 = true ∧ up.aeloon.state ≠ 4 ∧ manager.aeloon.state = 4 ∧
      (([1].any fun n => !(manager.node n).joined) = false)) ∧
    after (exec (.workerPush 1010000 5) (with' up { slot := 5, inner := 0x18, nodes := [1] })) (fun r => ended r 5 0x502) ∧
    after (exec (.workerPush 1010000 5) (with' up { slot := 5, inner := 2, nodes := [1] })) (fun r => ended r 5 0x503) ∧
    after (exec (.workerPush 1010000 5) (with' manager { slot := 5, inner := 2, nodes := [1] })) (fun r => r.aeloon.pushNum = 1 ∧ (r.job? 5).any (·.started)) := by
  decide +kernel

theorem test_firmware_jobs_wait :
    let s (op : Nat) : State := { withJob up op [] with fw := { running := some 4 } }
    ((s 0x38).fw.running.isSome ∧ (s 0x38).ports.shipResult = none ∧ ((s 0x39).startable 5 0x39).isSome) ∧
    after (exec (.fwStage 1010000 5) (s 0x38)) (fun r => r.fw.waiting = [5] ∧ r.fw.running = some 4) ∧
    after (exec (.fwCommit 1010000 5) (s 0x39)) (fun r => r.fw.waiting = [5] ∧ r.fw.running = some 4) := by
  decide +kernel

/-- With slot 1 running, slot 0 is staged; as delivered it is valid, and its commit follows slot 1's number (R585, R586). -/
theorem test_firmware_jobs_run :
    let s (op : Nat) (ws : List Nat) : State := { withJob up op ws with
      fw := { image := true, begun := true }, mram := { fw := [(0x40000, some 5), (0x40001, some 0), (0x40002, some 0), (0x40003, some 0)] } }
    let begins := s 0x38 [1, 0, 0, 8, 4]
    let bad := s 0x38 [1, 0, 0, 4, 4]
    let c := s 0x39 [1]
    ((begins.startable 5 0x38).any (fun j => begins.stageCheck j = none) ∧ (bad.startable 5 0x38).any (fun j => bad.stageCheck j = some 0x700) ∧
      (c.startable 5 0x39).any (fun j => bitAt (j.word 1) 0) ∧ c.imageFault c.stageSlot = none ∧ bitAt c.sill.c.toNat 10 = false ∧
      c.fw.begun = true ∧ c.warning = false ∧ c.fw.running = none ∧ c.fw.waiting = []) ∧
    after (exec (.fwStage 1010000 5) begins) (fun r => r.fw.running = some 5 ∧ r.fw.waiting = [] ∧ (r.job? 5).any (·.started)) ∧
    after (exec (.fwStage 1010000 5) bad) (fun r => ended r 5 0x700) ∧
    after (exec (.fwCommit 1010000 5) c) (fun r => ended r 5 0 ∧ !r.fw.begun ∧ r.commitSeq 0 = 6 ∧ r.halter.rung = some (false, 3)) := by
  decide +kernel

/-! ### Tally (11) -/

/-- String 3 configured, with one cell and one ship entry to point 9 on BKL03. -/
def string3 : BatString := { cfg := { course := 2, cells := [(7, none)], current := 8, ship := [(9, [0x55])] } }
def tallied (s : State) : State := { s with tally := { s.tally with strings := [(3, some string3)] } }

theorem test_tally_commands_wait :
    let s (sub : Nat) : State := withJob (tallied up) 0x30 [sub + 256 * 3, 0x42200000, 0x3F800000]
    (((s 2).startable 5 0x30).any (fun j => j.sub = 2 ∧ (s 2).stringNext j.str) ∧ ((s 5).startable 5 0x30).any (fun j => j.sub = 5 ∧
      ratOf32 (j.word 2) = some 40 ∧ ratOf32 (j.word 3) = some 1) ∧ (s 7).ledgerDown = false ∧ (s 7).warning = false ∧
      (s 7).stringConfigured 3 = true ∧ ((s 7).tally.writes.any fun x => decide (x.str = 3)) = false) ∧
    after (exec (.stringClear 1010000 5) (s 2)) (fun r => r.tally.cmds = [.clear 5 3]) ∧
    after (exec (.learnReset 1010000 5) (s 6)) (fun r => r.tally.cmds = [.learnReset 5 3]) ∧
    after (exec (.ledgerSync 1010000 5) (s 7)) (fun r => r.tally.writes.map (fun w => (w.str, w.cause)) = [(3, 5)] ∧ ended r 5 0) ∧
    after (exec (.socSet 1010000 5) (s 5)) (fun r => r.tally.cmds = [.soc 5 3 40 1]) := by
  decide +kernel

/-- A string record of one cell on point 7 in course 2, which is enabled; OCV entries 0 and 1 ascend (R467). -/
def record : List Byte := [2, 1, 7, 0] ++ leBytes 4 0 ++ leBytes 4 0x42200000 ++ leBytes 4 0x3F800000 ++ leBytes 4 0x42200000 ++ leBytes 4 0 ++
  [0, 0, 2, 0] ++ leBytes 8 0 ++ ([0xFF, 0xFF, 0, 0, 0, 0, 0, 0] ++ [0xFF, 0xFF, 0, 0, 0, 0, 0, 0] ++ [0xFF, 0xFF, 0, 0, 0, 0, 0, 0]) ++
  leBytes 4 0 ++ [7, 0, 0xFF, 0xFF] ++ List.replicate 252 0xFF

theorem test_string_images :
    let s (sub : Nat) (ws : List Nat) (bs : List Byte) : State := { up with
      link := { up.link with jobs := [{ slot := 5, w0 := 0x30, words := [sub + 256 * 3] ++ ws, read := true, image := bs }] }
      tab := { up.tab with points := [(7, { src := 3, valid := true, courses := 4 })] }
      tack := { up.tack with courses := [(2, { cfg := { w0 := 1 } })] }
      tally := { up.tally with ocv := [(0, 100), (1, 200)] } }
    let good := s 1 [] record
    let bad := s 1 [] (record.set 1 0)
    let o := s 3 [0, 0, 2 * 65536] (leBytes 4 0x27100064 ++ leBytes 4 0x000000C8)
    ((good.startable 5 0x30).any (fun j => j.sub = 1 ∧ j.read ∧ j.image = record) ∧ bad.parseString (padTo 320 (record.set 1 0)) = .inl 1 ∧
      o.stringDefsNext = [] ∧ (o.startable 5 0x30).any (fun j => j.sub = 3 ∧ (wordsOf j.image).take (bitsAt (j.word 4) 16 13) = [0x27100064, 0xC8]) ∧
      bitsAt 0x27100064 16 16 ≤ 10000) ∧
    Sum.elim (fun _ => false) (fun d => after (exec (.stringSet 1010000 5) good) fun r => r.tally.cmds = [.set 5 3 d])
      (good.parseString (padTo 320 record)) = true ∧
    after (exec (.stringSet 1010000 5) bad) (fun r => ended r 5 0x600) ∧
    after (exec (.ocvLoad 1010000 5) o) (fun r => r.tally.cmds = [.ocv 5 0 [0x27100064, 0xC8]]) := by
  decide +kernel

theorem test_tally_commands_end :
    let s (sub : Nat) : State := withJob (tallied up) 0x30 [sub + 256 * 3]
    let n := withJob up 0x30 [2 + 256 * 3]
    ((n.startable 5 0x30).any (fun j => j.sub = 2 ∧ n.stringNext j.str = false) ∧ ((s 4).string 3).isSome) ∧
    after (exec (.stringClear 1010000 5) n) (fun r => ended r 5 0x601) ∧
    after (exec (.tallyRead 1010000 5) (s 4)) (fun r => ended r 5 0) := by
  decide +kernel

theorem test_evaluation_and_hourly :
    let s := tallied up
    (s.string 3 = some string3 ∧ s.ledgerDown = false ∧ s.warning = false ∧ (s.tally.writes.any fun x => decide (x.str = 3)) = false) ∧
    after (exec (.tallyEvalTimer 1010000) up) (fun r => r.tally = up.tally) ∧
    string3.lastCommit + 3600 * 256000000 ≤ max s.now 921600000000 ∧
    after (exec (.ledgerHourly 921600000000 3) s) (fun r => r.tally.writes.map (fun w => (w.str, w.cause)) = [(3, 6)]) := by
  decide +kernel

theorem test_ledger_commits :
    let w : LedgerWrite := { str := 3, slot := 1, bytes := [1, 2, 3] }
    let s := { tallied up with tally := { (tallied up).tally with writes := [w] } }
    ((s.tally.writes.find? fun x => decide (x.str = 3)) = some w ∧ (s.tally.due.find? fun x => decide (x.1 = 3)) = none) ∧
    after (exec (.ledgerCommitDone 1010000 3) s) (fun r => r.ledgerSlot 3 1 = [1, 2, 3] ∧ r.tally.writes = []) ∧
    after (exec (.ledgerScan 1010000) { up with core := { up.core with ready := 0x7F } }) (fun r => bitAt r.core.ready.toNat 7 = true) := by
  decide +kernel

/-- A word waits on channel 8. -/
def said (s : State) (w : Word) : State := { s with rail := { s.rail with ch := [(8, { inb := { word := w, full := true } })] } }

theorem test_ship_arms :
    let s := said (tallied up) 0x53031234
    (s.word8 = some 0x53031234 ∧ s.tally.going = none ∧ s.gate.recovery = none ∧ (s.chan 8).formal = true ∧
      s.shipString 0x53031234 = some (3, string3) ∧ string3.currentHigh = false ∧ 0x53031234 / 2 ^ 24 = 0x53) ∧
    after (exec (.shipArm 1010000) s) (fun r => r.tally.armed = some (3, 0x1234, 1010000)) := by
  decide +kernel

theorem test_ship_goes :
    let s (code : Nat) : State := { said (tallied twReady) 0x54031234 with
      tally := { (tallied twReady).tally with armed := some (3, code, 1000000) } }
    ((s 0x1234).word8 = some 0x54031234 ∧ (s 0x1234).ports.shipResult = none ∧ 1010000 ≤ 1000000 + 2560000000 ∧
      (s 0x1234).string 3 = some string3 ∧ ((s 0x1234).point 9).valid = true ∧ ((s 0x1234).point 9).src = 67 ∧
      (s 0x1234).portMode 67 ≠ 0 ∧ (s 0x1234).portFenced 67 = false ∧ (s 0x1234).halterOn = false ∧
      (s 0x1234).shipString 0x54031234 = some (3, string3)) ∧
    after (exec (.shipGo 1010000) (s 0x1234)) (fun r => r.tally.going = some (3, 0) ∧ r.tally.armed = none ∧ (r.portQ 67).ship.length = 1) ∧
    after (exec (.shipGo 1010000) (s 0x4321)) (fun r => r.tally.going = none ∧ r.tally.armed = none) := by
  decide +kernel

/-! ### The Hitch rail (09) -/

def withChan (c : Nat) (x : Channel) : State := { up with rail := { up.rail with ch := [(c, x)], hostEpoch := 4, fgEpoch := 9 } }

theorem test_host_posts :
    after (exec (.hrInWrite 1010000 2 0xABCD) (withChan 2 { ackValid := true })) (fun r =>
      (r.chan 2).inb = { word := 0xABCD, full := true, epoch := 4, postedAt := 1010000 } ∧ !(r.chan 2).ackValid) ∧
    after (exec (.hrInWrite 1010000 2 0xABCD) (withChan 2 { inb := { word := 1, full := true } })) (fun r =>
      (r.chan 2).inb.word = 1 ∧ (r.chan 2).inReject ∧ r.rail.cnt0 = 1) := by
  decide +kernel

theorem test_host_reads :
    let f : Channel := { outb := { word := 7, full := true } }
    after (exec (.hrOutRead 1010000 2) (withChan 2 f)) (fun r => r.lastRead = 7 ∧ (r.chan 2).outb.full) ∧
    after (exec (.hrOutRead 1010000 2) (withChan 2 { f with formal := false })) (fun r => r.lastRead = 7 ∧ !(r.chan 2).outb.full) ∧
    after (exec (.hrOutRead 1010000 2) (withChan 2 {})) (fun r => r.lastRead = 0) := by
  decide +kernel

theorem test_host_acknowledges :
    let f : Channel := { outb := { word := 7, full := true } }
    (bitAt (1 : Word).toNat 2 = false ∧ bitAt (0 : Word).toNat 0 ≠ f.formal) ∧
    after (exec (.hrAckOutWrite 1010000 2 3) (withChan 2 f)) (fun r => !(r.chan 2).outb.full ∧ (r.chan 2).fwAck = some 3) ∧
    after (exec (.hrAckOutWrite 1010000 0 3) { withChan 0 f with core := { up.core with ready := 0xFB, report := some 2 } })
      (fun r => !(r.chan 0).outb.full ∧ (r.chan 0).fwAck = some 3) ∧
    after (exec (.hrAckOutWrite 1010000 2 3) (withChan 2 {})) (fun r => (r.chan 2).ackReject ∧ r.rail.cnt1 = 1) ∧
    after (exec (.hrModeWrite 1010000 2 0) (withChan 2 {})) (fun r => !(r.chan 2).formal ∧ !(r.chan 2).modeRefused) ∧
    after (exec (.hrModeWrite 1010000 2 0) (withChan 2 f)) (fun r => (r.chan 2).formal ∧ (r.chan 2).modeRefused) := by
  decide +kernel

/-- The start-up report goes on from word to word, and ends with the eighth (R533). -/
theorem test_report_goes_on :
    let s (k : Nat) : State := { withChan 0 { outb := { word := 7, full := true } } with
      core := { up.core with report := some k, reportOut := true, bootId := 5 }, mram := { unreported := 3 } }
    (bitAt (s 0).core.ready.toNat 2 = true ∧ ((s 0).chan 0).formal = true ∧ ((s 0).chan 0).outb.orphan = false) ∧
    after (exec (.hrAckOutWrite 1010000 0 0) (s 3)) (fun r => (r.chan 0).outb.full ∧ (r.chan 0).outb.word = 0x05000003 ∧
      r.core.report = some 4) ∧
    after (exec (.hrAckOutWrite 1010000 0 0) (s 7)) (fun r => !(r.chan 0).outb.full ∧ r.core.report = some 8 ∧ r.mram.unreported = 0) ∧
    after (exec (.hostBump 1010000) (s 7)) (fun r => (r.chan 0).outb.full ∧ (r.chan 0).outb.word = 0x01000005 ∧ r.core.report = some 0) := by
  decide +kernel

theorem test_host_bump :
    let x : Channel := { inb := { word := 1, full := true }, outb := { word := 7, full := true }, formal := false }
    after (exec (.hostBump 1010000) (withChan 2 x)) (fun r => r.rail.hostEpoch = 5 ∧ !(r.chan 2).outb.full ∧ (r.chan 2).formal ∧
      (r.chan 2).inb.orphan ∧ (r.chan 2).inb.full) := by
  decide +kernel

theorem test_firmware_side :
    let x : Channel := { inb := { word := 1, full := true } }
    after (exec (.firmwareInRead 1010000 2) (withChan 2 x)) (fun r => (r.chan 2).inb.taken ∧ (r.chan 2).inb.full) ∧
    after (exec (.firmwareInRead 1010000 2) (withChan 2 { x with formal := false })) (fun r => !(r.chan 2).inb.full) ∧
    after (exec (.firmwareAckIn 1010000 2 0) (withChan 2 x)) (fun r => !(r.chan 2).inb.full ∧ (r.chan 2).ackCode = 2 ∧ (r.chan 2).ackValid ∧
      (r.chan 2).ackEpoch = 9) ∧
    after (exec (.firmwarePostOut 1010000 2 0x55) (withChan 2 {})) (fun r => (r.chan 2).outb.word = 0x55 ∧ (r.chan 2).outb.full ∧
      (r.chan 2).outb.epoch = 9) ∧
    after (exec (.crossTimeout 1010000 2) (withChan 2 { x with outb := { full := true } })) (fun r => (r.chan 2).crossed ∧ r.rail.cnt2 = 1) := by
  decide +kernel

theorem test_link_mailbox :
    let b : LinkBox := { inWord := some 6, lastPost := some 2 }
    let s (b : LinkBox) : State := { manager with aeloon := { manager.aeloon with boxes := [(5, b)] } }
    ((s b).box 5 = b ∧ b.formal = true ∧ b.inOrphan = false ∧ (s {}).linked 5 = true) ∧
    after (exec (.firmwareInRead 1010000 21) (s b)) (fun r => (r.box 5).inTaken ∧ (r.box 5).inWord = some 6) ∧
    after (exec (.firmwareInRead 1010000 21) (s { b with formal := false })) (fun r => (r.box 5).inWord = none) ∧
    after (exec (.firmwareAckIn 1010000 21 1) (s b)) (fun r => (r.box 5).inWord = none ∧ r.aeloon.queue = [(s b).mboxChunk 5 1 2 1]) ∧
    after (exec (.firmwarePostOut 1010000 21 0x55) (s {})) (fun r => (r.box 5).outWord = some 0x55 ∧ (r.box 5).outNum = 1 ∧
      r.aeloon.queue = [(s b).mboxChunk 5 0 1 0x55]) ∧
    after (exec (.crossTimeout 1010000 21) (s { b with outWord := some 3 })) (fun r => (r.box 5).crossed) := by
  decide +kernel

/-! ### The Aeloon cascade (10) -/

theorem test_superframes :
    let off := { manager with aeloon := { manager.aeloon with state := 0, ctrlReg := 2 } }
    (up.core.role = .standalone ∧ bitAt off.aeloon.ctrlReg.toNat 0 = false ∧ bitAt manager.aeloon.ctrlReg.toNat 0 = true ∧
      manager.alUnits = true ∧ manager.halterOn = false ∧ manager.wheel.owed = none) ∧
    after (exec (.superframeStart 1010000) { up with aeloon := { ctrlReg := 1 } }) (fun r => r.aeloon.ctrl = 1) ∧
    after (exec (.superframeStart 1010000) off) (fun r => r.aeloon.ctrl = 2 ∧ r.aeloon.state = 0) ∧
    after (exec (.superframeStart 1010000) manager) (fun r => r.aeloon.state = 4 ∧ r.aeloon.sfc = 1) := by
  decide +kernel

theorem test_downlink_goes_out :
    (manager.alRuns = true ∧ manager.aeloon.ackDue = [] ∧ manager.aeloon.queue = [] ∧ manager.aeloon.pushes = []) ∧
    after (exec (.managerDownlinkTransmit 1010000) manager) (fun r => r.aeloon.ackDue = [1] ∧ r.aeloon.kept = []) := by
  decide +kernel

/-- A worker that listens. -/
def listener : State := { worker with aeloon := { worker.aeloon with state := 1, units := 0, gen := 0 } }

theorem test_worker_listens :
    (listener.workerOn = true ∧ listener.aeloon.joinSlots = none ∧ listener.aeloon.ctrlReg = listener.aeloon.ctrl ∧
      listener.aeloon.outstanding = false ∧ listener.wheel.state = .free ∧ listener.wheel.alp.acqEdges.length < 3) ∧
    after (exec (.beaconReceived 1010000 [] false 1005000) listener) (fun r => r.aeloon.lost = 1 ∧ r.aeloon.units = 0) ∧
    after (exec (.alpMark 1010000 1005000 1) listener) (fun r => r.aeloon.lastMark = some 1005000 ∧ r.aeloon.alpOk) ∧
    after (exec (.beaconLoss 1010000) listener) (fun r => r.aeloon.lost = 0 ∧ !r.aeloon.alpOk ∧ r.aeloon.state = 1) := by
  decide +kernel

/-- A beacon of superframe 77 with its join window open, which gives node 1 six units (R431, R436). -/
theorem test_worker_takes_beacon :
    let payload : List Byte := leBytes 4 77 ++ List.replicate 14 0 ++ [8, 0, 0, 0, 0, 0, 0, 6] ++ List.replicate 30 0
    let f := frameBytes 0 0 0 payload 0 0
    (f.length = 64 ∧ frameClass f false 0 0 0 0 = 0 ∧ framePayload f = payload) ∧
    after (exec (.beaconReceived 1010000 f false 1005000) { listener with aeloon := { listener.aeloon with lost := 3 } }) (fun r =>
      r.aeloon.lost = 0 ∧ r.aeloon.sfc = 77 ∧ r.aeloon.joinOpen ∧ r.aeloon.units = 6) ∧
    after (exec (.beaconLoss 1010000) worker) (fun r => r.aeloon.state = 1 ∧ r.aeloon.units = 0 ∧ bitAt r.core.ready.toNat 6 = false) := by
  decide +kernel

theorem test_worker_hears_downlink :
    let f := frameBytes 0 2 0 (padPayload 32 []) 0 0
    (frameClass f false 0 2 0 (listener.aeloon.sfc.toNat % 4096) = 0 ∧ chunksOf f = []) ∧
    after (exec (.downlinkFrameReceived 1010000 f false) listener) (fun r => r.aeloon.gotDown) := by
  decide +kernel

theorem test_worker_speaks :
    let j := { listener with aeloon := { listener.aeloon with joinOpen := true } }
    (worker.workerOn = true ∧ worker.halterOn = false ∧ worker.aeloon.state = 4 ∧ worker.aeloon.units ≠ 0 ∧ j.aeloon.state = 1 ∧ j.aeloon.joinOpen = true ∧
      (worker.aeloon.staged.any fun x => decide (x.num = 4) && x.commit.isNone) = false) ∧
    after (exec (.workerSlotTransmit 1010000) worker) (fun r => r.aeloon.outstanding) ∧
    after (exec (.pushStageExpiry 1010000 4) worker) (fun r => r.aeloon = worker.aeloon) := by
  decide +kernel

theorem test_stage_expires :
    let x : Staged := { num := 4, inner := 2, taken := true, waits := true, change := some .plain }
    let s := { worker with aeloon := { worker.aeloon with staged := [x] } }
    (s.aeloon.staged = [x] ∧ x.commit = none ∧ x.waits = true ∧ x.at' + 8000 * superframeTicks ≤ max s.now 256000000) ∧
    after (exec (.pushStageExpiry 256000000 4) s) (fun r => r.aeloon.staged = [x.settled]) := by
  decide +kernel

theorem test_manager_hears :
    let m := { manager with aeloon := { manager.aeloon with nodes := [(1, { joined := true, units := 4, gen := 1 })] } }
    ((m.node 1).units ≠ 0 ∧ (m.node 1).slotted = true ∧ frameClass [] false 1 2 1 (4096 * (m.node 1).gen.toNat + m.aeloon.sfc.toNat % 4096) = 2 ∧
      (m.node 1).granted = none ∧ (m.node 1).missRun < 2) ∧
    after (exec (.slotFrameReceived 1010000 1 [] false 0) m) (fun r => tget 0 r.aeloon.ctr (32 * 1 + 2) = 1) ∧
    after (exec (.slotMissed 1010000 1) m) (fun r => (r.node 1).missRun = 1 ∧ (r.node 1).joined) := by
  decide +kernel

/-- A frame of node 1 that passes, at a distance of 160 sixteenths for 2d. -/
theorem test_manager_takes_slot_frame :
    let g : Nat := 4096 * (manager.node 1).gen.toNat + manager.aeloon.sfc.toNat % 4096
    let f := frameBytes 1 2 0 (padPayload 32 []) 1 g
    ((manager.node 1).units ≠ 0 ∧ (manager.node 1).slotted = true ∧ frameClass f false 1 2 1 g = 0 ∧ chunksOf f = []) ∧
    after (exec (.slotFrameReceived 1010000 1 f false 160) manager) (fun r => (r.node 1).joined ∧ (r.node 1).heard ∧ (r.node 1).missRun = 0 ∧
      (r.node 1).granted = none ∧ (r.node 1).d = 80) := by
  decide +kernel

theorem test_manager_grants :
    let f := frameBytes 2 1 0 ([2, 0, 0, 0] ++ leBytes 4 0x99) 2 0
    (bitAt manager.aeloon.ctrl.toNat 1 = true ∧ leAt (framePayload f) 0 1 = 2 ∧ frameClass f false 2 1 2 0 = 0 ∧ (manager.node 2).joined = false) ∧
    after (exec (.joinFrameReceived 1010000 f false) manager) (fun r => (r.node 2).granted = some 3 ∧ (r.node 2).gen = 1 ∧ (r.node 2).nonce = 0x99) := by
  decide +kernel

/-! ### Cinch (12) -/

def entry (st : Entry) : State := { up with cinch := { up.cinch with st := st } }

theorem test_cinch_resets :
    after (exec (.cinchReset 1010000) up) (fun r => !r.cinch.up ∧ !r.core.up ∧ r.power.railsOff ∧ r.core.ready = 0x100 ∧ r.cinch.st = .unseated) ∧
    after (exec (.cinchResetExit 1010000 500000) { up with cinch := { up.cinch with up := false } }) (fun r => r.cinch.up ∧ r.cinch.dt1 = 0 ∧ r.cinch.dt2 = 25) := by
  decide +kernel

theorem test_supply_readiness :
    after (exec (.cinchReady 1010000) { State.reset with power := { railsOff := true } }) (fun r => bitAt r.core.ready.toNat 0 = true ∧ !r.power.railsOff) ∧
    after (exec (.hkRegulationLoss 1010000) up) (fun r => bitAt r.core.ready.toNat 0 = false) := by
  decide +kernel

theorem test_seating :
    after (exec (.seatAssert 1010000) (entry .unseated)) (fun r => r.cinch.st = .seating ∧ r.cinch.seatLow) ∧
    after (exec (.seatDebounceExpiry 12799999) { up with cinch := { st := .seating, seatLow := true } }) (fun r => r.cinch.st = .seating) ∧
    after (exec (.seatDebounceExpiry 12800000) { up with cinch := { st := .seating, seatLow := true } }) (fun r => r.cinch.st = .wait) ∧
    after (exec (.seatRemoval 1010000) { up with cinch := { st := .on, seatLow := true, flt := true } }) (fun r => r.cinch.st = .unseated ∧ !r.cinch.flt) := by
  decide +kernel

theorem test_vin_stops_entry :
    let s := entry .on
    (s.cinch.st.drives = true ∧ (s.noteVin 1000000).vinStops = true) ∧
    after (exec (.vinOutOfRange 1010000 1000000) s) (fun r => r.cinch.st = .wait ∧ r.cinch.vin = 1000000) := by
  decide +kernel

theorem test_precharge :
    ((((entry .wait).advance 1010000).noteVin 48000000).onCinch fun c => { c with vout := 0 }).why = 0 ∧
    47900000 ≤ 47900000 + (entry .precharge).pchDv ∧ 0 < (entry .precharge).pchDvdt ∧
    after (exec (.prechargeStart 1010000 48000000 0) (entry .wait)) (fun r => r.cinch.st = .precharge ∧ r.cinch.pch ∧
      r.cinch.pchStart = some 1010000 ∧ r.cinch.pchRun = 0) ∧
    after (exec (.prechargeStart 1010000 48000000 0) { up with cinch := { st := .wait, pchEnergy := 7, pchTicks := 9 } }) (fun r =>
      r.cinch.st = .precharge ∧ r.cinch.pchEnergy = 7 ∧ r.cinch.pchTicks = 9) ∧
    after (exec (.prechargeDone 1010000 47900000 47900000 0) { up with cinch := { st := .precharge, pchStart := some 1000000, pchRun := 7 } })
      (fun r => r.cinch.st = .ramp ∧ r.cinch.vout = 47900000 ∧ r.cinch.pchEnergy = 7 ∧ r.cinch.pchTicks = 10000) := by
  decide +kernel

theorem test_beyond_ratings : exec (.vinOutOfRange 1010000 110000001) up = .fault .beyondRatings := by rfl

theorem test_power_good :
    0 < (entry .on).vdsPg ∧
    after (exec (.rampComplete 1010000) (entry .ramp)) (fun r => r.cinch.st = .on) ∧
    after (exec (.pgAssert 1010000 0) (entry .on)) (fun r => r.cinch.pg ∧ !r.cinch.pch) ∧
    after (exec (.pgLate 25600000) (entry .on)) (fun r => r.cinch.pgLate) ∧
    after (exec (.pgDeassert 1010000) { up with cinch := { st := .on, pg := true } }) (fun r => !r.cinch.pg) := by
  decide +kernel

theorem test_faults :
    let pre := { up with cinch := { st := .precharge, pchRun := 100000 } }
    (pre.pchEmax < pre.cinch.pchRun ∧ (entry .precharge).cinch.pchRun ≤ (entry .precharge).pchEmax ∧ (entry .on).fastOver 1000000 = true ∧
      (entry .on).cinch.st.drives = true) ∧
    after (exec (.pchEnergy 1010000) pre) (fun r => r.cinch.fault = 4 ∧ r.cinch.faultState = 3 ∧ r.cinch.consec = 1 ∧ r.cinch.flt) ∧
    after (exec (.pchTime 2560000) { up with cinch := { st := .precharge, pchStart := some 0 } }) (fun r => r.cinch.fault = 5) ∧
    after (exec (.gateFail 5120000) (entry .ramp)) (fun r => r.cinch.fault = 6 ∧ r.cinch.st = .lockout) ∧
    after (exec (.fastTrip 1010000 1000000) (entry .on)) (fun r => r.cinch.fault = 2 ∧ r.cinch.fastTrip = 1) := by
  decide +kernel

/-- FAST_TRIP in the microsecond in which removal ended ON (R520). -/
theorem test_fault_beside_removal :
    let s := { up with cinch := { quit := some (1010000, .on) } }
    (s.cinch.st = .unseated ∧ 1010000 / us = max s.now 1010000 / us ∧ s.fastOver 1000000 = true) ∧
    after (exec (.fastTrip 1010000 1000000) s) (fun r => r.cinch.st = .unseated ∧ r.cinch.fault = 2 ∧ r.cinch.faultState = BitVec.ofNat 4 Entry.on.code) := by
  decide +kernel

theorem test_thermal_faults :
    let hot := { up with cinch := { st := .on, dt1 := 500 } }
    ((hot.tjTrip : Rat) ≤ hot.tModel ∧ hot.fastOver hot.cinch.sense = false ∧ (entry .faultWait).cinch.st.drives = false ∧
      9 * 48000000 ≤ 10 * 47000000) ∧
    after (exec (.overload 1010000) hot) (fun r => r.cinch.fault = 1) ∧
    after (exec (.fetShort 128000000 48000000 47000000) (entry .wait)) (fun r => r.cinch.fault = 7 ∧ r.cinch.st = .lockout) := by
  decide +kernel

theorem test_limit :
    (entry .on).limitNow ≤ 1000000 ∧
    after (exec (.limitEnter 1010000 1000000) (entry .on)) (fun r => r.cinch.st = .limit ∧ r.cinch.back = .on ∧ r.cinch.limitEntries = 1) ∧
    after (exec (.limitExit 1010000 0) (entry .limit)) (fun r => r.cinch.st = .on) := by
  decide +kernel

theorem test_fet_model :
    let low := { up with cinch := { st := .faultWait } }
    ((low.advance 1010000).coolEnough = true ∧ (low.advance 1010000).retryLeft = 0) ∧
    after (exec (.fetModelStep 1010000 2000000 30000 48000000 46000000) (entry .on)) (fun r => r.cinch.vds = 2000000 ∧ 0 < r.cinch.dt1 ∧
      r.cinch.vout = 46000000 ∧ r.cinch.st = .on) ∧
    after (exec (.tmemRefresh 1010000) { up with cinch := { dt1 := 10, dt2 := 15 } }) (fun r => r.cinch.tmem = 1 / 2) ∧
    after (exec (.restartConditionMet 1010000) low) (fun r => r.cinch.st = .wait ∧ r.cinch.holdFrom = low.cinch.holdFrom) ∧
    after (exec (.faultCountReset 15360000000) { up with cinch := { st := .on, onAt := some 0, consec := 3 } }) (fun r => r.cinch.consec = 0) := by
  decide +kernel

theorem test_cinch_registers :
    let l := { up with cinch := { st := .latched, holdFrom := some 5 }, gate := { state := 2 } }
    (l.gate.session = true ∧ up.gate.session = false) ∧
    after (exec (.cnSoftWrite 1010000 0x44) up) (fun r => r.cinch.soft = 0x44) ∧
    after (exec (.loadOnWrite 1010000 0) (entry .on)) (fun r => !r.cinch.loadOn ∧ r.cinch.st = .wait) ∧
    after (exec (.loadOnWrite 1010000 1) { up with cinch := { loadOn := false } }) (fun r => r.cinch.loadOn ∧ r.cinch.st = .unseated) ∧
    after (exec (.cnClear 1010000 1) l) (fun r => r.cinch.st = .faultWait ∧ r.cinch.holdFrom = some 5) ∧
    after (exec (.cnClear 1010000 1) (entry .latched)) (fun r => r.cinch.st = .latched) := by
  decide +kernel

/-! ### Bring-up, Halter mode, the ladder and brown-out (13) -/

def supplied : State := { State.reset with core := { State.reset.core with ready := 0x101 } }

theorem test_beam_die_starts :
    (supplied.core.up = false ∧ supplied.power.railsOff = false ∧ bitAt supplied.core.ready.toNat 0 = true) ∧
    after (exec (.beamDieResetExit 1010000 1 5) supplied) (fun r => r.core.up ∧ r.core.role = .worker ∧ r.core.node = 5 ∧ r.core.bootId = 1 ∧
      r.mram.bootId = 1 ∧ r.wheel.count = 0) := by
  decide +kernel

theorem test_foreman_g_ready :
    let s := { up with core := { up.core with ready := 0xFB, report := some 8 } }
    (bitAt s.core.ready.toNat 1 = true ∧ bitAt s.core.ready.toNat 2 = false ∧ s.core.report = some 8) ∧
    after (exec (.foremanGReady 1010000) s) (fun r => bitAt r.core.ready.toNat 2 = true ∧ r.core.report = some 0 ∧ r.core.gAnswers) := by
  decide +kernel

theorem test_self_tests :
    after (exec (.engineSelftestDone 1010000 3 true) up) (fun r => r.core.readyAwl = 8) ∧
    after (exec (.engineSelftestDone 1010000 67 true) up) (fun r => r.core.readyBkl = 8) ∧
    after (exec (.engineSelftestDone 1010000 3 false) (withAwl up chain)) (fun r => (r.awl 3).selfTest ∧ (r.awl 3).mode = 0 ∧ (r.awl 3).life = .off) ∧
    up.stitch.failed = 0 ∧ after (exec (.storeSelftestDone 1010000 true true true) { up with core := { up.core with ready := 0xF7 } }) (fun r => bitAt r.core.ready.toNat 3 = true) ∧
    after (exec (.stitchSelftestDone 1010000 6 false) up) (fun r => r.stitch.failed = 0x40) := by
  decide +kernel

theorem test_heartbeat :
    let s (p : Bool) (e : Nat) : State := { up with halter := { pulse := p, empty := e, beats := 4, auto := true } }
    (bitAt up.core.ready.toNat 1 = true ∧ (s true 1).halter.empty < 2 ∧ (s true 1).ports.shipResult = none) ∧
    after (exec (.heartbeatPulse 1010000 true) up) (fun r => r.halter.pulse ∧ r.core.gAnswers) ∧
    after (exec (.heartbeatWindow 1010000) (s true 1)) (fun r => !r.halter.pulse ∧ r.halter.beats = 5 ∧ r.halter.empty = 0 ∧ !r.halter.auto) ∧
    after (exec (.heartbeatWindow 1010000) (s false 2)) (fun r => r.halterOn ∧ r.halter.cause = 2 ∧ r.halter.beats = 0) := by
  decide +kernel

theorem test_halter_enters :
    (up.cinch.up = true ∧ up.halterOn = false ∧ up.tally.going = none) ∧
    after (exec (.halterEnter 1010000 3) up) (fun r => r.halterOn ∧ r.halter.cause = 3 ∧ r.halter.entries = 1 ∧ r.halter.rounds = 0) := by
  decide +kernel

/-- Halter mode with its sequencer enabled over positions 1 to 4 (R566). -/
def haltering : State := { halted with sill := { halted.sill with h := [0x1F, 0, 0, 0, 0, 0] }, halter := { halted.halter with rounds := 1, inRound := true } }

theorem test_halter_rounds_and_polls :
    (haltering.haltEn = true ∧ haltering.halterOn = true ∧ haltering.warning = false ∧ bitAt haltering.posMask (2 - 1) = true ∧
      haltering.halter.inRound = true ∧ haltering.halter.repeated = none) ∧
    after (exec (.halterRound 1010000 4 30) haltering) (fun r => r.halter.rounds = 2 ∧ !r.halter.reset ∧ !r.halter.roundBad) ∧
    after (exec (.halterPoll 1010000 2 0 [] false) haltering) (fun r => r.halter.repeated = some 2 ∧ r.halter.seq = 1) := by
  decide +kernel

/-- A second poll unanswered is a miss; a right answer within the limits is none (R541). -/
theorem test_halter_answers :
    let again := { haltering with halter := { haltering.halter with repeated := some 2 } }
    let f := devPeriods 512 2 3 1 0 [1, 2, 3, 4, 5, 6]
    (again.missLimit = 0 ∧ (classify 512 1 none 2 3 1 0 16384 f false).1 = .ok ∧
      ((classify 512 1 none 2 3 1 0 16384 f false).2.map fun g => bitsAt g.bits 12 12) = some 0x123 ∧
      (haltering.limitsOf 2).1 ≤ 0x123 ∧ 0x123 ≤ (haltering.limitsOf 2).2) ∧
    after (exec (.halterPoll 1010000 2 0 [] false) again) (fun r => r.halter.repeated = none ∧ r.halter.miss = 2 ∧ r.halter.reset ∧
      r.cinch = again.cinch) ∧
    after (exec (.halterPoll 1010000 2 16384 f false) haltering) (fun r => r.halter.seq = 1 ∧ tget 0 r.halter.missRun 2 = 0 ∧
      tget 0 r.halter.violRun 2 = 0 ∧ r.cinch = haltering.cinch) := by
  decide +kernel

theorem test_halter_exits :
    let s := { halted with halter := { halted.halter with beats := 100000, cause := 3 }, now := 10 ^ 12 }
    (s.exitReady = true ∧ s.secureHeld = false ∧ s.autoClear = false) ∧
    after (exec (.halterExitRequest (10 ^ 12)) s) (fun r => !r.halterOn ∧ r.pole.waits ∧ r.scr.paused) ∧
    after (exec (.rungCountReset 1010000) { up with halter := { beats := 1, run := 3 } }) (fun r => r.halter.run = 0) := by
  decide +kernel


/-- As delivered, slot 0 boots (R623); with no committed slot the boot ROM stays (R549). -/
theorem test_firmware_verified :
    let s := { up with core := { up.core with ready := 0xFD } }
    let blank := { s with mram := { fw := (List.range 8).map fun i => (i, some 0) } }
    (s.core.up = true ∧ bitAt s.core.ready.toNat 1 = false ∧ s.bootChoice = (some (0, false), false) ∧ blank.bootChoice = (none, false)) ∧
    after (exec (.firmwareVerified 1010000) s) (fun r => !r.fw.rom ∧ bitAt r.core.ready.toNat 1 ∧ !r.fw.image ∧ !r.fw.fallback) ∧
    after (exec (.firmwareVerified 1010000) blank) (fun r => r.fw.rom ∧ bitAt r.core.ready.toNat 1 = false) := by
  decide +kernel

theorem test_tfet_hot_and_model_low :
    let s := { up with cinch := { st := .on }, sill := { up.sill with p := [0, 0, 0, 0, 0x02000000, 0] }, ports := { up.ports with conv := [(4, (4000, 0))] } }
    (s.tfetFitted = true ∧ s.cinch.tfetBad = false ∧ (s.tfTrip : Rat) ≤ s.tfetTemp ∧ s.fastOver s.cinch.sense = false ∧
      s.tModel < (s.tjTrip : Rat) ∧ s.tModel + 15 < s.tfetTemp) ∧
    after (exec (.tfetHot 1010000) s) (fun r => r.cinch.fault = 3) ∧
    after (exec (.modelLow 1010000) s) (fun r => r.cinch.modelLow ∧ r.cinch.modelLowCnt = 1) := by
  decide +kernel

theorem test_ladder :
    let h (r : Option (Bool × Nat)) : State := { halted with halter := { halted.halter with cause := 2, rung := r } }
    ((h none).warning = false ∧ (h none).halter.beats = 0 ∧ (h none).rung4After = 0 ∧ (h none).halter.auto = false ∧ (h none).halter.enteredAt + 100 * ms ≤ max up.now 25600000 ∧ (h none).tally.going = none ∧
      ({ up with power := { railsOff := true } } : State).brownedOut = false) ∧
    after (exec (.watchdogRung3 25600000) (h none)) (fun r => r.halter.rung = some (false, 4) ∧ r.halter.run = 1) ∧
    after (exec (.beamWarmReset 1010000) (h (some (false, 4)))) (fun r => !r.core.up ∧ r.core.resetCause = 4 ∧ r.halter.warmWatchdog = 1) ∧
    after (exec (.beamPowerCycle 1010000) (h (some (true, 6)))) (fun r => !r.core.up ∧ r.power.railsOff ∧ r.halter.cycles = 1) ∧
    after (exec (.powerCycleEnd 1010000) { up with power := { railsOff := true } }) (fun r => !r.power.railsOff) := by
  decide +kernel

theorem test_reset_register :
    (bitsAt (0x1DA50001 : Word).toNat 16 16 = 0x1DA5 ∧ bitAt (0x1DA50001 : Word).toNat 0 = true ∧ up.warning = false ∧ up.ports.shipResult = none) ∧
    after (exec (.idResetWrite 1010000 0x1DA50001) up) (fun r => r.halter.rung = some (false, 2) ∧ r.halterOn) ∧
    after (exec (.idResetWrite 1010000 0x12340001) up) (fun r => r.halter.rung = none ∧ r.halter.keyBad = 1) := by
  decide +kernel

theorem test_brown_out :
    let w := { up with power := { warn := true, copying := true }, core := { up.core with ready := 0x2FF } }
    let x := { w with core := { up.core with ready := 0x3FF }, halter := { up.halter with exitWait := true, beats := 10 } }
    let off := { w with core := { up.core with up := false, resetCause := 7, ready := 0x300 }, power := { warn := true, railsOff := true } }
    (up.power.warn = false ∧ w.halter.waitingRung = none ∧ w.ports.shipResult = none ∧ x.halterOn = true ∧ x.exitBar = true ∧
      x.secureHeld = false ∧ x.fw.running = none ∧ x.fw.waiting = []) ∧
    after (exec (.brownoutWarningClear 1010000) x) (fun r => !r.halterOn ∧ !r.warning) ∧
    after (exec (.brownoutWarningClear 1010000) off) (fun r => !r.power.railsOff ∧ !r.power.warn) ∧
    after (exec (.brownoutWarning 1010000 0x400 true) up) (fun r => r.power.warn ∧ r.power.holdOk ∧ r.power.vinCode = 0x400 ∧ r.warning) ∧
    after (exec (.brownoutWarningClear 1010000) w) (fun r => !r.power.warn ∧ !r.warning) ∧
    after (exec (.brownOut 1010000) w) (fun r => !r.core.up ∧ r.core.resetCause = 7 ∧ r.power.railsOff ∧ r.halterOn) ∧
    after (exec (.brownoutCopyDone 1010000) w) (fun r => !r.power.copying ∧ r.power.copyDone) := by
  decide +kernel

theorem test_foremen_restart :
    let s := { up with stitch := { waiting := [5] } }
    after (exec (.foremanGRestart 1010000) s) (fun r => bitAt r.core.ready.toNat 2 = false ∧ r.rail.fgEpoch = 1 ∧ r.stitch.waiting = []) ∧
    after (exec (.foremanGRestart 1010000) { s with core := { up.core with ready := 0xFB, gStart := some 5 } }) (fun r => r.rail.fgEpoch = 1) ∧
    after (exec (.foremanSRestart 1010000) { s with core := { up.core with ready := 0xFD } }) (fun r => r.rail.fsEpoch = 1) ∧
    after (exec (.foremanSRestart 1010000) s) (fun r => bitAt r.core.ready.toNat 1 = false ∧ r.rail.fsEpoch = 1) := by
  decide +kernel

/-! ### The gate, the Sill and recovery (14) -/

def challenged : State := { up with gate := { state := 1, nonce := [1, 2, 3], key := [4, 5] } }
/-- The same with the response that the key gives. -/
def answered : State := { challenged with gate := { challenged.gate with
  response := (List.range 8).map fun i => (i, BitVec.ofNat 32 (leNat ((challenged.sgExpected.drop (4 * i)).take 4))) } }

theorem test_session_opens :
    answered.sgResponse = answered.sgExpected ∧ after (exec (.sgVerify 1010000) answered) (fun r => r.gate.session ∧ r.gate.run = 0) := by
  decide +kernel

theorem test_session_refused :
    challenged.sgResponse ≠ challenged.sgExpected ∧
    after (exec (.sgVerify 1010000) challenged) (fun r => r.gate.state = 3 ∧ r.gate.fails = 1 ∧ r.gate.run = 1 ∧ r.gate.failedAt = 1010000) := by
  decide +kernel

theorem test_challenge_and_close :
    (up.gateServed = true ∧ up.gate.session = false ∧ up.gate.state ≠ 3) ∧
    after (exec (.sgChallenge 1010000) up) (fun r => r.gate.state = 1 ∧ r.free = 1) ∧
    after (exec (.sgClose 1010000) { up with gate := { state := 2 } }) (fun r => !r.gate.session ∧ r.rail.hostSEpoch = 1) := by
  decide +kernel

theorem test_session_timers :
    let late := 10 ^ 12
    let h := { up with gate := { state := 3, run := 2 } }
    let o := { up with gate := { state := 2, recovery := some (63, 1) } }
    (challenged.gate.state = 1 ∧ challenged.gate.expiresAt ≤ late ∧ max up.now 1010000 ≤ challenged.gate.expiresAt ∧ h.gate.heldUntil ≤ late ∧
      up.gate.heldUntil ≤ max up.now 1010000 ∧ o.gate.session = true ∧ o.gate.activeAt + seconds 600 ≤ late) ∧
    after (exec (.challengeExpiry late) challenged) (fun r => r.gate.state = 0 ∧ r.gate.nonce = []) ∧
    after (exec (.holdoffExpiry late) h) (fun r => r.gate.state = 0 ∧ r.gate.run = 2) ∧
    after (exec (.sessionIdleTimeout late) o) (fun r => r.gate.state = 0 ∧ r.gate.recovery = none ∧ r.rail.hostSEpoch = 1) := by
  decide +kernel

theorem test_sill_program :
    let s := { up with gate := { state := 2 }, sill := { up.sill with pgmRow := 6, pgmData := 0x100 } }
    (bitsAt (0x51110001 : Word).toNat 16 16 = 0x5111 ∧ s.sill.busy = none ∧ s.sill.pgmData ≠ 0 ∧
      (s.onSill fun x => { x with pin := true, vqps := true }).sillRefusal = 0 ∧ (s.onSill fun x => { x with pin := false, vqps := true }).sillRefusal = 2) ∧
    after (exec (.sillProgram 1010000 0x51110001 true true) s) (fun r => r.sill.pgmState = 1 ∧ r.sill.busy = some (6, 0x100)) ∧
    after (exec (.sillProgram 1010000 0x51110001 false true) s) (fun r => r.sill.pgmState = 3 ∧ r.sill.pgmResult = 2 ∧ r.sill.busy = none) := by
  decide +kernel

theorem test_sill_program_done :
    let s := { up with sill := { rows := [(6, 0x8)], busy := some (6, 0x100) } }
    (s.sill.busy = some (6, 0x100) ∧ s.sill.abortAt = none ∧ s.sillOk = true ∧ s.blown 6 3 = true) ∧
    after (exec (.sillProgramDone 1010000 true 0) s) (fun r => r.sill.rows = [(6, 0x108)] ∧ r.sill.busy = none ∧ r.sill.pgmState = 2) := by
  decide +kernel

theorem test_secure_commands :
    let h := said halted 0x11000000
    let e := { h with halter := { h.halter with beats := 10 } }
    ((said up 0x10000000).word8 = some 0x10000000 ∧ e.word8 = some 0x11000000 ∧ e.exitReady = true ∧ (said up 0x20001DA5).word8 = some 0x20001DA5 ∧
      (e.chan 8).formal = true) ∧
    after (exec (.secureHalterEnter 1010000) (said up 0x10000000)) (fun r => r.halterOn ∧ r.halter.cause = 5 ∧ r.halter.secure) ∧
    after (exec (.secureHalterRelease 1010000) e) (fun r => r.halter.release ∧ !(r.chan 8).inb.full ∧ (r.chan 8).ackCode = 0) ∧
    after (exec (.secureRung3 1010000) (said up 0x20001DA5)) (fun r => r.halter.rung = some (false, 3)) ∧
    after (exec (.secureRung4 1010000) (said up 0x21001DA5)) (fun r => r.halter.rung = some (true, 5)) := by
  decide +kernel

theorem test_recovery :
    let r0 (w : Word) (k : Option (Nat × Nat)) : State := { said up w with fw := { rom := true }, gate := { recovery := k } }
    ((r0 0x30000040 none).word8 = some 0x30000040 ∧ 63 ≤ 0x30000040 % 2 ^ 24 ∧ 0x30000040 % 2 ^ 24 ≤ 65534 ∧ 0x30000040 / 2 ^ 24 = 0x30) ∧
    after (exec (.recoveryBegin 1010000) (r0 0x30000040 none)) (fun r => r.gate.recovery = some (64, 0) ∧ !(r.chan 8).inb.full) ∧
    after (exec (.recoveryWord 1010000) (r0 0x12345678 (some (64, 2)))) (fun r => r.gate.recovery = some (64, 3) ∧ !(r.chan 8).inb.full) ∧
    after (exec (.recoveryEnd 1010000) (r0 0x32000000 (some (64, 2)))) (fun r => r.gate.recovery = none ∧ (r.chan 8).ackCode = 0x8010) := by
  decide +kernel

theorem test_recovery_commits :
    let s : State := { said up 0x32000000 with fw := { rom := true }, gate := { recovery := some (64, 64) } }
    (s.word8 = some 0x32000000 ∧ s.imageFault 0 = none ∧ s.warning = false ∧ s.committed 1 = false ∧ s.ports.shipResult = none) ∧
    after (exec (.recoveryEnd 1010000) s) (fun r => r.gate.recovery = none ∧ r.halter.rung = some (false, 3) ∧ r.commitSeq 0 = 1) := by
  decide +kernel

/-! ### Register accesses (00, 06, 14) -/

theorem test_port_registers :
    (bitsAt (0x51E5 : Word).toNat 0 2 ≤ 2 ∧ (up.awl 3).selfTest = false) ∧
    after (exec (.ptMapSelWrite 1010000 0xFFFF) up) (fun r => r.ports.mapSel = 0x7F3F) ∧
    after (exec (.ptPgrpWrite 1010000 4 0xFFFFFFFF) up) (fun r => tget 0 r.scr.pgrpReg 4 = 0x8F8F8F8F ∧ r.scr.pgrp = []) ∧
    after (exec (.ptAwlCfgWrite 1010000 3 0x51E5) up) (fun r => (r.awl 3).cfgReg = 0x51E5 ∧ (r.awl 3).mode = 0) := by
  decide +kernel

theorem test_port_registers_wait :
    after (exec (.ptAwlSentWrite 1010000 3 0x603086) up) (fun r => (r.awl 3).sentReg = 0x603086 ∧ (r.awl 3).sent = 0x603006) ∧
    after (exec (.ptTwCfgWrite 1010000 3 0x2003241) up) (fun r => (r.tw 3).cfgReg = 0x2003241 ∧ (r.tw 3).mode = 0) ∧
    after (exec (.ptAwlSentWrite 1010000 3 0x603080) up) (fun r => (r.awl 3).sentReg = 0x603086) ∧
    after (exec (.ptTwCfgWrite 1010000 3 0x2003242) up) (fun r => (r.tw 3).cfgReg = 0x2003240) := by
  decide +kernel

theorem test_register_accesses :
    let s := { up with wheel := { up.wheel with steps := 5, holds := 7 } }
    after (exec (.counterReadClear 1010000 0x4038 4) s) (fun r => r.lastRead = 0x70005 ∧ r.wheel.steps = 0 ∧ r.wheel.holds = 0) ∧
    after (exec (.counterReadClear 1010000 0x4038 2) s) (fun r => r.lastRead = 0 ∧ r.wheel.steps = 5) ∧
    after (exec (.registerWrite 1010000 0x400C 4 0x123) up) (fun r => r.wheel.a.offset = 0x123) ∧
    after (exec (.registerWrite 1010000 0x400C 2 0x123) up) (fun r => r.wheel.a.offset = 0) := by
  decide +kernel


/-! ### The manual's own examples -/

/-- R239: the nine bytes "123456789". -/
theorem test_check_values :
    let m := (List.range 9).map (· + 0x31)
    crcOver breik8 8 m = 0xDF ∧ crcOver breik16 8 m = 0x29B1 ∧ crcOver pec8 8 m = 0xF4 ∧ crcOver crc32 8 m = 0xCBF43926 ∧
    crcOver crc32c 8 m = 0xE3069283 := by
  decide +kernel

/-- 02: the standard frame of position 5 to ROLL_STD with sequence 9; 05: the CONFIG ASSIGN of position 72. -/
theorem test_breik_checks : breikCheck false 5 1 9 [0, 3, 0xE, 8, 1, 0xF, 4] = 0xEF ∧ breikCheck false 0 7 3 [1, 4, 8] = 0xED := by
  decide +kernel

/-- 04: the PEC of a Read Word of 0x1234 with command 0x8B at the target 0x40. -/
theorem test_pec : crcBytes pec8 [0x80, 0x8B, 0x81, 0x34, 0x12] = 0x9F ∧
    ({ addr := 0x40, tx := some [0x8B], rlen := 3, pec := true } : TwXfer).classify none [0x34, 0x12, 0x9F] = .ok ∧
    ({ addr := 0x40, tx := some [0x8B], rlen := 3, pec := true } : TwXfer).classify none [0x34, 0x12, 0x9E] = .pecFail := by
  decide +kernel

/-- 06: READ_IOUT 0xEB20 in LINEAR11 is 100.0; DIRECT with set 17 turns 8,000 into 45.0, clamped to 40.0. -/
theorem test_formats :
    let c17 : Coef := { w0 := 0xFC1800C8, w1 := 0, lo := 0xFF800000, hi := 0x42200000 }
    normalize { fmt := 2, fwidth := 15 } {} none 0xEB20 = .value (Fl.ofRat 100) ∧ (Fl.ofRat 100).bits32 = 0x42C80000 ∧
    normalize { fmt := 5, fwidth := 15 } c17 none 0x1F40 = .value (Fl.ofRat 45) ∧ clampTo c17 (Fl.ofRat 45) = (0x42200000, true) := by
  decide +kernel

/-- 12: the 40 A carrier card; in its fault 1,200 W heat pole 1 from 0.64 K and pole 2 from 19.2 K for one microsecond. -/
theorem test_carrier_card :
    let s := { up with
      sill := { up.sill with p := [BitVec.ofNat 32 (19 + 256 * 40 + 16384), BitVec.ofNat 32 (256 * 25 + 32768 * 25), 0x30302828, 10, 0, 0] }
      cinch := { st := .limit, dt1 := 16 / 25, dt2 := 96 / 5 } }
    s.rshunt = 1000 ∧ s.vlim = 50000 ∧ s.ftRatio2 = 4 ∧ s.fastOver 99999 = false ∧ s.fastOver 100000 = true ∧ s.tAmb = 60 ∧ s.tjTrip = 150 ∧
    s.tRst = 70 ∧ s.fetModel = (2 / 5, 1 / 500, 12, 12) ∧
    after (exec (.fetModelStep 1010000 24000000 50000 54000000 30000000) s) (fun r =>
      r.cinch.dt1 = 16 / 25 + (1200 - 8 / 5) / 1000000 * 200 ∧ r.cinch.dt2 = 96 / 5 + (1200 - 8 / 5) / 1000000) := by
  decide +kernel

/-- 14: the rows of a battery shelf's Halter limits. -/
theorem test_halter_rows :
    let s := { up with sill := { up.sill with h := [0x0D64001F, 0x40, 0x7CB578, 0x9BF000, 0, 0] } }
    s.haltEn = true ∧ s.posMask = 0xF ∧ s.violCount = 2 ∧ s.missLimit = 3 ∧ s.autoClear = true ∧ s.rung4After = 3 := by
  decide +kernel

/-- 01: mains lost and restored: at 431.0 ms, 11.0 ms into the cycle, the wheel locks and lands on angle 0
of a new cycle. The angle is truncated (R21), so it reads 36,044 where the example rounds 36,044.8. -/
theorem test_mains_restored :
    let s := { up with wheel := { up.wheel with anchorT := 107520000, count := 21, a := { acqEdges := [94976000, 100096000, 105216000, 110336000] } } }
    s.wheel.angleAt 110336000 = 36044 ∧
    after (exec (.acquisitionChoice 110336000) s) (fun r =>
      r.wheel.state = .locked ∧ r.wheel.count = 22 ∧ r.wheel.angleAt 110336000 = 0 ∧ r.wheel.steps = 1) := by
  decide +kernel

end Sys2Proof.Machine.Tests
end

section
/-! SUPPORT. Laws of bit fields: a bit after it is set, and each field of a written register (R17). -/
namespace Sys2Proof.Machine

theorem bitAt_eq_testBit (w i : Nat) : bitAt w i = w.testBit i := by
  rw [Nat.testBit_eq_decide_div_mod_eq, bitAt, Nat.shiftRight_eq_div_pow]

/-- The bit that was set or cleared reads back. -/
@[simp] theorem bitAt_setBit_same (w i : Nat) (b : Bool) : bitAt (setBit w i b) i = b := by
  have flips : ∀ y : Nat, (y + 2 ^ i).testBit i = !y.testBit i := fun y => by
    rw [Nat.add_comm, Nat.testBit_two_pow_add_eq]
  simp only [setBit, bitAt_eq_testBit]
  cases hw : w.testBit i with
  | false => cases b <;> simp [flips, hw]
  | true =>
    obtain ⟨y, rfl⟩ : ∃ y, w = y + 2 ^ i := ⟨_, (Nat.sub_add_cancel (Nat.ge_two_pow_of_testBit hw)).symm⟩
    rw [flips] at hw
    cases b <;> simp_all

/-- A bit within the width of a register reads the same from the number put into it. -/
theorem bitAt_ofNat {n i : Nat} (x : Nat) (h : i < n) : bitAt (BitVec.ofNat n x).toNat i = bitAt x i := by
  simp [bitAt_eq_testBit, h]

theorem bitsAt_lt (w lo n : Nat) : bitsAt w lo n < 2 ^ n := Nat.mod_lt _ (Nat.two_pow_pos n)

theorem bitsAt_or (a b lo n : Nat) : bitsAt (a ||| b) lo n = bitsAt a lo n ||| bitsAt b lo n := by
  simp [bitsAt, Nat.shiftRight_or_distrib, Nat.or_mod_two_pow]

theorem bitsAt_and (a b lo n : Nat) : bitsAt (a &&& b) lo n = bitsAt a lo n &&& bitsAt b lo n := by
  simp [bitsAt, Nat.shiftRight_and_distrib, Nat.and_mod_two_pow]

/-- The field a value was shifted to reads the value. -/
theorem bitsAt_shiftLeft_same {x n : Nat} (lo : Nat) (h : x < 2 ^ n) : bitsAt (x <<< lo) lo n = x := by
  simp [bitsAt, Nat.shiftLeft_shiftRight, Nat.mod_eq_of_lt h]

/-- A value shifted to a lower field is not seen. -/
theorem bitsAt_shiftLeft_below {x lo n lo' n' : Nat} (h : x < 2 ^ n) (hlo : lo + n ≤ lo') : bitsAt (x <<< lo) lo' n' = 0 := by
  have hx : x <<< lo < 2 ^ lo' := by
    calc x <<< lo = x * 2 ^ lo := Nat.shiftLeft_eq x lo
      _ < 2 ^ n * 2 ^ lo := Nat.mul_lt_mul_of_pos_right h (Nat.two_pow_pos lo)
      _ = 2 ^ (lo + n) := by rw [← Nat.pow_add, Nat.add_comm]
      _ ≤ 2 ^ lo' := Nat.pow_le_pow_right Nat.two_pos hlo
  simp [bitsAt, Nat.shiftRight_eq_div_pow, Nat.div_eq_of_lt hx]

/-- A value shifted to a higher field is not seen. -/
theorem bitsAt_shiftLeft_above {x lo lo' n' : Nat} (h : lo' + n' ≤ lo) : bitsAt (x <<< lo) lo' n' = 0 := by
  obtain ⟨k, rfl⟩ := Nat.exists_eq_add_of_le h
  have e : x <<< (lo' + n' + k) = (x <<< k) <<< n' <<< lo' := by simp only [← Nat.shiftLeft_add]; congr 1; omega
  rw [bitsAt, e, Nat.shiftLeft_shiftRight, Nat.shiftLeft_eq _ n', Nat.mul_mod_left]

theorem bitsAt_packNat_above {lo n : Nat} (l : List (Nat × Nat)) (h : ∀ f ∈ l, lo + n ≤ f.1) : bitsAt (packNat l) lo n = 0 := by
  induction l with
  | nil => simp [packNat, bitsAt]
  | cons f l ih =>
    obtain ⟨hf, hl⟩ := List.forall_mem_cons.1 h
    rw [packNat, bitsAt_or, bitsAt_shiftLeft_above hf, ih hl, Nat.or_self]

/-- A field within 32 bits reads the same from a word as from the number put into it. -/
theorem bitsAt_ofNat32 {lo n : Nat} (x : Nat) (h : lo + n ≤ 32) : bitsAt (BitVec.ofNat 32 x).toNat lo n = bitsAt x lo n := by
  apply Nat.eq_of_testBit_eq
  intro i
  simp only [bitsAt, BitVec.toNat_ofNat, Nat.testBit_mod_two_pow, Nat.testBit_shiftRight]
  by_cases hi : i < n
  · simp [show lo + i < 32 by omega]
  · simp [hi]

/-- Two fields of a register share no bit, the first standing below the second. -/
def FieldSpec.below (f g : FieldSpec) : Prop := f.1 + f.2.1 ≤ g.1

/-- The value a field holds after a write (R17). -/
def fieldTaken (old v : Word) (f : FieldSpec) : Nat :=
  if f.2.2 (bitsAt v.toNat f.1 f.2.1) then bitsAt v.toNat f.1 f.2.1 else bitsAt old.toNat f.1 f.2.1

theorem fieldTaken_lt (old v : Word) (f : FieldSpec) : fieldTaken old v f < 2 ^ f.2.1 := by
  unfold fieldTaken
  split <;> exact bitsAt_lt _ _ _

/-- Each field of a register whose fields share no bit reads back the value it took or kept. -/
theorem bitsAt_takeFields (old v : Word) {fs : List FieldSpec} (hfs : fs.Pairwise FieldSpec.below) {f : FieldSpec} (hf : f ∈ fs)
    (hw : f.1 + f.2.1 ≤ 32) : bitsAt (takeFields old v fs).toNat f.1 f.2.1 = fieldTaken old v f := by
  have word : takeFields old v fs = BitVec.ofNat 32 (packNat (fs.map fun g => (g.1, fieldTaken old v g))) := rfl
  rw [word, bitsAt_ofNat32 _ hw]
  clear word
  induction hfs with
  | nil => cases hf
  | @cons g gs hg _ ih =>
    rw [List.map_cons, packNat, bitsAt_or]
    rcases List.mem_cons.1 hf with rfl | hf
    · rw [bitsAt_shiftLeft_same _ (fieldTaken_lt old v f), bitsAt_packNat_above, Nat.or_zero]
      intro p hp
      obtain ⟨g, hm, rfl⟩ := List.mem_map.1 hp
      exact hg g hm
    · rw [bitsAt_shiftLeft_below (fieldTaken_lt old v g) (hg f hf), ih hf, Nat.zero_or]

/-- A field stands where the row says (lowest bit, width) and takes the values from the row's third entry to its fourth. -/
def FieldSpec.takesRow (f : FieldSpec) (row : Nat × Nat × Nat × Nat) : Prop :=
  f.1 = row.1 ∧ f.2.1 = row.2.1 ∧ ∀ x < 2 ^ row.2.1, f.2.2 x = decide (row.2.2.1 ≤ x ∧ x ≤ row.2.2.2)

theorem takesRow_range (lo n a b : Nat) : FieldSpec.takesRow (lo, n, range a b) (lo, n, a, b) := ⟨rfl, rfl, fun _ _ => rfl⟩

theorem takesRow_any (lo n : Nat) : FieldSpec.takesRow (lo, n, any) (lo, n, 0, 2 ^ n - 1) :=
  ⟨rfl, rfl, fun x hx => by
    have hx : x ≤ 2 ^ n - 1 := Nat.le_sub_one_of_lt hx
    simp [any, hx]⟩

/-- A field that takes a range of values reads back the value written if it lies in the range, and stays as it was otherwise. -/
theorem bitsAt_takeFields_row (old v : Word) {fs : List FieldSpec} (hfs : fs.Pairwise FieldSpec.below) {f : FieldSpec} (hf : f ∈ fs)
    {row : Nat × Nat × Nat × Nat} (ht : f.takesRow row) (hw : row.1 + row.2.1 ≤ 32) :
    bitsAt (takeFields old v fs).toNat row.1 row.2.1 =
      if row.2.2.1 ≤ bitsAt v.toNat row.1 row.2.1 ∧ bitsAt v.toNat row.1 row.2.1 ≤ row.2.2.2 then bitsAt v.toNat row.1 row.2.1
      else bitsAt old.toNat row.1 row.2.1 := by
  obtain ⟨hlo, hn, takes⟩ := ht
  rw [← hn] at takes
  rw [← hlo, ← hn] at hw ⊢
  simp [bitsAt_takeFields old v hfs hf hw, fieldTaken, takes _ (bitsAt_lt _ _ _)]

/-- The fields of a list stand one by one where the rows of a table say, and take what they say. -/
def takesRows : List FieldSpec → List (Nat × Nat × Nat × Nat) → Prop
  | [], [] => True
  | f :: fs, row :: rows => f.takesRow row ∧ takesRows fs rows
  | _, _ => False

theorem exists_takesRow {fs : List FieldSpec} {rows : List (Nat × Nat × Nat × Nat)} (h : takesRows fs rows) :
    ∀ row ∈ rows, ∃ f ∈ fs, f.takesRow row := by
  induction fs generalizing rows with
  | nil =>
    cases rows with
    | nil => exact fun _ hrow => nomatch hrow
    | cons _ _ => exact h.elim
  | cons f fs ih =>
    cases rows with
    | nil => exact h.elim
    | cons row rows =>
      obtain ⟨hf, hfs⟩ := h
      refine List.forall_mem_cons.2 ⟨⟨f, List.mem_cons_self, hf⟩, fun r hr => ?_⟩
      obtain ⟨g, hg, hgr⟩ := ih hfs r hr
      exact ⟨g, List.mem_cons_of_mem f hg, hgr⟩

/-- The same for a table of rows, one for each of some fields of the register. -/
theorem bitsAt_takeFields_rows (old v : Word) {fs gs : List FieldSpec} (hfs : fs.Pairwise FieldSpec.below) (hsub : gs ⊆ fs)
    {rows : List (Nat × Nat × Nat × Nat)} (h : takesRows gs rows) (hw : ∀ row ∈ rows, row.1 + row.2.1 ≤ 32) :
    ∀ row ∈ rows, bitsAt (takeFields old v fs).toNat row.1 row.2.1 =
      if row.2.2.1 ≤ bitsAt v.toNat row.1 row.2.1 ∧ bitsAt v.toNat row.1 row.2.1 ≤ row.2.2.2 then bitsAt v.toNat row.1 row.2.1
      else bitsAt old.toNat row.1 row.2.1 := by
  intro row hrow
  obtain ⟨f, hf, hfrow⟩ := exists_takesRow h row hrow
  exact bitsAt_takeFields_row old v hfs (hsub hf) hfrow (hw row hrow)

end Sys2Proof.Machine
end

section
/-! SUPPORT. What a host write of a port register does (R17, R130, R171, R174, R292): which operation the address selects,
and that the compile it starts leaves the ports and PT_PGRP as they stand (R281). -/
namespace Sys2Proof.Machine

/-! ### A compile that starts -/

@[simp] theorem compilePlain_ports (s : State) : s.compilePlain.ports = s.ports := by
  obtain ⟨c, h⟩ := requestCompile_scr s .plain
  rw [State.compilePlain, h]

/-- A compile that starts leaves PT_PGRP, as written and in force, as it stands. -/
theorem startCompile_pgrp (s : State) : s.startCompile.scr.pgrpReg = s.scr.pgrpReg ∧ s.startCompile.scr.pgrp = s.scr.pgrp := by
  simp only [State.startCompile]
  split
  · exact ⟨rfl, rfl⟩
  · split <;> exact ⟨rfl, rfl⟩

@[simp] theorem compilePlain_pgrpReg (s : State) : s.compilePlain.scr.pgrpReg = s.scr.pgrpReg := (startCompile_pgrp _).1
@[simp] theorem compilePlain_pgrp (s : State) : s.compilePlain.scr.pgrp = s.scr.pgrp := (startCompile_pgrp _).2

/-! ### One port of the state -/

@[simp] theorem keeping_awl (r s : State) (n : Nat) : (r.keeping s).awl n = r.awl n := rfl
@[simp] theorem keeping_tw (r s : State) (m : Nat) : (r.keeping s).tw m = r.tw m := rfl
@[simp] theorem advance_awl (s : State) (t n : Nat) : (s.advance t).awl n = s.awl n := rfl
@[simp] theorem advance_tw (s : State) (t m : Nat) : (s.advance t).tw m = s.tw m := rfl

theorem awl_onAwl_same (s : State) {n : Nat} (h : n < 64) (f : AwlPort → AwlPort) : (s.onAwl n f).awl n = f (s.awl n) := by
  simp [State.onAwl, State.awl, h]

theorem tw_onTw_same (s : State) {m : Nat} (h : m < 64) (f : TwPort → TwPort) : (s.onTw m f).tw m = f (s.tw m) := by
  simp [State.onTw, State.tw, h]

theorem awl_eq_of_ports {r s : State} (h : r.ports = s.ports) (n : Nat) : r.awl n = s.awl n := by rw [State.awl, h, State.awl]
theorem tw_eq_of_ports {r s : State} (h : r.ports = s.ports) (m : Nat) : r.tw m = s.tw m := by rw [State.tw, h, State.tw]

/-! ### The operation an address selects (R593) -/

/-- Register `k` of an array stands `k` strides above the base. -/
theorem inst_mem {base stride n k : Nat} (hs : 0 < stride) (hk : k < n) : inst base stride n (base + stride * k) = some k := by
  have := Nat.mul_lt_mul_of_pos_left hk hs
  simp [inst, hs, this]

theorem inst_above {base stride n off : Nat} (h : base + stride * n ≤ off) : inst base stride n off = none :=
  if_neg fun hi => by omega

theorem writePt_pgrp (s : State) {i : Nat} (hi : i < 32) (v : Word) : s.writePt (4 * i) v = s.writePgrp i v := by
  have hinst : inst 0 4 32 (4 * i) = some i := by simpa using inst_mem (base := 0) (stride := 4) (by decide) hi
  unfold State.writePt
  split
  any_goals omega
  simp only [hinst]

theorem writePt_awl (s : State) {n k : Nat} (hn : n < 64) (hk : k < 4) (v : Word) :
    s.writePt (0x400 + 4 * (4 * n + k)) v = s.writeAwl n k v := by
  have hinst := inst_mem (base := 0x400) (stride := 4) (n := 256) (k := 4 * n + k) (by decide) (by omega)
  unfold State.writePt
  split
  any_goals omega
  rw [inst_above (by omega), inst_above (by omega), hinst]
  simp only [show (4 * n + k) / 4 = n by omega, show (4 * n + k) % 4 = k by omega]

theorem writePt_tw (s : State) {m k : Nat} (hm : m < 64) (hk : k < 4) (v : Word) :
    s.writePt (0xC00 + 4 * (4 * m + k)) v = s.writeTw m k v := by
  have hinst := inst_mem (base := 0xC00) (stride := 4) (n := 256) (k := 4 * m + k) (by decide) (by omega)
  unfold State.writePt
  split
  any_goals omega
  rw [inst_above (by omega), inst_above (by omega), inst_above (by omega), hinst]
  simp only [show (4 * m + k) / 4 = m by omega, show (4 * m + k) % 4 = k by omega]

/-- Unless the role is worker, an aligned 32-bit host write of the PT_ page is taken (R6, R343). -/
theorem hostWrite_pt (s : State) {o : Nat} (ho : o < 4096) (ha : o % 4 = 0) (hr : s.isWorker = false) (v : Word) :
    s.hostWrite (0x5000 + o) 4 v = s.writePt o v := by
  have hpage : (0x5000 + o) / 4096 = 5 := by omega
  have hoff : (0x5000 + o) % 4096 = o := by omega
  have halign : (0x5000 + o) % 4 = 0 := by omega
  simp [State.hostWrite, State.hostMay, hr, halign, isGatePage, hpage, State.writeReg, hoff]

/-! ### What a register of a port takes -/

/-- PT_AWL_CFG takes its fields, and only that register changes (R130). -/
theorem writeAwlCfg_awl (s : State) {n : Nat} (hn : n < 64) (v : Word) : (s.writeAwlCfg n v).awl n = { s.awl n with
    cfgReg := takeFields (s.awl n).cfgReg v
      [(0, 2, fun m => decide (m ≤ 2) && !(s.awl n).selfTest), (2, 3, range 0 4), (5, 6, range 1 63), (11, 4, range 1 10)] } := by
  simp only [State.writeAwlCfg]
  split
  · exact awl_onAwl_same s hn _
  · rw [awl_eq_of_ports (compilePlain_ports _), awl_onAwl_same s hn]

/-- PT_AWL_SENT takes its fields, and only that register changes (R130). -/
theorem writeAwlSent_awl (s : State) {n : Nat} (hn : n < 64) (v : Word) : (s.writeAwlSent n v).awl n = { s.awl n with
    sentReg := takeFields (s.awl n).sentReg v [(0, 3, range 1 6), (3, 1, any), (4, 1, any), (5, 2, range 0 2), (7, 3, range 0 4),
      (10, 6, any), (16, 5, any), (21, 7, range 3 90)] } := by
  simp only [State.writeAwlSent]
  split
  · exact awl_onAwl_same s hn _
  · rw [awl_eq_of_ports (compilePlain_ports _), awl_onAwl_same s hn]

/-- PT_TW_CFG takes its fields, and only that register changes (R174). -/
theorem writeTwCfg_tw (s : State) {m : Nat} (hm : m < 64) (v : Word) : (s.writeTwCfg m v).tw m = { s.tw m with
    cfgReg := takeFields (s.tw m).cfgReg v [(0, 2, fun x => decide (x ≤ 1) && !(s.tw m).selfTest), (2, 2, range 0 2), (4, 5, any),
      (9, 6, range 25 35), (15, 1, any), (16, 7, any), (23, 1, any), (24, 4, range 1 15)] } := by
  simp only [State.writeTwCfg]
  split
  · exact tw_onTw_same s hm _
  · rw [tw_eq_of_ports (compilePlain_ports _), tw_onTw_same s hm]

end Sys2Proof.Machine
end

section
/-! SUPPORT. What start-up's operations leave unchanged: readiness bits (R381), fault-history records (R556, R557),
self-tests of the Stitch units (R236) and the start-up report (R533). -/
namespace Sys2Proof.Machine

/-! ### Readiness: of the Beam die's own record only READY_CORE changes -/

section
variable (s : State) (bit : Nat) (v : Bool)

@[simp] theorem setReady_core :
    (s.setReady bit v).core = { s.core with ready := BitVec.ofNat 10 (setBit s.core.ready.toNat bit v) } := by
  obtain ⟨l, h⟩ := setReady_link s bit v
  rw [h]

@[simp] theorem setReady_wheel : (s.setReady bit v).wheel = s.wheel := by
  obtain ⟨l, h⟩ := setReady_link s bit v
  rw [h]

@[simp] theorem setReady_stitch : (s.setReady bit v).stitch = s.stitch := by
  obtain ⟨l, h⟩ := setReady_link s bit v
  rw [h]

@[simp] theorem setReady_fw : (s.setReady bit v).fw = s.fw := by
  obtain ⟨l, h⟩ := setReady_link s bit v
  rw [h]

@[simp] theorem setReady_mram : (s.setReady bit v).mram = s.mram := by
  obtain ⟨l, h⟩ := setReady_link s bit v
  rw [h]

/-- The readiness bit that was set or cleared reads back. -/
theorem bitAt_setReady (h : bit < 10) : bitAt (s.setReady bit v).core.ready.toNat bit = v := by
  rw [setReady_core, bitAt_ofNat _ h, bitAt_setBit_same]

end

@[simp] theorem postReady_core (s : State) (reg new old : Nat) : (s.postReady reg new old).core = s.core := by
  obtain ⟨l, h⟩ := postReady_link s reg new old
  rw [h]

/-! ### Fault history: only MRAM's records change, and BOOT_ID is none of them -/

theorem writeHistory_mram (s : State) (kind : Nat) (payload : List Byte) :
    ∃ m, s.writeHistory kind payload = { s with mram := m } ∧ m.bootId = s.mram.bootId := by
  simp only [State.writeHistory]
  split
  · exact ⟨s.mram, rfl, rfl⟩
  · exact ⟨_, rfl, rfl⟩

theorem selftestRecord_parts (s : State) (bits : Nat) :
    ∃ m, s.selftestRecord bits = { s with core := { s.core with selftest := s.core.selftest ||| BitVec.ofNat 6 bits }, mram := m } := by
  obtain ⟨m, h, -⟩ := writeHistory_mram (s.onCore fun c => { c with selftest := c.selftest ||| BitVec.ofNat 6 bits }) 6
    (leBytes 4 (s.core.selftest ||| BitVec.ofNat 6 bits).toNat)
  exact ⟨m, h⟩

@[simp] theorem selftestRecord_ready (s : State) (bits : Nat) : (s.selftestRecord bits).core.ready = s.core.ready := by
  obtain ⟨m, h⟩ := selftestRecord_parts s bits
  rw [h]

@[simp] theorem selftestRecord_awl (s : State) (bits n : Nat) : (s.selftestRecord bits).awl n = s.awl n := by
  obtain ⟨m, h⟩ := selftestRecord_parts s bits
  rw [h]
  rfl

@[simp] theorem selftestFail_ready (s : State) (bits : Nat) : (s.selftestFail bits).core.ready = s.core.ready := by
  unfold State.selftestFail
  split
  · rfl
  · exact selftestRecord_ready s bits

@[simp] theorem selftestFail_fw (s : State) (bits : Nat) : (s.selftestFail bits).fw = s.fw := by
  unfold State.selftestFail
  split
  · rfl
  · obtain ⟨m, h⟩ := selftestRecord_parts s bits
    rw [h]

/-! ### What a boot counts and keeps -/

/-- `r` is as far out of reset as `s`: the same boot number, in the Beam die and in MRAM, and the same cycle count. -/
def State.sameBoot (r s : State) : Prop :=
  r.core.up = s.core.up ∧ r.core.bootId = s.core.bootId ∧ r.mram.bootId = s.mram.bootId ∧ r.wheel.count = s.wheel.count

theorem sameBoot_trans {q r s : State} (h1 : q.sameBoot r) (h2 : r.sameBoot s) : q.sameBoot s := by
  obtain ⟨a1, a2, a3, a4⟩ := h1
  obtain ⟨b1, b2, b3, b4⟩ := h2
  exact ⟨a1.trans b1, a2.trans b2, a3.trans b3, a4.trans b4⟩

theorem beginAcq_sameBoot (s : State) : s.beginAcq.sameBoot s := ⟨rfl, rfl, rfl, rfl⟩

theorem phaseReady_sameBoot (s : State) : s.phaseReady.sameBoot s := by
  simp [State.phaseReady, State.sameBoot]

theorem scanHistory_sameBoot (s : State) : s.scanHistory.sameBoot s := by
  refine ⟨rfl, rfl, ?_, rfl⟩
  simp only [State.scanHistory, State.onMram_mram]
  split <;> rfl

theorem writeHistory_sameBoot (s : State) (kind : Nat) (payload : List Byte) : (s.writeHistory kind payload).sameBoot s := by
  obtain ⟨m, h, hm⟩ := writeHistory_mram s kind payload
  rw [h]
  exact ⟨rfl, rfl, hm, rfl⟩

theorem recordOldFault_sameBoot (s : State) : s.recordOldFault.sameBoot s := by
  simp only [State.recordOldFault]
  split
  · exact ⟨rfl, rfl, rfl, rfl⟩
  · exact writeHistory_sameBoot s.takeFree.2 4 _

/-- The last steps of a boot: acquisition, readiness of the wheel, and the fault history. -/
theorem bootHistory_sameBoot (s : State) (kind : Nat) (payload : List Byte) :
    ((s.beginAcq.phaseReady.scanHistory.writeHistory kind payload).recordOldFault).sameBoot s :=
  sameBoot_trans (recordOldFault_sameBoot _) <| sameBoot_trans (writeHistory_sameBoot _ _ _) <| sameBoot_trans (scanHistory_sameBoot _) <|
    sameBoot_trans (phaseReady_sameBoot _) (beginAcq_sameBoot s)

/-! ### Stitch units: a self-test marks the unit, and nothing else marks one -/

theorem undoRecords_failed (s : State) : s.undoRecords.stitch.failed = s.stitch.failed := by
  simp only [State.undoRecords]
  split <;> split <;> rfl

theorem stitchSelftest_failed {s : State} {u : Nat} (hu : u < 8) (pass : Bool) : (s.stitchSelftest u pass).stitch.failed =
    if pass then s.stitch.failed else s.stitch.failed ||| BitVec.ofNat 8 (2 ^ u) := by
  simp only [State.stitchSelftest, if_neg (Nat.not_le.2 hu)]
  cases pass with
  | true => simp only [if_true]; split <;> rfl
  | false =>
    simp only [Bool.false_eq_true, if_false]
    split
    · rw [setReady_stitch]; rfl
    · split
      · rw [setReady_stitch]; rfl
      · split
        · rw [undoRecords_failed, setReady_stitch]; rfl
        · rfl

/-! ### The start-up report -/

@[simp] theorem ringBell_core (s : State) (b : Nat) : (s.ringBell b).core = s.core := by
  unfold State.ringBell
  split <;> rfl

@[simp] theorem onChan_core (s : State) (c : Nat) (f : Channel → Channel) : (s.onChan c f).core = s.core := by
  unfold State.onChan
  split <;> rfl

@[simp] theorem firmwarePost_core (s : State) (c : Nat) (v : Word) : (s.firmwarePost c v).core = s.core := by
  unfold State.firmwarePost
  split
  · simp
  · rfl

/-- Posting the word that is due marks it as standing in HR_OUT, and no more of the Beam die's record changes. -/
theorem postReport_core (s : State) : ∃ b, s.postReport.core = { s.core with reportOut := b } := by
  unfold State.postReport
  split
  · split
    · exact ⟨true, by simp⟩
    · exact ⟨s.core.reportOut, rfl⟩
  · exact ⟨s.core.reportOut, rfl⟩

/-- With Foreman G ready the report starts again from its first word (R534). -/
theorem restartReport_core {s : State} (h : bitAt s.core.ready.toNat 2 = true) :
    ∃ b, s.restartReport.core = { s.core with report := some 0, reportOut := b } := by
  rw [State.restartReport, if_pos h]
  exact postReport_core _

end Sys2Proof.Machine
end

section
/-! Start-up: the Beam die leaves reset, the Foremen report, and the parts test themselves. -/
namespace Sys2Proof.Machine

/-- The Beam die is out of reset under boot number `id`, at cycle 0. -/
def State.booted (s : State) (id : BitVec 32) : Prop :=
  s.core.up = true ∧ s.core.bootId = id ∧ s.mram.bootId = id ∧ s.wheel.count = 0

theorem booted_of_sameBoot {r s : State} {id : BitVec 32} (h : r.sameBoot s) (hs : s.booted id) : r.booted id := by
  obtain ⟨hup, hcore, hmram, hcount⟩ := h
  rwa [State.booted, hup, hcore, hmram, hcount]

/-- A boot as worker selects the ALP input; of what a boot keeps nothing changes. -/
theorem workerWheel_sameBoot (s : State) (p : Prop) [Decidable p] :
    (if p then s.onWheel fun w => { w with ctrl := 5, active := 5 } else s).sameBoot s := by
  split <;> exact ⟨rfl, rfl, rfl, rfl⟩

/-- The Beam die leaves reset under the next boot number and at cycle 0 (R19, R525). -/
theorem beamExit_booted (s : State) (roleSel slot : Nat) (hup : s.core.up = false) (hrails : s.power.railsOff = false)
    (hcinch : bitAt s.core.ready.toNat 0 = true) : (s.beamExit roleSel slot).booted (s.mram.bootId + 1) := by
  have hgo : ¬ (s.core.up || s.power.railsOff || !bitAt s.core.ready.toNat 0) = true := by simp [hup, hrails, hcinch]
  simp only [State.beamExit, if_neg hgo]
  exact booted_of_sameBoot (sameBoot_trans (bootHistory_sameBoot _ _ _) (workerWheel_sameBoot _ _)) ⟨rfl, rfl, rfl, rfl⟩

/-- Foreman S boots the image chosen (R529, R583). -/
theorem firmwareVerified_image {s : State} {k : Nat} {fb : Bool} (hup : s.core.up = true) (hs : bitAt s.core.ready.toNat 1 = false)
    (h : s.bootChoice.1 = some (k, fb)) : bitAt s.firmwareVerified.core.ready.toNat 1 = true ∧
      s.firmwareVerified.fw = { s.fw with version := BitVec.ofNat 16 (s.imageVersion k), image := decide (k = 1), fallback := fb, rom := false } := by
  have hgo : ¬ (!s.core.up || bitAt s.core.ready.toNat 1) = true := by simp [hup, hs]
  simp only [State.firmwareVerified, if_neg hgo, h]
  rw [selftestFail_ready, selftestFail_fw]
  exact ⟨bitAt_setReady _ 1 true (by decide), setReady_fw _ 1 true⟩

/-- With no image to boot Foreman S stays in the boot ROM (R549, R583). -/
theorem firmwareVerified_rom {s : State} (hup : s.core.up = true) (hs : bitAt s.core.ready.toNat 1 = false) (h : s.bootChoice.1 = none) :
    bitAt s.firmwareVerified.core.ready.toNat 1 = false ∧ s.firmwareVerified.fw = { s.fw with rom := true } := by
  have hgo : ¬ (!s.core.up || bitAt s.core.ready.toNat 1) = true := by simp [hup, hs]
  simp only [State.firmwareVerified, if_neg hgo, h]
  rw [selftestFail_ready, selftestFail_fw]
  exact ⟨hs, rfl⟩

/-- Foreman G comes up once the report has been made: it answers, and the report starts again (R529, R534). -/
theorem foremanGReady_core {s : State} (hup : s.core.up = true) (hs : bitAt s.core.ready.toNat 1 = true)
    (hg : bitAt s.core.ready.toNat 2 = false) {k : Nat} (hr : s.core.report = some k) : ∃ b, s.foremanGReady.core = { s.core with
      ready := BitVec.ofNat 10 (setBit s.core.ready.toNat 2 true), gAnswers := true, report := some 0, reportOut := b } := by
  have hgo : ¬ (!s.core.up || !bitAt s.core.ready.toNat 1 || bitAt s.core.ready.toNat 2) = true := by simp [hup, hs, hg]
  have hold : ¬ s.core.report.isNone = true := by simp [hr]
  simp only [State.foremanGReady, if_neg hgo, if_neg hold]
  obtain ⟨b, h⟩ := restartReport_core (bitAt_setReady (s.onCore fun c => { c with gAnswers := true }) 2 true (by decide))
  exact ⟨b, by rw [h, setReady_core]; rfl⟩

/-! ### Self-tests -/

/-- An Awl port that passes is ready (R128, R529). -/
theorem engineTest_awl_pass {s : State} {n : Nat} (hn : n < 64) (hup : s.core.up = true) :
    (s.engineTest n true).core.readyAwl = s.core.readyAwl ||| BitVec.ofNat 64 (2 ^ n) := by
  have hgo : ¬ (128 ≤ n ∨ (!s.core.up) = true) := by simp [hup]; omega
  simp only [State.engineTest, if_neg hgo, if_true, if_pos hn, Nat.mod_eq_of_lt hn]
  rw [postReady_core]
  rfl

/-- A two-wire port that passes is ready (R128, R529). -/
theorem engineTest_tw_pass {s : State} {n : Nat} (hn : n < 64) (hup : s.core.up = true) :
    (s.engineTest (64 + n) true).core.readyBkl = s.core.readyBkl ||| BitVec.ofNat 64 (2 ^ n) := by
  have hgo : ¬ (128 ≤ 64 + n ∨ (!s.core.up) = true) := by simp [hup]; omega
  have hport : (64 + n) % 64 = n := by omega
  simp only [State.engineTest, if_neg hgo, if_true, if_neg (show ¬ 64 + n < 64 by omega), hport]
  rw [postReady_core]
  rfl

/-- An Awl port that fails is held off: MODE 0 (R128, R531). -/
theorem engineTest_awl_fail {s : State} {n : Nat} (hn : n < 64) (hup : s.core.up = true) : (s.engineTest n false).awl n = { s.awl n with
    selfTest := true, cfg := (s.awl n).cfg &&& ~~~3, cfgReg := (s.awl n).cfgReg &&& ~~~3, life := .off } := by
  have hgo : ¬ (128 ≤ n ∨ (!s.core.up) = true) := by simp [hup]; omega
  simp only [State.engineTest, if_neg hgo, Bool.false_eq_true, if_false, if_pos hn]
  rw [selftestRecord_awl]
  simp [State.onAwl, State.awl, hn]

/-- Clearing the two lowest bits leaves MODE 0. -/
theorem bitsAt_and_not3 (w : Word) : bitsAt (w &&& ~~~3).toNat 0 2 = 0 := by
  have hmask : bitsAt (~~~3 : Word).toNat 0 2 = 0 := by decide
  rw [BitVec.toNat_and, bitsAt_and, hmask, Nat.and_zero]

/-- The banks, the trace ring and unit 2 passing, the store is ready (R221, R529). -/
theorem storeTest_pass {s : State} (hup : s.core.up = true) (hunit : bitAt s.stitch.failed.toNat 2 = false) :
    bitAt (s.storeTest true true true).core.ready.toNat 3 = true := by
  have hgo : ¬ (!s.core.up) = true := by simp [hup]
  have hpass : (true && true && !bitAt (s.stitchSelftest 2 true).stitch.failed.toNat 2) = true := by
    simp [stitchSelftest_failed, hunit]
  simp only [State.storeTest, if_neg hgo, if_pos hpass]
  exact bitAt_setReady _ 3 true (by decide)

/-! ### The commands -/

theorem exec_beamDieResetExit (s : State) (t roleSel slot : Nat) :
    exec (.beamDieResetExit t roleSel slot) s = .next (((s.advance t).beamExit roleSel slot).keeping (s.advance t)) := rfl

section
variable {s : State} (t : Nat) (hup : s.core.up = true)
include hup

theorem exec_firmwareVerified : exec (.firmwareVerified t) s = .next ((s.advance t).firmwareVerified.keeping (s.advance t)) :=
  onBeam_next t s State.firmwareVerified hup

theorem exec_foremanGReady : exec (.foremanGReady t) s = .next ((s.advance t).foremanGReady.keeping (s.advance t)) :=
  onBeam_next t s State.foremanGReady hup

theorem exec_engineSelftestDone (port : Nat) (pass : Bool) :
    exec (.engineSelftestDone t port pass) s = .next (((s.advance t).engineTest port pass).keeping (s.advance t)) :=
  onBeam_next t s (State.engineTest · port pass) hup

theorem exec_storeSelftestDone (banks trace unit2 : Bool) :
    exec (.storeSelftestDone t banks trace unit2) s = .next (((s.advance t).storeTest banks trace unit2).keeping (s.advance t)) :=
  onBeam_next t s (State.storeTest · banks trace unit2) hup

theorem exec_stitchSelftestDone (unit : Nat) (pass : Bool) :
    exec (.stitchSelftestDone t unit pass) s = .next (((s.advance t).stitchSelftest unit pass).keeping (s.advance t)) :=
  onBeam_next t s (State.stitchSelftest · unit pass) hup

end

/-- Settles O52: each start-up command by what its operation leaves, FIRMWARE_VERIFIED split by whether there is an image
to boot. -/
theorem beamBoots : Obligations.BeamBoots := by
  refine ⟨fun s t => ⟨fun roleSel slot hup hrails hcinch => ?exit, fun hup hs => ?verified, fun hup hs hg hr => ?gReady⟩,
    fun s t n hn hup => ⟨?awlPass, ?twPass, ?awlFail, fun hunit => ?store, fun unit hu => ?stitch⟩⟩
  case exit => exact ⟨_, exec_beamDieResetExit s t roleSel slot, beamExit_booted (s.advance t) roleSel slot hup hrails hcinch⟩
  case verified =>
    refine ⟨_, exec_firmwareVerified t hup, ?_⟩
    cases hc : s.bootChoice.1 with
    | none =>
      obtain ⟨hready, hfw⟩ := firmwareVerified_rom (s := s.advance t) hup hs hc
      simp [hready, hfw]
    | some c =>
      obtain ⟨k, fb⟩ := c
      obtain ⟨hready, hfw⟩ := firmwareVerified_image (s := s.advance t) hup hs hc
      rw [State.keeping_core, State.keeping_fw, hready, hfw]
      refine ⟨rfl, rfl, ?_, rfl, rfl, rfl⟩
      rintro _ _ ⟨⟩
      exact ⟨rfl, rfl, rfl⟩
  case gReady =>
    obtain ⟨b, h⟩ := foremanGReady_core (s := s.advance t) hup hs hg hr
    refine ⟨_, exec_foremanGReady t hup, ?_⟩
    rw [State.keeping_core, h]
    exact ⟨by rw [bitAt_ofNat _ (by decide), bitAt_setBit_same], rfl, rfl⟩
  case awlPass => exact ⟨_, exec_engineSelftestDone t hup n true, engineTest_awl_pass (s := s.advance t) hn hup⟩
  case twPass => exact ⟨_, exec_engineSelftestDone t hup (64 + n) true, engineTest_tw_pass (s := s.advance t) hn hup⟩
  case awlFail =>
    refine ⟨_, exec_engineSelftestDone t hup n false, ?_⟩
    rw [keeping_awl, engineTest_awl_fail (s := s.advance t) hn hup]
    exact ⟨rfl, bitsAt_and_not3 _, rfl⟩
  case store => exact ⟨_, exec_storeSelftestDone t hup true true true, storeTest_pass (s := s.advance t) hup hunit⟩
  case stitch => exact ⟨_, exec_stitchSelftestDone t hup unit false, stitchSelftest_failed (s := s.advance t) hu false⟩

end Sys2Proof.Machine
end

section
/-! Register accesses by address: the port registers' own writes, the clearing reads, and accesses that are not
aligned 32-bit ones. -/
namespace Sys2Proof.Machine

/-! ### The writes of the port registers -/

section
variable {s : State} (t : Nat) {n : Nat} (v : Word) (hup : s.core.up = true) (hr : s.isWorker = false)
include hup hr

theorem exec_ptMapSelWrite : exec (.ptMapSelWrite t v) s = .next (((s.advance t).writeMapSel v).keeping (s.advance t)) := by
  have hw := hostWrite_pt (s.advance t) (o := 0x124) (by decide) (by decide) hr v
  simp only [exec, execPtMapSelWrite]
  rw [onBeam_next t s _ hup, hw]
  rfl

theorem exec_ptPgrpWrite {i : Nat} (hi : i < 32) :
    exec (.ptPgrpWrite t i v) s = .next (((s.advance t).writePgrp i v).keeping (s.advance t)) := by
  simp only [exec, execPtPgrpWrite]
  rw [onBeam_next t s _ hup, if_pos hi, hostWrite_pt (s.advance t) (by omega) (by omega) hr, writePt_pgrp _ hi]

theorem exec_ptAwlCfgWrite (hn : n < 64) :
    exec (.ptAwlCfgWrite t n v) s = .next (((s.advance t).writeAwlCfg n v).keeping (s.advance t)) := by
  have haddr : 0x5400 + 16 * n = 0x5000 + (0x400 + 4 * (4 * n + 0)) := by omega
  simp only [exec, execPtAwlCfgWrite]
  rw [onBeam_next t s _ hup, if_pos hn, haddr, hostWrite_pt (s.advance t) (by omega) (by omega) hr, writePt_awl _ hn (by decide)]
  rfl

theorem exec_ptAwlSentWrite (hn : n < 64) :
    exec (.ptAwlSentWrite t n v) s = .next (((s.advance t).writeAwlSent n v).keeping (s.advance t)) := by
  have haddr : 0x540C + 16 * n = 0x5000 + (0x400 + 4 * (4 * n + 3)) := by omega
  simp only [exec, execPtAwlSentWrite]
  rw [onBeam_next t s _ hup, if_pos hn, haddr, hostWrite_pt (s.advance t) (by omega) (by omega) hr, writePt_awl _ hn (by decide)]
  rfl

theorem exec_ptTwCfgWrite (hn : n < 64) :
    exec (.ptTwCfgWrite t n v) s = .next (((s.advance t).writeTwCfg n v).keeping (s.advance t)) := by
  have haddr : 0x5C00 + 16 * n = 0x5000 + (0xC00 + 4 * (4 * n + 0)) := by omega
  simp only [exec, execPtTwCfgWrite]
  rw [onBeam_next t s _ hup, if_pos hn, haddr, hostWrite_pt (s.advance t) (by omega) (by omega) hr, writePt_tw _ hn (by decide)]
  rfl

end

/-- PT_MAP_SEL reads back N and POSITION as written (R171). -/
theorem writeMapSel_mapSel (s : State) (v : Word) :
    (s.writeMapSel v).ports.mapSel = pack [(0, bitsAt v.toNat 0 6), (8, bitsAt v.toNat 8 7)] := rfl

/-- PT_PGRPi takes its eight fields; the value in force waits for a boundary (R292). -/
theorem writePgrp_scr (s : State) (i : Nat) (v : Word) :
    tget 0 (s.writePgrp i v).scr.pgrpReg i = v &&& 0x8F8F8F8F ∧ (s.writePgrp i v).scr.pgrp = s.scr.pgrp := by
  simp [State.writePgrp]

/-- The MODE field of a port that passed its self-test takes the values up to `b` (R128). -/
theorem takesRow_mode (lo n b : Nat) {failed : Bool} (hf : failed = false) :
    FieldSpec.takesRow (lo, n, fun x => decide (x ≤ b) && !failed) (lo, n, 0, b) :=
  ⟨rfl, rfl, fun x _ => by simp [hf]⟩

theorem writeAwlCfg_mode (s : State) {n : Nat} (hn : n < 64) (v : Word) (hv : bitsAt v.toNat 0 2 ≤ 2) (hf : (s.awl n).selfTest = false) :
    bitsAt ((s.writeAwlCfg n v).awl n).cfgReg.toNat 0 2 = bitsAt v.toNat 0 2 := by
  rw [writeAwlCfg_awl s hn]
  exact (bitsAt_takeFields_row _ v (by simp [FieldSpec.below]) List.mem_cons_self (takesRow_mode 0 2 2 hf) (by decide)).trans
    (if_pos ⟨Nat.zero_le _, hv⟩)

theorem writeAwlSent_fields (s : State) {n : Nat} (hn : n < 64) (v : Word) :
    ∀ f ∈ ([(0, 3, 1, 6), (3, 1, 0, 1), (4, 1, 0, 1), (5, 2, 0, 2), (7, 3, 0, 4), (10, 6, 0, 63), (16, 5, 0, 31), (21, 7, 3, 90)] :
        List (Nat × Nat × Nat × Nat)), bitsAt ((s.writeAwlSent n v).awl n).sentReg.toNat f.1 f.2.1 =
      if f.2.2.1 ≤ bitsAt v.toNat f.1 f.2.1 ∧ bitsAt v.toNat f.1 f.2.1 ≤ f.2.2.2 then bitsAt v.toNat f.1 f.2.1
      else bitsAt (s.awl n).sentReg.toNat f.1 f.2.1 := by
  rw [writeAwlSent_awl s hn]
  refine bitsAt_takeFields_rows _ v (by simp [FieldSpec.below]) (List.Subset.refl _) ?_ (by decide)
  exact ⟨takesRow_range .., takesRow_any 3 1, takesRow_any 4 1, takesRow_range .., takesRow_range .., takesRow_any 10 6,
    takesRow_any 16 5, takesRow_range .., trivial⟩

theorem writeTwCfg_mode (s : State) {m : Nat} (hm : m < 64) (v : Word) (hf : (s.tw m).selfTest = false) :
    bitsAt ((s.writeTwCfg m v).tw m).cfgReg.toNat 0 2 =
      if 0 ≤ bitsAt v.toNat 0 2 ∧ bitsAt v.toNat 0 2 ≤ 1 then bitsAt v.toNat 0 2 else bitsAt (s.tw m).cfgReg.toNat 0 2 := by
  rw [writeTwCfg_tw s hm]
  exact bitsAt_takeFields_row _ v (by simp [FieldSpec.below]) List.mem_cons_self (takesRow_mode 0 2 1 hf) (by decide)

theorem writeTwCfg_fields (s : State) {m : Nat} (hm : m < 64) (v : Word) :
    ∀ f ∈ ([(2, 2, 0, 2), (4, 5, 0, 31), (9, 6, 25, 35), (15, 1, 0, 1), (16, 7, 0, 127), (23, 1, 0, 1), (24, 4, 1, 15)] :
        List (Nat × Nat × Nat × Nat)), bitsAt ((s.writeTwCfg m v).tw m).cfgReg.toNat f.1 f.2.1 =
      if f.2.2.1 ≤ bitsAt v.toNat f.1 f.2.1 ∧ bitsAt v.toNat f.1 f.2.1 ≤ f.2.2.2 then bitsAt v.toNat f.1 f.2.1
      else bitsAt (s.tw m).cfgReg.toNat f.1 f.2.1 := by
  rw [writeTwCfg_tw s hm]
  refine bitsAt_takeFields_rows _ v (by simp [FieldSpec.below]) (List.subset_cons_self _ _) ?_ (by decide)
  exact ⟨takesRow_range .., takesRow_any 4 5, takesRow_range .., takesRow_any 15 1, takesRow_any 16 7, takesRow_any 23 1,
    takesRow_range .., trivial⟩

/-! ### Clearing reads and writes by address -/

/-- While no ship write has ended there is none to settle. -/
theorem settleShip_none {s : State} (h : s.ports.shipResult = none) (fuel : Nat) : s.settleShip fuel = s := by
  cases fuel with
  | zero => rfl
  | succ k => simp only [State.settleShip, h]

theorem hostRead_aligned (s : State) {off : Nat} (h : off % 4 = 0) :
    s.hostRead off 4 = { s.readEffect off with lastRead := s.readReg off } := if_pos ⟨rfl, h⟩

theorem hostRead_other (s : State) {off size : Nat} (h : size ≠ 4 ∨ off % 4 ≠ 0) : s.hostRead off size = { s with lastRead := 0 } :=
  if_neg fun ⟨h1, h2⟩ => h.elim (· h1) (· h2)

theorem hostWrite_other (s : State) {off size : Nat} (h : size ≠ 4 ∨ off % 4 ≠ 0) (v : Word) : s.hostWrite off size v = s :=
  if_neg fun ⟨h1, h2, _⟩ => h.elim (· h1) (· h2)

/-! The two counter registers and PW_OFFS_A: what the access returns, and what it leaves (R66, R523). -/

theorem readReg_phaseCounters (s : State) : s.readReg 0x4038 = pack [(0, s.wheel.steps.toNat), (16, s.wheel.holds.toNat)] := rfl

theorem readEffect_phaseCounters (s : State) : s.readEffect 0x4038 = { s with wheel := { s.wheel with steps := 0, holds := 0 } } := rfl

theorem readReg_cinchCounters (s : State) : s.readReg 0x7024 = pack [(0, s.cinch.halterTrip.toNat), (8, s.cinch.limitEntries.toNat),
    (16, s.cinch.modelLowCnt.toNat), (24, s.cinch.gateFs.toNat)] := rfl

theorem readEffect_cinchCounters (s : State) : s.readEffect 0x7024 = { s with
    cinch := { s.cinch with halterTrip := 0, limitEntries := 0, modelLowCnt := 0, gateFs := 0 } } := rfl

theorem hostWrite_offset (s : State) (hr : s.isWorker = false) (v : Word) :
    s.hostWrite 0x400C 4 v = { s with wheel := { s.wheel with a := { s.wheel.a with offset := v.setWidth 16 } } } :=
  if_pos ⟨rfl, rfl, by simp [State.hostMay, hr]⟩

section
variable {s : State} (t : Nat) (hup : s.core.up = true)
include hup

/-- A read has its effect, which touches neither queue, clock nor fuses. -/
theorem exec_counterReadClear {off size : Nat} {r : State} (hread : (s.advance t).hostRead off size = r)
    (hkeep : r.keeping (s.advance t) = r) : exec (.counterReadClear t off size) s = .next r := by
  simp only [exec, execCounterReadClear]
  rw [onBeam_next t s _ hup, hread, hkeep]

/-- A write has its effect, which touches neither queue, clock nor fuses, and ends no ship write. -/
theorem exec_registerWrite {off size : Nat} {v : Word} {r : State} (hwrite : (s.advance t).hostWrite off size v = r)
    (hkeep : r.keeping (s.advance t) = r) (hship : r.ports.shipResult = none) : exec (.registerWrite t off size v) s = .next r := by
  simp only [exec, execRegisterWrite]
  rw [onBeam_next t s _ hup, hwrite, settleShip_none hship, hkeep]

end

/-- Settles O60: each register write by the fields it takes, each access by address by its size and alignment. -/
theorem registerAccesses : Obligations.RegisterAccesses := by
  refine ⟨fun s t n v hup hr hn => ⟨?mapSel, fun i hi => ?pgrp, ?awlCfg, ?awlSent, ?twCfg⟩,
    fun s t v hup => ⟨?phaseCounters, ?cinchCounters, fun off size h => ?readOther, fun off size h hship => ?writeOther,
      fun hship hr => ?offset⟩⟩
  case mapSel => exact ⟨_, exec_ptMapSelWrite t v hup hr, writeMapSel_mapSel _ v⟩
  case pgrp => exact ⟨_, exec_ptPgrpWrite t v hup hr hi, writePgrp_scr _ i v⟩
  case awlCfg =>
    refine ⟨_, exec_ptAwlCfgWrite t v hup hr hn, ?_, writeAwlCfg_mode (s.advance t) hn v⟩
    rw [keeping_awl, writeAwlCfg_awl _ hn, advance_awl]
  case awlSent =>
    refine ⟨_, exec_ptAwlSentWrite t v hup hr hn, ?_, ?_, writeAwlSent_fields _ hn v⟩ <;>
      rw [keeping_awl, writeAwlSent_awl _ hn, advance_awl]
  case twCfg =>
    refine ⟨_, exec_ptTwCfgWrite t v hup hr hn, ?_, ?_, writeTwCfg_mode (s.advance t) hn v, writeTwCfg_fields _ hn v⟩ <;>
      rw [keeping_tw, writeTwCfg_tw _ hn, advance_tw]
  case phaseCounters =>
    refine exec_counterReadClear t hup ((hostRead_aligned _ (by decide)).trans ?_) rfl
    rw [readReg_phaseCounters, readEffect_phaseCounters]
    rfl
  case cinchCounters =>
    refine exec_counterReadClear t hup ((hostRead_aligned _ (by decide)).trans ?_) rfl
    rw [readReg_cinchCounters, readReg_cinchCounters, readEffect_cinchCounters]
    rfl
  case readOther => exact exec_counterReadClear t hup (hostRead_other _ h) rfl
  case writeOther => exact exec_registerWrite t hup (hostWrite_other _ h v) rfl hship
  case offset => exact exec_registerWrite t hup (hostWrite_offset (s.advance t) hr v) rfl hship

end Sys2Proof.Machine
end

section
/-! SUPPORT. Jobs as they start and end (R358, R369, R371, R379): the job of a slot after an update, what a completion
leaves of the other jobs, and that a completed job's end stands. -/
namespace Sys2Proof.Machine

/-! ### One job of the state -/

theorem job?_of_jobs {r s : State} (h : r.link.jobs = s.link.jobs) (slot : Nat) : r.job? slot = s.job? slot := by
  rw [State.job?, h, State.job?]

theorem hasEnded_of_jobs {r s : State} (h : r.link.jobs = s.link.jobs) {slot status : Nat} (hs : s.hasEnded slot status) :
    r.hasEnded slot status := by
  rwa [State.hasEnded, job?_of_jobs h]

theorem job?_slot {s : State} {slot : Nat} {j : Job} (h : s.job? slot = some j) : j.slot = slot := by
  simpa using List.find?_some h

theorem job?_onJob (s : State) (slot a : Nat) {f : Job → Job} (hf : ∀ j, (f j).slot = j.slot) :
    (s.onJob a f).job? slot = (s.job? slot).map fun j => if j.slot = a then f j else j := by
  have slots : (fun j => decide (j.slot = slot)) ∘ (fun j => if j.slot = a then f j else j) = fun j => decide (j.slot = slot) := by
    funext j
    by_cases h : j.slot = a <;> simp [h, hf]
  simp only [State.job?, State.onJob, State.onLink, List.find?_map, slots]

theorem job?_onJob_same {s : State} {slot : Nat} {j : Job} (hj : s.job? slot = some j) (f : Job → Job) (hf : ∀ j, (f j).slot = j.slot) :
    (s.onJob slot f).job? slot = some (f j) := by
  rw [job?_onJob s slot slot hf, hj, Option.map_some, if_pos (job?_slot hj)]

theorem job?_onJob_other {s : State} {slot a : Nat} {j : Job} (hj : s.job? slot = some j) (h : slot ≠ a) (f : Job → Job)
    (hf : ∀ j, (f j).slot = j.slot) : (s.onJob a f).job? slot = some j := by
  rw [job?_onJob s slot a hf, hj, Option.map_some, if_neg (job?_slot hj ▸ h)]

theorem job?_dropJob_other (s : State) {slot a : Nat} (h : slot ≠ a) : (s.dropJob a).job? slot = s.job? slot := by
  simp only [State.job?, State.dropJob, State.onLink, List.find?_filter]
  congr 1
  funext j
  by_cases hj : j.slot = slot <;> simp [hj, h]

/-! ### Completions -/

@[simp] theorem onQueue_jobs (s : State) (q : Nat) (f : EvQueue → EvQueue) : (s.onQueue q f).link.jobs = s.link.jobs := by
  unfold State.onQueue
  split <;> rfl

@[simp] theorem signalPme_jobs (s : State) : s.signalPme.link.jobs = s.link.jobs := by
  unfold State.signalPme
  split
  · rfl
  · split
    · rfl
    · split <;> rfl

@[simp] theorem postCompletion_jobs (s : State) (w0 : Word) (slot : Option Nat) (status detail : Nat) (payload : List Byte) :
    (s.postCompletion w0 slot status detail payload).link.jobs = s.link.jobs := by
  simp [State.postCompletion]

@[simp] theorem countRun_link (s : State) (opcode : Nat) : (s.countRun opcode).link = s.link := by
  unfold State.countRun
  split <;> rfl

section
variable {s : State} {slot : Nat}

/-- A job that is neither posted nor draining ends with the status it is given. -/
theorem finishOne_hasEnded {j : Job} (hslot : slot < 512) (hj : s.job? slot = some j) (hpost : j.posted = false)
    (hdrain : j.draining = false) (status detail : Nat) (payload : List Byte) :
    (s.finishOne slot status detail payload).hasEnded slot status := by
  simp only [State.finishOne, hj, hpost, hdrain, Bool.false_eq_true, if_false, if_neg (Nat.not_le.2 hslot)]
  refine ⟨{ j with posted := true, status := status }, ?_, rfl, rfl⟩
  have hcount : (s.countRun j.opcode).job? slot = some j := (job?_of_jobs (by rw [countRun_link]) slot).trans hj
  exact (job?_of_jobs (postCompletion_jobs ..) slot).trans (job?_onJob_same hcount _ fun _ => rfl)

/-- The completion of any slot leaves a job that has ended as it is. -/
theorem finishOne_keeps_hasEnded {st : Nat} (h : s.hasEnded slot st) (a status detail : Nat) (payload : List Byte) :
    (s.finishOne a status detail payload).hasEnded slot st := by
  obtain ⟨j, hj, hpost, hst⟩ := h
  unfold State.finishOne
  split
  · exact ⟨j, hj, hpost, hst⟩
  next k hk =>
    split
    · exact ⟨j, hj, hpost, hst⟩
    next hopen =>
      have hother : slot ≠ a := by
        rintro rfl
        cases hj.symm.trans hk
        exact hopen hpost
      have hcount : (s.countRun k.opcode).job? slot = some j := (job?_of_jobs (by rw [countRun_link]) slot).trans hj
      refine ⟨j, ?_, hpost, hst⟩
      dsimp only
      split
      · rw [job?_dropJob_other _ hother, hcount]
      · split
        · exact (job?_dropJob_other _ hother).trans hcount
        · exact (job?_of_jobs (postCompletion_jobs ..) slot).trans (job?_onJob_other hcount hother _ fun _ => rfl)

/-- A job that is neither posted nor draining has ended with its status once it is completed, whatever ABORTs named it. -/
theorem complete_hasEnded {j : Job} (hslot : slot < 512) (hj : s.job? slot = some j) (hpost : j.posted = false)
    (hdrain : j.draining = false) (status : Nat) (payload : List Byte := []) (detail : Nat := 0) :
    (s.complete slot status payload detail).hasEnded slot status := by
  simp only [State.complete, hj]
  exact List.foldlRecOn (motive := fun r : State => r.hasEnded slot status) _ _ (finishOne_hasEnded hslot hj hpost hdrain ..)
    fun r hr a _ => finishOne_keeps_hasEnded hr ..

end

section
variable (s : State) (slot status : Nat) (payload : List Byte) (detail : Nat)

@[simp] theorem complete_ports : (s.complete slot status payload detail).ports = s.ports := by
  obtain ⟨l, c, n, h⟩ := complete_parts s slot status payload detail
  rw [h]

@[simp] theorem complete_tally : (s.complete slot status payload detail).tally = s.tally := by
  obtain ⟨l, c, n, h⟩ := complete_parts s slot status payload detail
  rw [h]

/-- A field job fails by its completion. -/
theorem failWire_complete : s.failWire slot status detail = s ∨ ∃ pl, s.failWire slot status detail = s.complete slot status pl detail := by
  unfold State.failWire
  split
  · exact .inl rfl
  · exact .inr ⟨_, rfl⟩

@[simp] theorem failWire_ports : (s.failWire slot status detail).ports = s.ports := by
  rcases failWire_complete s slot status detail with h | ⟨pl, h⟩ <;> simp [h]

@[simp] theorem failWire_tally : (s.failWire slot status detail).tally = s.tally := by
  rcases failWire_complete s slot status detail with h | ⟨pl, h⟩ <;> simp [h]

end

/-! ### A job that may start -/

theorem startable_job? {s : State} {slot op : Nat} {j : Job} (h : s.startable slot op = some j) :
    s.job? slot = some j ∧ j.posted = false ∧ j.draining = false := by
  unfold State.startable at h
  split at h
  next k hk =>
    split at h
    next hgo =>
      cases h
      simp only [Bool.and_eq_true, Bool.not_eq_true'] at hgo
      obtain ⟨⟨⟨-, hpost⟩, hdrain⟩, -⟩ := hgo
      exact ⟨hk, hpost, hdrain⟩
    · cases h
  · cases h

/-- The job of a slot starts. -/
def State.begin (s : State) (slot : Nat) : State := s.onJob slot fun j => { j with started := true }

section
variable {s : State} {slot op : Nat} {j : Job} (h : s.startable slot op = some j)
include h

theorem begin_job? : (s.begin slot).job? slot = some { j with started := true } := by
  obtain ⟨hj, -, -⟩ := startable_job? h
  exact job?_onJob_same hj _ fun _ => rfl

/-- A job that could start, completed in a state that holds its start, has ended. -/
theorem begin_complete_hasEnded {r : State} (hr : r.link.jobs = (s.begin slot).link.jobs) (hslot : slot < 512) (status : Nat) :
    (r.complete slot status).hasEnded slot status := by
  obtain ⟨-, hpost, hdrain⟩ := startable_job? h
  exact complete_hasEnded hslot ((job?_of_jobs hr slot).trans (begin_job? h)) (by exact hpost) (by exact hdrain) status

end

end Sys2Proof.Machine
end

section
/-! SUPPORT. What a reading reaches (R213 to R215, R263, R306): the courses, the Scriber's counters, the readings kept
early and the Buckle counters, and nothing else of the state. -/
namespace Sys2Proof.Machine

/-- `r` differs from `s` at most in what a reading reaches. -/
def State.sameButReadings (r s : State) : Prop :=
  ∃ k c e b x, r = { s with tack := k, scr := c, ports := { s.ports with early := e, bklCtr := b, bklErr := x } }

theorem sameButReadings_refl (s : State) : s.sameButReadings s := ⟨s.tack, s.scr, s.ports.early, s.ports.bklCtr, s.ports.bklErr, rfl⟩

theorem sameButReadings_trans {q r s : State} (h1 : q.sameButReadings r) (h2 : r.sameButReadings s) : q.sameButReadings s := by
  obtain ⟨_, _, _, _, _, rfl⟩ := h2
  obtain ⟨k, c, e, b, x, rfl⟩ := h1
  exact ⟨k, c, e, b, x, rfl⟩

theorem foldl_sameButReadings {α : Type} {f : State → α → State} (hf : ∀ r a, (f r a).sameButReadings r) (s : State) (l : List α) :
    (l.foldl f s).sameButReadings s :=
  List.foldlRecOn (motive := (State.sameButReadings · s)) l f (sameButReadings_refl s) fun r hr a _ => sameButReadings_trans (hf r a) hr

theorem sameButReadings_tally {r s : State} (h : r.sameButReadings s) : r.tally = s.tally := by
  obtain ⟨_, _, _, _, _, rfl⟩ := h
  rfl

theorem onTack_sameButReadings (s : State) (f : Tack → Tack) : (s.onTack f).sameButReadings s := ⟨_, _, _, _, _, rfl⟩

theorem onScr_sameButReadings (s : State) (f : Scriber → Scriber) : (s.onScr f).sameButReadings s := ⟨_, _, _, _, _, rfl⟩

theorem keepEarly_sameButReadings (s : State) (e : Early) : (s.keepEarly e).sameButReadings s := ⟨_, _, _, _, _, rfl⟩

theorem bklCount_sameButReadings (s : State) (m i : Nat) : (s.bklCount m i).sameButReadings s := ⟨_, _, _, _, _, rfl⟩

theorem onCourse_sameButReadings (s : State) (c : Nat) (f : Course → Course) : (s.onCourse c f).sameButReadings s := by
  unfold State.onCourse
  split
  · exact onTack_sameButReadings s _
  · exact sameButReadings_refl s

theorem setRec_sameButReadings (s : State) (k : Nat) (x : Rec) : (s.setRec k x).sameButReadings s := by
  unfold State.setRec
  split
  · exact onTack_sameButReadings s _
  · exact sameButReadings_refl s

/-- A record that is written to its bank beside a note in its course. -/
theorem setRec_onCourse_sameButReadings (s : State) (k : Nat) (x : Rec) (c : Nat) (f : Course → Course) :
    ((s.setRec k x).onCourse c f).sameButReadings s :=
  sameButReadings_trans (onCourse_sameButReadings _ c f) (setRec_sameButReadings s k x)

theorem captureIn_sameButReadings (s : State) (c angle count p : Nat) (value : Word) (inst2 : Int) (flags : Nat) :
    (s.captureIn c angle count p value inst2 flags).sameButReadings s := by
  simp only [State.captureIn]
  split
  · exact sameButReadings_refl s
  · split
    · exact sameButReadings_refl s
    · split
      · exact sameButReadings_refl s
      · split
        · exact setRec_onCourse_sameButReadings ..
        · split
          · exact sameButReadings_refl s
          · exact setRec_onCourse_sameButReadings ..

theorem deliverTo_sameButReadings (s : State) (cs : List Nat) (counts : Bool) (angle count p : Nat) (r : Reading) (interp : Bool) :
    (s.deliverTo cs counts angle count p r interp).sameButReadings s := by
  simp only [State.deliverTo]
  refine sameButReadings_trans (foldl_sameButReadings (fun r c => ?_) _ _) ?_
  · split
    · exact sameButReadings_trans (onCourse_sameButReadings ..) (captureIn_sameButReadings ..)
    · exact sameButReadings_refl r
  · split
    · exact onScr_sameButReadings s _
    · exact sameButReadings_refl s

theorem resolveIn_sameButReadings (s : State) (c angle count p : Nat) : (s.resolveIn c angle count p).sameButReadings s := by
  simp only [State.resolveIn]
  split
  · exact onCourse_sameButReadings ..
  · split
    · exact sameButReadings_trans (onCourse_sameButReadings ..) (onCourse_sameButReadings ..)
    · exact onCourse_sameButReadings ..

theorem resolvePoint_sameButReadings (s : State) (angle count p : Nat) : (s.resolvePoint angle count p).sameButReadings s :=
  foldl_sameButReadings (fun r c => resolveIn_sameButReadings r c angle count p) s courseNumbers

theorem readNearest_sameButReadings (s : State) (angle count p : Nat) (r : Option Reading) :
    (s.readNearest angle count p r).sameButReadings s := by
  unfold State.readNearest
  split
  · split
    · exact deliverTo_sameButReadings ..
    · exact resolvePoint_sameButReadings ..
  · exact keepEarly_sameButReadings ..

theorem bracketResolve_sameButReadings (s : State) (angle count p : Nat) (b a : Option Reading) :
    (s.bracketResolve angle count p b a).sameButReadings s := by
  unfold State.bracketResolve
  extract_lets free fall
  have freed : free.sameButReadings s := ⟨_, _, _, _, _, rfl⟩
  have fallen : (fall free).sameButReadings s := by
    unfold fall
    split
    · exact sameButReadings_trans (bklCount_sameButReadings ..) freed
    · exact freed
  clear_value free fall
  split
  · extract_lets v pick
    split
    · split
      · exact sameButReadings_trans (resolvePoint_sameButReadings ..) (sameButReadings_trans (onScr_sameButReadings ..) freed)
      · exact sameButReadings_trans (deliverTo_sameButReadings ..) freed
    · exact sameButReadings_trans (deliverTo_sameButReadings ..) fallen
  · exact sameButReadings_trans (deliverTo_sameButReadings ..) fallen
  · exact sameButReadings_trans (deliverTo_sameButReadings ..) fallen
  · exact sameButReadings_trans (resolvePoint_sameButReadings ..) fallen

/-- A reading, or none, handed to its point by any policy. -/
theorem feedPoint_sameButReadings (s : State) (policy angle count p : Nat) (r : Option Reading) :
    (s.feedPoint policy angle count p r).sameButReadings s := by
  unfold State.feedPoint
  split
  · exact keepEarly_sameButReadings ..
  · exact bracketResolve_sameButReadings ..
  · exact readNearest_sameButReadings ..

theorem underStrike_sameButReadings {f : State → State} (hf : ∀ r, (f r).sameButReadings r) (s : State) (cycle : Nat) :
    (s.underStrike cycle f).sameButReadings s := by
  unfold State.underStrike
  split
  next v _ =>
    obtain ⟨k, c, e, b, x, h⟩ := hf { s with tab := { s.tab with points := v.points, coefs := v.coefs, marks := v.marks } }
    rw [h]
    exact ⟨k, c, e, b, x, rfl⟩
  · exact hf s

theorem failEntry_sameButReadings (s : State) (e : CutEntry) (count : Nat) : (s.failEntry e count).sameButReadings s :=
  underStrike_sameButReadings (fun r => foldl_sameButReadings (fun q p => feedPoint_sameButReadings q _ _ _ p none) r e.points) s count

@[simp] theorem failEntry_tally (s : State) (e : CutEntry) (count : Nat) : (s.failEntry e count).tally = s.tally :=
  sameButReadings_tally (failEntry_sameButReadings s e count)

end Sys2Proof.Machine
end

section
/-! SUPPORT. What fencing and searching do to the port (R134, R150, R157 to R161): its life and cause, and what the work
that they cut off leaves unchanged. -/
namespace Sys2Proof.Machine

/-! ### One port of the state -/

@[simp] theorem awl_onTw (s : State) (m : Nat) (f : TwPort → TwPort) (n : Nat) : (s.onTw m f).awl n = s.awl n := by
  unfold State.onTw
  split <;> rfl

@[simp] theorem awl_onPortQ (s : State) (p : Nat) (f : PortQueue → PortQueue) (n : Nat) : (s.onPortQ p f).awl n = s.awl n := by
  unfold State.onPortQ
  split <;> rfl

@[simp] theorem onAwl_tally (s : State) (n : Nat) (f : AwlPort → AwlPort) : (s.onAwl n f).tally = s.tally := by
  unfold State.onAwl
  split <;> rfl

@[simp] theorem onTw_tally (s : State) (m : Nat) (f : TwPort → TwPort) : (s.onTw m f).tally = s.tally := by
  unfold State.onTw
  split <;> rfl

@[simp] theorem onPortQ_tally (s : State) (p : Nat) (f : PortQueue → PortQueue) : (s.onPortQ p f).tally = s.tally := by
  unfold State.onPortQ
  split <;> rfl

@[simp] theorem onAwl_link (s : State) (n : Nat) (f : AwlPort → AwlPort) : (s.onAwl n f).link = s.link := by
  unfold State.onAwl
  split <;> rfl

@[simp] theorem post_ports (s : State) (code src : Nat) (payload : List Byte) (status : Nat) :
    (s.post code src payload status).ports = s.ports := by
  obtain ⟨l, h⟩ := post_link s code src payload status
  rw [h]

@[simp] theorem post_tally (s : State) (code src : Nat) (payload : List Byte) (status : Nat) :
    (s.post code src payload status).tally = s.tally := by
  obtain ⟨l, h⟩ := post_link s code src payload status
  rw [h]

@[simp] theorem compilePlain_tally (s : State) : s.compilePlain.tally = s.tally := by
  obtain ⟨c, h⟩ := requestCompile_scr s .plain
  rw [State.compilePlain, h]

/-! ### The work a fence ends (R158) -/

@[simp] theorem countAttempt_tally (s : State) (use : AwlUse) : (s.countAttempt use).tally = s.tally := by
  unfold State.countAttempt
  split <;> rfl

@[simp] theorem cutOffAwl_tally (s : State) (n status : Nat) : (s.cutOffAwl n status).tally = s.tally := by
  simp only [State.cutOffAwl, onAwl_tally]
  refine List.foldlRecOn (motive := fun r : State => r.tally = s.tally) _ _ ?_ fun r hr x _ => ?_
  · split
    · split <;> simp
    · rfl
  · rw [← hr]
    split <;> simp

/-- Failing jobs leaves every port as it stands. -/
theorem foldl_failWire_ports (s : State) (slots : List Nat) (status : Nat) :
    (slots.foldl (fun s slot => s.failWire slot status) s).ports = s.ports :=
  List.foldlRecOn (motive := fun r : State => r.ports = s.ports) _ _ rfl fun r hr slot _ => (failWire_ports r slot status 0).trans hr

theorem foldl_complete_ports (s : State) (slots : List Nat) (status : Nat) :
    (slots.foldl (fun s slot => s.complete slot status) s).ports = s.ports :=
  List.foldlRecOn (motive := fun r : State => r.ports = s.ports) _ _ rfl fun r hr slot _ => (complete_ports r slot status [] 0).trans hr

theorem failPortJobs_awl (s : State) {n : Nat} (hn : n < 64) (status : Nat) : (s.failPortJobs n status).awl n =
    { s.awl n with held := [], heldWrites := [], searchJobs := [], prefixWait := (s.awl n).prefixWait.map fun w => { w with jobs := [] } } := by
  simp only [State.failPortJobs]
  rw [awl_eq_of_ports (foldl_failWire_ports ..), awl_onAwl_same _ hn, awl_onPortQ]
  split <;> rfl

@[simp] theorem failPortJobs_tally (s : State) (p status : Nat) : (s.failPortJobs p status).tally = s.tally := by
  simp only [State.failPortJobs]
  refine List.foldlRecOn (motive := fun r : State => r.tally = s.tally) _ _ ?_ fun r hr slot _ => (failWire_tally r slot status 0).trans hr
  rw [onAwl_tally, onPortQ_tally]
  split <;> rfl

theorem finishUnfence_awl (s : State) {n : Nat} (hn : n < 64) (status : Nat) :
    (s.finishUnfence n status).awl n = { s.awl n with unfenceJobs := [] } := by
  simp only [State.finishUnfence]
  rw [awl_eq_of_ports (foldl_complete_ports ..), awl_onTw, awl_onAwl_same _ hn]

@[simp] theorem finishUnfence_tally (s : State) (p status : Nat) : (s.finishUnfence p status).tally = s.tally := by
  simp only [State.finishUnfence]
  refine List.foldlRecOn (motive := fun r : State => r.tally = s.tally) _ _ ?_ fun r hr slot _ => (complete_tally r slot status [] 0).trans hr
  simp

/-! ### Fencing -/

/-- A Breik or SENT port that is fenced is FENCED under its cause (R158). -/
theorem fencePort_fenced (s : State) {n : Nat} (hn : n < 64) (cause detail : Nat) :
    ((s.fencePort n cause detail).awl n).life = .fenced ∧ ((s.fencePort n cause detail).awl n).fenceCause = BitVec.ofNat 3 cause := by
  simp only [State.fencePort, Bool.false_eq_true, if_false, if_pos hn]
  rw [awl_eq_of_ports (compilePlain_ports _), awl_eq_of_ports (post_ports ..), finishUnfence_awl _ hn, failPortJobs_awl _ hn,
    awl_onAwl_same _ hn]
  exact ⟨rfl, rfl⟩

theorem fencePort_tally (s : State) {n : Nat} (hn : n < 64) (cause detail : Nat) : (s.fencePort n cause detail).tally = s.tally := by
  simp [State.fencePort, hn]

/-- A stuck or chattering port in a mode, in any life but OFF unless it is a SENT port, is fenced (R157). -/
theorem fenceAwl_fencePort {s : State} {n : Nat} (hn : n < 64) (hmode : (s.awl n).mode ≠ 0) (hlife : (s.awl n).life ≠ .fenced)
    (hserves : (s.awl n).life ≠ .off ∨ (s.awl n).mode = 2) (hhalter : s.halterOn = false) (cause detail : Nat) :
    s.fenceAwl n cause detail = s.fencePort n cause detail :=
  if_pos ⟨hn, hmode, hlife, hserves, by simp [hhalter]⟩

/-- Past either limit a chattering port is fenced, the count that passed its limit being the detail (R157, R168). -/
theorem fenceChatter_fenceAwl {s : State} {edges glitches : Nat}
    (h : bitsAt s.ports.chainLimit.toNat 0 12 < edges ∨ bitsAt s.ports.chainLimit.toNat 12 8 < glitches) (n : Nat) :
    ∃ detail, s.fenceChatter n edges glitches = s.fenceAwl n 2 detail := by
  by_cases hedges : bitsAt s.ports.chainLimit.toNat 0 12 < edges
  · exact ⟨edges, if_pos hedges⟩
  · exact ⟨glitches, (if_neg hedges).trans (if_pos (h.resolve_left hedges))⟩

/-- A window whose current limit never broke fences the port, once its pull-up is off (R157). -/
theorem spuEnd_fencePort {s : State} {n : Nat} (h : (s.awl n).spu ≠ 0) :
    ∃ w, s.spuEnd n true = (s.onAwl n fun p => { p with spu := 0 }).fencePort n 3 w := by
  simp only [State.spuEnd, if_neg h, if_true]
  exact ⟨_, rfl⟩

/-! ### Searching -/

/-- A search that begins names its cause (R134). -/
theorem startSearch_search (s : State) {n : Nat} (hn : n < 64) (cause : Nat) :
    ((s.startSearch n cause).awl n).life = .search ∧ ∃ q, ((s.startSearch n cause).awl n).search = some q ∧ q.cause = cause := by
  simp only [State.startSearch]
  rw [awl_onAwl_same _ hn]
  split
  · exact ⟨rfl, _, rfl, rfl⟩
  · exact ⟨rfl, _, rfl, rfl⟩

theorem enterSearch_search (s : State) {n : Nat} (hn : n < 64) (cause : Nat) :
    ((s.enterSearch n cause).awl n).life = .search ∧ ∃ q, ((s.enterSearch n cause).awl n).search = some q ∧ q.cause = cause :=
  startSearch_search _ hn cause

/-! ### Coming back (R159 to R161, R210) -/

/-- The interval of a fenced port has passed: the lines are watched, and no further attempt is timed (R160). -/
theorem unfenceTimer_awl {s : State} {n a : Nat} (hn : n < 64) (hfenced : s.portFenced n = true) (hwatch : s.watching n = false)
    (hunfencing : s.unfencing n = false) (hcause : (s.awl n).fenceCause ≠ 4) (hauto : s.fenceAuto = true) (hhalter : s.halterOn = false)
    (hnext : (s.awl n).nextAt = some a) (hdue : a ≤ s.now) :
    (s.unfenceTimer n).awl n = { s.awl n with watch := true, nextAt := none } := by
  have due : s.attemptDue n = true := by simp [State.attemptDue, hn, hnext, hdue]
  have goes : s.unfenceTimer n = s.beginWatch n false := by
    simp only [State.unfenceTimer, if_pos hn]
    exact if_pos ⟨by omega, hfenced, by simp [hwatch], by simp [hunfencing], hcause, hauto, by simp [hhalter], due⟩
  rw [goes, State.beginWatch, if_pos hn, awl_onAwl_same s hn]
  rfl

/-- A Breik port whose data line stayed high is searched (R161). -/
theorem lineCheckEnd_enterSearch {s : State} {n : Nat} (hn : n < 64) (hwatch : (s.awl n).watch = true) (hmode : (s.awl n).mode ≠ 2)
    (clkHigh : Bool) : ∃ r, s.lineCheckEnd n clkHigh true = State.enterSearch r n 8 := by
  simp only [State.lineCheckEnd, if_pos hn, hwatch, Bool.not_true, Bool.false_eq_true, if_false, if_true, if_neg hmode]
  exact ⟨_, rfl⟩

/-- A two-wire port whose lines stayed high is watched no longer and serves again at the next boundary (R210). -/
theorem lineCheckEnd_returns {s : State} {m : Nat} (hm : m < 64) (hwatch : (s.tw m).watch = true) :
    ((s.lineCheckEnd (64 + m) true true).tw m).watch = false ∧ ((s.lineCheckEnd (64 + m) true true).tw m).returning.isSome = true := by
  have hport : 64 + m - 64 = m := by omega
  simp only [State.lineCheckEnd, if_neg (show ¬ 64 + m < 64 by omega), hport, hwatch, Bool.not_true, Bool.false_eq_true, if_false,
    and_self, if_true, State.twReturns]
  rw [tw_eq_of_ports (compilePlain_ports _), tw_onTw_same _ hm]
  exact ⟨rfl, rfl⟩

/-- Out of FENCED for 64 s, the interval of a port is the first one again (R160). -/
theorem intervalReset_awl {s : State} {n : Nat} (hn : n < 64) (hfenced : s.portFenced n = false) :
    (s.intervalReset n).awl n = { s.awl n with fenceExp := 0 } := by
  simp only [State.intervalReset, hfenced, Bool.false_eq_true, if_false, if_pos hn]
  exact awl_onAwl_same s hn _

end Sys2Proof.Machine
end

section
/-! The chain-life commands of family 03: fencing and unfencing, and the port jobs. -/
namespace Sys2Proof.Machine

/-! ### The commands -/

section
variable {s : State} (t : Nat) (hup : s.core.up = true)
include hup

theorem exec_fenceStuck (n lowUs : Nat) : exec (.fenceStuck t n lowUs) s = .next (((s.advance t).fenceAwl n 1 lowUs).keeping (s.advance t)) :=
  onBeam_next t s (State.fenceAwl · n 1 lowUs) hup

theorem exec_fenceChatter (n edges glitches : Nat) :
    exec (.fenceChatter t n edges glitches) s = .next (((s.advance t).fenceChatter n edges glitches).keeping (s.advance t)) :=
  onBeam_next t s (State.fenceChatter · n edges glitches) hup

theorem exec_spuWindowEnd (n : Nat) (b : Bool) : exec (.spuWindowEnd t n b) s = .next (((s.advance t).spuEnd n b).keeping (s.advance t)) :=
  onBeam_next t s (State.spuEnd · n b) hup

theorem exec_unfenceTimer (n : Nat) : exec (.unfenceTimer t n) s = .next (((s.advance t).unfenceTimer n).keeping (s.advance t)) :=
  onBeam_next t s (State.unfenceTimer · n) hup

theorem exec_unfenceLineCheckEnd (p : Nat) (clkHigh dataHigh : Bool) :
    exec (.unfenceLineCheckEnd t p clkHigh dataHigh) s = .next (((s.advance t).lineCheckEnd p clkHigh dataHigh).keeping (s.advance t)) :=
  onBeam_next t s (State.lineCheckEnd · p clkHigh dataHigh) hup

theorem exec_fenceIntervalReset (p : Nat) :
    exec (.fenceIntervalReset t p) s = .next (((s.advance t).intervalReset p).keeping (s.advance t)) :=
  onBeam_next t s (State.intervalReset · p) hup

theorem exec_chainSearch (slot : Nat) : exec (.chainSearch t slot) s = .next (((s.advance t).chainSearch slot).keeping (s.advance t)) :=
  onBeam_next t s (State.chainSearch · slot) hup

theorem exec_portReinit (slot : Nat) : exec (.portReinit t slot) s = .next (((s.advance t).portReinit slot).keeping (s.advance t)) :=
  onBeam_next t s (State.portReinit · slot) hup

theorem exec_portFence (slot : Nat) :
    exec (.portFence t slot) s = .next ((((s.advance t).portFenceJob slot).settleShip 4).keeping (s.advance t)) :=
  onBeam_next t s (fun s => (s.portFenceJob slot).settleShip 4) hup

theorem exec_portUnfence (slot : Nat) : exec (.portUnfence t slot) s = .next (((s.advance t).portUnfenceJob slot).keeping (s.advance t)) :=
  onBeam_next t s (State.portUnfenceJob · slot) hup

end

/-- Settles O21: each fence by its cause, and each way back by what it leaves of the port. -/
theorem fences : Obligations.Fences := by
  refine ⟨fun s t n hn hup hhalter hmode hlife hserves => ⟨fun lowUs => ?stuck, fun edges glitches hover => ?chatter, fun hspu => ?limit⟩,
    fun s t n a hn hup hlife hfenced hwatch hunfencing hcause hauto hhalter hnext hdue => ?timer,
    fun s t n b hn hup hwatch hmode => ?searched, fun s t m hm hup hwatch => ?returns, fun s t n hn hup hfenced => ?interval⟩
  case stuck =>
    refine ⟨_, exec_fenceStuck t hup n lowUs, ?_⟩
    rw [keeping_awl, fenceAwl_fencePort (s := s.advance t) hn hmode hlife hserves hhalter]
    exact fencePort_fenced _ hn 1 lowUs
  case chatter =>
    obtain ⟨detail, h⟩ := fenceChatter_fenceAwl (s := s.advance t) hover n
    refine ⟨_, exec_fenceChatter t hup n edges glitches, ?_⟩
    rw [keeping_awl, h, fenceAwl_fencePort (s := s.advance t) hn hmode hlife hserves hhalter]
    exact fencePort_fenced _ hn 2 detail
  case limit =>
    obtain ⟨w, h⟩ := spuEnd_fencePort (s := s.advance t) (n := n) (by rw [advance_awl]; omega)
    refine ⟨_, exec_spuWindowEnd t hup n true, ?_⟩
    rw [keeping_awl, h]
    exact fencePort_fenced _ hn 3 w
  case timer =>
    refine ⟨_, exec_unfenceTimer t hup n, ?_⟩
    rw [keeping_awl, unfenceTimer_awl (s := s.advance t) hn hfenced hwatch hunfencing hcause hauto hhalter hnext hdue]
    exact ⟨rfl, rfl, hlife⟩
  case searched =>
    obtain ⟨r, h⟩ := lineCheckEnd_enterSearch (s := s.advance t) hn hwatch hmode b
    obtain ⟨hsearch, q, hq, hcause⟩ := enterSearch_search r hn 8
    refine ⟨_, q, exec_unfenceLineCheckEnd t hup n b true, ?_⟩
    rw [keeping_awl, h]
    exact ⟨hsearch, hq, hcause⟩
  case returns => exact ⟨_, exec_unfenceLineCheckEnd t hup (64 + m) true true, lineCheckEnd_returns (s := s.advance t) hm hwatch⟩
  case interval => exact ⟨_, exec_fenceIntervalReset t hup n, intervalReset_awl (s := s.advance t) hn hfenced⟩

/-! ### The port jobs -/

/-! A job that starts leaves the ports and readiness as they stand. -/

@[simp] theorem onJob_awl (s : State) (slot : Nat) (f : Job → Job) (n : Nat) : (s.onJob slot f).awl n = s.awl n := rfl
@[simp] theorem onJob_halterOn (s : State) (slot : Nat) (f : Job → Job) : (s.onJob slot f).halterOn = s.halterOn := rfl
@[simp] theorem onJob_portMode (s : State) (slot : Nat) (f : Job → Job) (p : Nat) : (s.onJob slot f).portMode p = s.portMode p := rfl
@[simp] theorem onJob_portFenced (s : State) (slot : Nat) (f : Job → Job) (p : Nat) : (s.onJob slot f).portFenced p = s.portFenced p := rfl
@[simp] theorem onJob_watching (s : State) (slot : Nat) (f : Job → Job) (p : Nat) : (s.onJob slot f).watching p = s.watching p := rfl
@[simp] theorem onJob_unfencing (s : State) (slot : Nat) (f : Job → Job) (p : Nat) : (s.onJob slot f).unfencing p = s.unfencing p := rfl
@[simp] theorem onJob_chainRefusal (s : State) (slot : Nat) (f : Job → Job) (p : Nat) :
    (s.onJob slot f).chainRefusal p = s.chainRefusal p := rfl

theorem attachSearch_awl (s : State) {n : Nat} (hn : n < 64) (slot : Nat) :
    (s.attachSearch n slot).awl n = { s.awl n with searchJobs := (s.awl n).searchJobs ++ [slot] } := awl_onAwl_same s hn _

/-- With no SHIP_GO under way the end of a ship write is forgotten, and nothing else changes. -/
theorem settleShip_idle {s : State} (h : s.tally.going = none) (fuel : Nat) :
    ∃ x, s.settleShip fuel = s.onPorts fun p => { p with shipResult := x } := by
  cases fuel with
  | zero => exact ⟨s.ports.shipResult, rfl⟩
  | succ k =>
    cases hx : s.ports.shipResult with
    | none => exact ⟨none, by rw [settleShip_none hx, ← hx]; rfl⟩
    | some ok => exact ⟨none, by simp only [State.settleShip, hx, h]⟩

theorem settleShip_awl {s : State} (h : s.tally.going = none) (fuel n : Nat) : (s.settleShip fuel).awl n = s.awl n := by
  obtain ⟨x, hx⟩ := settleShip_idle h fuel
  rw [hx]
  rfl

theorem settleShip_link {s : State} (h : s.tally.going = none) (fuel : Nat) : (s.settleShip fuel).link = s.link := by
  obtain ⟨x, hx⟩ := settleShip_idle h fuel
  rw [hx]
  rfl

section
variable {s : State} {slot : Nat} {j : Job}

/-- A refused CHAIN_SEARCH ends with the status of the port's condition (R151, R380). -/
theorem chainSearch_refused {st : Nat} (hj : s.startable slot opChainSearch = some j) (h : s.chainRefusal j.portArg = some st) :
    s.chainSearch slot = (s.begin slot).complete slot st := by
  simp only [State.chainSearch, hj, onJob_chainRefusal, h, State.begin]

/-- A CHAIN_SEARCH joins the search that is running (R151). -/
theorem chainSearch_attached (hj : s.startable slot opChainSearch = some j) (h : s.chainRefusal j.portArg = none)
    (hn : j.portArg < 64) (hlife : (s.awl j.portArg).life = .search) :
    s.chainSearch slot = (s.begin slot).attachSearch j.portArg slot := by
  simp only [State.chainSearch, hj, onJob_chainRefusal, h, attachSearch_awl _ hn, onJob_awl, hlife, State.begin]

/-- A PORT_REINIT that is not refused searches the port, whatever its life (R150). -/
theorem portReinit_enterSearch (hj : s.startable slot opPortReinit = some j) (h : s.chainRefusal j.portArg = none) :
    ∃ r, s.portReinit slot = State.enterSearch r j.portArg 0xB := by
  simp only [State.portReinit, hj, onJob_chainRefusal, h]
  exact ⟨_, rfl⟩

section
variable (hn : j.portArg < 64) (hmode : s.portMode j.portArg ≠ 0)
include hn hmode

/-- PORT_FENCE fences a port that is not fenced (R158). -/
theorem portFenceJob_fences (hj : s.startable slot opPortFence = some j) (hfenced : s.portFenced j.portArg = false) :
    s.portFenceJob slot = ((s.begin slot).fencePort j.portArg 4 0).complete slot 0 := by
  simp only [State.portFenceJob, hj, if_neg (show ¬ 128 ≤ j.portArg by omega), onJob_portMode, if_neg hmode, onJob_portFenced, hfenced,
    Bool.false_eq_true, if_false, State.begin]

/-- A fenced port whose lines are not watched takes HOST as its cause, and no further attempt is timed (R158, R160). -/
theorem portFenceJob_refences (hj : s.startable slot opPortFence = some j) (hfenced : s.portFenced j.portArg = true)
    (hwatch : s.watching j.portArg = false) :
    s.portFenceJob slot = ((s.begin slot).onAwl j.portArg fun a => { a with fenceCause := 4, nextAt := none }).complete slot 0 := by
  simp only [State.portFenceJob, hj, if_neg (show ¬ 128 ≤ j.portArg by omega), onJob_portMode, if_neg hmode, onJob_portFenced, hfenced,
    if_true, State.refence, onJob_watching, hwatch, Bool.false_eq_true, if_false, if_pos hn, State.begin]

variable (hhalter : s.halterOn = false) (hunfencing : s.unfencing j.portArg = false)
include hhalter hunfencing

/-- PORT_UNFENCE of a fenced port begins the watch of its lines and waits for it (R160, R161). -/
theorem portUnfenceJob_watches (hj : s.startable slot opPortUnfence = some j) (hfenced : s.portFenced j.portArg = true)
    (hwatch : s.watching j.portArg = false) : s.portUnfenceJob slot =
      ((s.begin slot).beginWatch j.portArg true).onAwl j.portArg fun a => { a with unfenceJobs := a.unfenceJobs ++ [slot] } := by
  simp only [State.portUnfenceJob, hj, onJob_halterOn, hhalter, if_neg (show ¬ 128 ≤ j.portArg by omega), onJob_portMode, if_neg hmode,
    onJob_unfencing, hunfencing, onJob_portFenced, hfenced, onJob_watching, hwatch, Bool.false_eq_true, if_false, if_true, if_pos hn,
    State.begin]

/-- PORT_UNFENCE of a port that is not fenced is done (R160). -/
theorem portUnfenceJob_done (hj : s.startable slot opPortUnfence = some j) (hfenced : s.portFenced j.portArg = false) :
    s.portUnfenceJob slot = (s.begin slot).complete slot 0 := by
  simp only [State.portUnfenceJob, hj, onJob_halterOn, hhalter, if_neg (show ¬ 128 ≤ j.portArg by omega), onJob_portMode, if_neg hmode,
    onJob_unfencing, hunfencing, onJob_portFenced, hfenced, Bool.false_eq_true, if_false, State.begin]

end
end

/-- Settles O33: the chain jobs by the refusal of their port, PORT_FENCE and PORT_UNFENCE by whether it is fenced. -/
theorem portJobs : Obligations.PortJobs := by
  refine ⟨fun s t slot j hslot hup => ⟨fun st hj href => ?refused, fun hj href hn hlife => ?attached, fun hj href hn => ?reinit⟩,
    fun s t slot j hslot hup hgoing hn hmode => ⟨fun hj hfenced => ?fence, fun hj hfenced hwatch => ?refence,
      fun hj hhalter hunfencing hfenced hwatch => ?unfence, fun hj hhalter hunfencing hfenced => ?done⟩⟩
  case refused =>
    refine ⟨_, exec_chainSearch t hup slot, ?_⟩
    rw [chainSearch_refused (s := s.advance t) hj href]
    exact begin_complete_hasEnded (s := s.advance t) hj rfl hslot st
  case attached =>
    refine ⟨_, exec_chainSearch t hup slot, ?_⟩
    rw [chainSearch_attached (s := s.advance t) hj href hn hlife]
    refine ⟨?_, { j with started := true }, ?_, rfl⟩
    · rw [keeping_awl, attachSearch_awl _ hn]
      rfl
    · exact (job?_of_jobs (congrArg Link.jobs (onAwl_link ..)) slot).trans (begin_job? (s := s.advance t) hj)
  case reinit =>
    obtain ⟨r, h⟩ := portReinit_enterSearch (s := s.advance t) hj href
    refine ⟨_, exec_portReinit t hup slot, ?_⟩
    rw [keeping_awl, h]
    exact (enterSearch_search r hn 0xB).1
  case fence =>
    have job := portFenceJob_fences (s := s.advance t) hn hmode hj hfenced
    have going : ((s.advance t).portFenceJob slot).tally.going = none := by
      rw [job, complete_tally, fencePort_tally _ hn]
      exact hgoing
    refine ⟨_, exec_portFence t hup slot, ?_⟩
    rw [keeping_awl, settleShip_awl going, job, awl_eq_of_ports (complete_ports ..)]
    exact fencePort_fenced _ hn 4 0
  case refence =>
    have job := portFenceJob_refences (s := s.advance t) hn hmode hj hfenced hwatch
    have going : ((s.advance t).portFenceJob slot).tally.going = none := by
      rw [job, complete_tally, onAwl_tally]
      exact hgoing
    refine ⟨_, exec_portFence t hup slot, ?_, ?_⟩
    · rw [keeping_awl, settleShip_awl going, job, awl_eq_of_ports (complete_ports ..), awl_onAwl_same _ hn]
    · have ended : ((s.advance t).portFenceJob slot).hasEnded slot 0 := by
        rw [job]
        exact begin_complete_hasEnded (s := s.advance t) hj (congrArg Link.jobs (onAwl_link ..)) hslot 0
      exact hasEnded_of_jobs (congrArg Link.jobs (settleShip_link going 4)) ended
  case unfence =>
    refine ⟨_, exec_portUnfence t hup slot, ?_⟩
    rw [keeping_awl, portUnfenceJob_watches (s := s.advance t) hn hmode hhalter hunfencing hj hfenced hwatch, awl_onAwl_same _ hn,
      State.beginWatch, if_pos hn, awl_onAwl_same _ hn]
    exact ⟨rfl, rfl⟩
  case done =>
    refine ⟨_, exec_portUnfence t hup slot, ?_⟩
    rw [portUnfenceJob_done (s := s.advance t) hn hmode hhalter hunfencing hj hfenced]
    exact begin_complete_hasEnded (s := s.advance t) hj rfl hslot 0

end Sys2Proof.Machine
end

section
/-! SUPPORT. Two-wire ports, alert inputs and jobs under the updates that the two-wire commands share: what each update
leaves of them (R202, R220, R261, R370). -/
namespace Sys2Proof.Machine

/-! ### One port, one input and one counter of the state -/

theorem alertOf_onAlert_same (s : State) {a : Nat} (h : a < 8) (f : AlertSvc → AlertSvc) : (s.onAlert a f).alertOf a = f (s.alertOf a) := by
  simp [State.onAlert, State.alertOf, h]

theorem alertOf_onAlert_other (s : State) {a b : Nat} (h : b ≠ a) (f : AlertSvc → AlertSvc) : (s.onAlert a f).alertOf b = s.alertOf b := by
  unfold State.onAlert
  split
  · exact tget_tmod_other _ _ _ _ _ h
  · rfl

theorem alertOf_eq_of_ports {r s : State} (h : r.ports = s.ports) (a : Nat) : r.alertOf a = s.alertOf a := by
  rw [State.alertOf, h, State.alertOf]

@[simp] theorem alertOf_onTw (s : State) (m : Nat) (f : TwPort → TwPort) (a : Nat) : (s.onTw m f).alertOf a = s.alertOf a := by
  unfold State.onTw
  split <;> rfl

@[simp] theorem alertPorts_onAlert (s : State) (b : Nat) (f : AlertSvc → AlertSvc) (a : Nat) : (s.onAlert b f).alertPorts a = s.alertPorts a := by
  unfold State.onAlert
  split <;> rfl

@[simp] theorem alertEnabled_onAlert (s : State) (b : Nat) (f : AlertSvc → AlertSvc) (a : Nat) :
    (s.onAlert b f).alertEnabled a = s.alertEnabled a := by
  unfold State.onAlert
  split <;> rfl

@[simp] theorem tw_onJob (s : State) (slot : Nat) (f : Job → Job) (m : Nat) : (s.onJob slot f).tw m = s.tw m := rfl
@[simp] theorem tw_bklCount (s : State) (k i m : Nat) : (s.bklCount k i).tw m = s.tw m := rfl

@[simp] theorem tw_onAwl (s : State) (n : Nat) (f : AwlPort → AwlPort) (m : Nat) : (s.onAwl n f).tw m = s.tw m := by
  unfold State.onAwl
  split <;> rfl

@[simp] theorem tw_onPortQ (s : State) (p : Nat) (f : PortQueue → PortQueue) (m : Nat) : (s.onPortQ p f).tw m = s.tw m := by
  unfold State.onPortQ
  split <;> rfl

@[simp] theorem cappingReady_onTw (s : State) (m : Nat) (f : TwPort → TwPort) (p : Nat) : (s.onTw m f).cappingReady p = s.cappingReady p := by
  unfold State.onTw
  split <;> rfl

@[simp] theorem warning_onTw (s : State) (m : Nat) (f : TwPort → TwPort) : (s.onTw m f).warning = s.warning := by
  unfold State.onTw
  split <;> rfl

@[simp] theorem halterOn_onTw (s : State) (m : Nat) (f : TwPort → TwPort) : (s.onTw m f).halterOn = s.halterOn := by
  unfold State.onTw
  split <;> rfl

@[simp] theorem bklCtr_onTw (s : State) (m : Nat) (f : TwPort → TwPort) : (s.onTw m f).ports.bklCtr = s.ports.bklCtr := by
  unfold State.onTw
  split <;> rfl

/-- A counter of a two-wire port counts up (R220). -/
theorem bklCount_bklCtr (s : State) (m i : Nat) :
    tget 0 (s.bklCount m i).ports.bklCtr (32 * m + i) = satInc (tget 0 s.ports.bklCtr (32 * m + i)) :=
  tget_tmod_same ..

theorem twServing_iff (s : State) (m : Nat) :
    s.twServing m = true ↔ (s.tw m).mode = 1 ∧ (s.tw m).fenced = false ∧ s.halterOn = false := by
  simp [State.twServing, and_assoc]

/-- Whether a port serves is decided by its mode, its fence and Halter mode. -/
theorem twServing_onTw (s : State) {m : Nat} (hm : m < 64) {f : TwPort → TwPort} (hcfg : (f (s.tw m)).cfg = (s.tw m).cfg)
    (hfenced : (f (s.tw m)).fenced = (s.tw m).fenced) : (s.onTw m f).twServing m = s.twServing m := by
  rw [Bool.eq_iff_iff, twServing_iff, twServing_iff, tw_onTw_same s hm, halterOn_onTw, TwPort.mode, TwPort.mode, hcfg, hfenced]

/-! ### What a ship write's end leaves: with no SHIP_GO under way, every port and counter -/

theorem settleShip_tw {s : State} (h : s.tally.going = none) (fuel m : Nat) : (s.settleShip fuel).tw m = s.tw m := by
  obtain ⟨x, hx⟩ := settleShip_idle h fuel
  rw [hx]
  rfl

/-- A port after a command whose last act settles the end of a ship write. -/
theorem settled_tw {r : State} (h : r.tally.going = none) (q : State) (fuel m : Nat) : ((r.settleShip fuel).keeping q).tw m = r.tw m := by
  rw [keeping_tw, settleShip_tw h]

theorem settleShip_bklCtr {s : State} (h : s.tally.going = none) (fuel : Nat) : (s.settleShip fuel).ports.bklCtr = s.ports.bklCtr := by
  obtain ⟨x, hx⟩ := settleShip_idle h fuel
  rw [hx]
  rfl

/-! ### Jobs that end (R370) -/

theorem twEnding_of_jobs {r s : State} (h : r.link.jobs = s.link.jobs) (use : TwUse) : r.twEnding use = s.twEnding use := by
  simp only [State.twEnding, job?_of_jobs h]

/-- A change that neither aborts nor drains a job leaves the uses that end as they are. -/
theorem twEnding_onJob (s : State) (slot : Nat) {f : Job → Job} (hslot : ∀ j, (f j).slot = j.slot) (hend : ∀ j, (f j).ending = j.ending)
    (use : TwUse) : (s.onJob slot f).twEnding use = s.twEnding use := by
  have ends : ∀ j : Job, (if j.slot = slot then f j else j).ending = j.ending := fun j => by
    split <;> simp [hend]
  unfold State.twEnding
  split
  · rw [job?_onJob _ _ _ hslot, Option.all_map]
    simp only [ends]
  · rfl

@[simp] theorem tw_countTwAttempt (s : State) (use : TwUse) (m : Nat) : (s.countTwAttempt use).tw m = s.tw m := by
  unfold State.countTwAttempt
  split <;> rfl

/-! ### VOUT_MODE to be read anew (R261): only the cache changes -/

theorem vmodeWant_vmode (s : State) (m addr : Nat) : ∃ v, s.vmodeWant m addr = { s with tab := { s.tab with vmode := v } } := by
  unfold State.vmodeWant
  split
  · exact ⟨_, rfl⟩
  · exact ⟨s.tab.vmode, rfl⟩

theorem foldl_vmodeWant_vmode {α : Type} (g : α → Nat) (s : State) (m : Nat) (l : List α) :
    ∃ v, l.foldl (fun s a => s.vmodeWant m (g a)) s = { s with tab := { s.tab with vmode := v } } := by
  refine List.foldlRecOn (motive := fun r : State => ∃ v, r = { s with tab := { s.tab with vmode := v } }) _ _ ⟨s.tab.vmode, rfl⟩ ?_
  rintro _ ⟨v, rfl⟩ a -
  exact vmodeWant_vmode { s with tab := { s.tab with vmode := v } } m (g a)

end Sys2Proof.Machine
end

section
/-! SUPPORT. The end of a two-wire attempt before its outcome is drawn (R188 to R191, R290): what it reaches, and the port
it leaves. -/
namespace Sys2Proof.Machine

/-! ### What the end of an attempt reaches -/

/-- `r` differs from `s` at most in the two-wire ports, their queues and counters, the VOUT_MODE cache, and the jobs with
the bytes they received, none of which begins to end (R370). -/
def State.sameButAttempt (r s : State) : Prop :=
  (∃ w q b x v l, r = { s with
    ports := { s.ports with tw := w, q := q, bklCtr := b, bklErr := x }, tab := { s.tab with vmode := v }, link := l }) ∧
  ∀ use, r.twEnding use = s.twEnding use

theorem sameButAttempt_refl (s : State) : s.sameButAttempt s :=
  ⟨⟨s.ports.tw, s.ports.q, s.ports.bklCtr, s.ports.bklErr, s.tab.vmode, s.link, rfl⟩, fun _ => rfl⟩

theorem sameButAttempt_trans {q r s : State} (h1 : q.sameButAttempt r) (h2 : r.sameButAttempt s) : q.sameButAttempt s := by
  obtain ⟨⟨w, k, b, x, v, l, hq⟩, h1⟩ := h1
  obtain ⟨⟨_, _, _, _, _, _, hr⟩, h2⟩ := h2
  exact ⟨⟨w, k, b, x, v, l, by rw [hq, hr]⟩, fun use => (h1 use).trans (h2 use)⟩

section
variable {r s : State} (h : r.sameButAttempt s)
include h

theorem sameButAttempt_tally : r.tally = s.tally := by
  obtain ⟨⟨_, _, _, _, _, _, rfl⟩, -⟩ := h
  rfl

/-- Whether a Zone Write latches in time is not decided by the attempt's end (R218). -/
theorem sameButAttempt_zoneInTime (e : CutEntry) (count stop : Nat) : r.zoneInTime e count stop = s.zoneInTime e count stop := by
  obtain ⟨⟨_, _, _, _, _, _, rfl⟩, -⟩ := h
  rfl

end

theorem bklCount_sameButAttempt (s : State) (m i : Nat) : (s.bklCount m i).sameButAttempt s := ⟨⟨_, _, _, _, _, _, rfl⟩, fun _ => rfl⟩

theorem onTw_sameButAttempt (s : State) (m : Nat) (f : TwPort → TwPort) : (s.onTw m f).sameButAttempt s := by
  unfold State.onTw
  split
  · exact ⟨⟨_, _, _, _, _, _, rfl⟩, fun _ => rfl⟩
  · exact sameButAttempt_refl s

theorem onPortQ_sameButAttempt (s : State) (p : Nat) (f : PortQueue → PortQueue) : (s.onPortQ p f).sameButAttempt s := by
  unfold State.onPortQ
  split
  · exact ⟨⟨_, _, _, _, _, _, rfl⟩, fun _ => rfl⟩
  · exact sameButAttempt_refl s

theorem onJob_sameButAttempt (s : State) (slot : Nat) {f : Job → Job} (hslot : ∀ j, (f j).slot = j.slot)
    (hend : ∀ j, (f j).ending = j.ending) : (s.onJob slot f).sameButAttempt s :=
  ⟨⟨_, _, _, _, _, _, rfl⟩, twEnding_onJob s slot hslot hend⟩

theorem vmodeWant_sameButAttempt (s : State) (m addr : Nat) : (s.vmodeWant m addr).sameButAttempt s := by
  obtain ⟨v, h⟩ := vmodeWant_vmode s m addr
  rw [h]
  exact ⟨⟨_, _, _, _, v, _, rfl⟩, fun _ => rfl⟩

theorem writeHost_sameButAttempt (s : State) (addr : Nat) (bs : List Byte) : (s.writeHost addr bs).sameButAttempt s := by
  rcases writeHost_link s addr bs with h | h
  · exact ⟨⟨_, _, _, _, _, _, h⟩, twEnding_of_jobs (by rw [h])⟩
  · exact ⟨⟨_, _, _, _, _, _, h⟩, twEnding_of_jobs (by rw [h])⟩

/-- A capping write that ends notes the time in its port's queue (R290). -/
theorem capDelay_queue (s : State) (m : Nat) (use : TwUse) : s.capDelay m use = s ∨ ∃ f, s.capDelay m use = s.onPortQ (64 + m) f := by
  unfold State.capDelay
  extract_lets delays
  split
  · exact .inr ⟨_, rfl⟩
  · exact .inl rfl

theorem capDelay_sameButAttempt (s : State) (m : Nat) (use : TwUse) : (s.capDelay m use).sameButAttempt s := by
  rcases capDelay_queue s m use with h | ⟨f, h⟩
  · rw [h]
    exact sameButAttempt_refl s
  · rw [h]
    exact onPortQ_sameButAttempt s _ f

theorem countTwAttempt_sameButAttempt (s : State) (use : TwUse) : (s.countTwAttempt use).sameButAttempt s := by
  unfold State.countTwAttempt
  split
  · refine onJob_sameButAttempt s _ ?_ ?_
    · exact fun _ => rfl
    · exact fun _ => rfl
  · exact sameButAttempt_refl s

theorem targetAnswered_sameButAttempt (s : State) (m addr : Nat) : (s.targetAnswered m addr).sameButAttempt s := by
  simp only [State.targetAnswered]
  split
  · exact sameButAttempt_trans (vmodeWant_sameButAttempt ..) (onTw_sameButAttempt ..)
  · exact onTw_sameButAttempt ..

theorem attemptSeen_sameButAttempt (s : State) (slot : Nat) (bs : List Byte) (nibble : Nat) (result : Option Nat) :
    (s.attemptSeen slot bs nibble result).sameButAttempt s := by
  simp only [State.attemptSeen]
  split
  · exact sameButAttempt_refl s
  · split
    · refine sameButAttempt_trans (onJob_sameButAttempt _ slot ?_ ?_) ?_
      · exact fun _ => rfl
      · exact fun _ => rfl
      · split
        · exact sameButAttempt_refl s
        · exact writeHost_sameButAttempt ..
    · split
      · refine onJob_sameButAttempt s slot ?_ ?_
        · exact fun _ => rfl
        · exact fun _ => rfl
      · exact sameButAttempt_refl s

/-! ### The port whose attempt ends -/

@[simp] theorem tw_capDelay (s : State) (m : Nat) (use : TwUse) (k : Nat) : (s.capDelay m use).tw k = s.tw k := by
  rcases capDelay_queue s m use with h | ⟨f, h⟩ <;> simp [h]

@[simp] theorem tw_writeHost (s : State) (addr : Nat) (bs : List Byte) (m : Nat) : (s.writeHost addr bs).tw m = s.tw m := by
  rcases writeHost_link s addr bs with h | h
  · exact tw_eq_of_ports (by rw [h]) m
  · exact tw_eq_of_ports (by rw [h]) m

@[simp] theorem tw_attemptSeen (s : State) (slot : Nat) (bs : List Byte) (nibble : Nat) (result : Option Nat) (m : Nat) :
    (s.attemptSeen slot bs nibble result).tw m = s.tw m := by
  simp only [State.attemptSeen]
  split
  · rfl
  · split
    · rw [tw_onJob]
      split
      · rfl
      · exact tw_writeHost ..
    · split <;> rfl

/-- A target that answers is heard, and no longer absent (R191). -/
theorem targetAnswered_tw (s : State) {m : Nat} (hm : m < 64) (addr : Nat) : (s.targetAnswered m addr).tw m = { s.tw m with
    nackRun := tset 0 (s.tw m).nackRun addr 0, absent := (s.tw m).absent.filter (· != addr) } := by
  simp only [State.targetAnswered]
  split
  · obtain ⟨v, hv⟩ := vmodeWant_vmode (s.onTw m fun p =>
      { p with nackRun := tset 0 p.nackRun addr 0, absent := p.absent.filter (· != addr) }) m addr
    rw [hv]
    exact tw_onTw_same s hm _
  · exact tw_onTw_same s hm _

/-- Targets that answer make none absent (R191). -/
theorem foldl_targetAnswered_tw (s : State) {m : Nat} (hm : m < 64) (acked : List Nat) : ∃ k a,
    (acked.foldl (fun s a => s.targetAnswered m a) s).tw m = { s.tw m with nackRun := k, absent := a } ∧ a ⊆ (s.tw m).absent := by
  refine List.foldlRecOn (motive := fun r : State => ∃ k a, r.tw m = { s.tw m with nackRun := k, absent := a } ∧ a ⊆ (s.tw m).absent)
    _ _ ⟨_, _, rfl, List.Subset.refl _⟩ ?_
  rintro r ⟨k, a, hr, ha⟩ addr -
  exact ⟨_, _, by rw [targetAnswered_tw r hm, hr], List.Subset.trans List.filter_sublist.subset ha⟩

/-- An attempt is counted by its class (R220). -/
def State.countClass (s : State) (m : Nat) (cls : TwClass) : State :=
  match cls.counter with
  | some i => s.bklCount m i
  | none => s

@[simp] theorem tw_countClass (s : State) (m : Nat) (cls : TwClass) (k : Nat) : (s.countClass m cls).tw k = s.tw k := by
  unfold State.countClass
  split <;> rfl

theorem countClass_sameButAttempt (s : State) (m : Nat) (cls : TwClass) : (s.countClass m cls).sameButAttempt s := by
  unfold State.countClass
  split
  · exact bklCount_sameButAttempt ..
  · exact sameButAttempt_refl s

/-- The attempt of `x` is over and its outcome not yet drawn: it is counted, and the targets that answered are heard. -/
def State.closeAttempt (s : State) (m : Nat) (x : TwXfer) (cls : TwClass) (acked : List Nat) (rx : List Byte) : State :=
  let s := ((s.countClass m cls).capDelay m x.use).countTwAttempt x.use
  let s := s.onTw m fun p => { p with xfer := none, segFree := false, entered := false }
  let s := acked.foldl (fun s a => s.targetAnswered m a) s
  match x.use with
  | .job slot _ => s.attemptSeen slot rx 0 none
  | _ => s

section
variable (s : State) (m : Nat) (x : TwXfer) (cls : TwClass) (acked : List Nat) (rx : List Byte)

theorem closeAttempt_sameButAttempt : (s.closeAttempt m x cls acked rx).sameButAttempt s := by
  simp only [State.closeAttempt]
  have counted := sameButAttempt_trans (countTwAttempt_sameButAttempt _ x.use)
    (sameButAttempt_trans (capDelay_sameButAttempt _ m x.use) (countClass_sameButAttempt s m cls))
  have ended := sameButAttempt_trans (onTw_sameButAttempt _ m fun p => { p with xfer := none, segFree := false, entered := false }) counted
  have heard := List.foldlRecOn (motive := (State.sameButAttempt · s)) acked (fun s a => s.targetAnswered m a) ended
    fun r hr a _ => sameButAttempt_trans (targetAnswered_sameButAttempt r m a) hr
  split
  · exact sameButAttempt_trans (attemptSeen_sameButAttempt ..) heard
  · exact heard

/-- The port is idle, its segment not yet free, and no target has become absent. -/
theorem closeAttempt_tw (hm : m < 64) : ∃ k a, (s.closeAttempt m x cls acked rx).tw m =
    { s.tw m with xfer := none, segFree := false, entered := false, nackRun := k, absent := a } ∧ a ⊆ (s.tw m).absent := by
  simp only [State.closeAttempt]
  obtain ⟨k, a, heard, ha⟩ := foldl_targetAnswered_tw ((((s.countClass m cls).capDelay m x.use).countTwAttempt x.use).onTw m
    fun p => { p with xfer := none, segFree := false, entered := false }) hm acked
  rw [tw_onTw_same _ hm, tw_countTwAttempt, tw_capDelay, tw_countClass] at heard ha
  refine ⟨k, a, ?_, ha⟩
  split
  · exact (tw_attemptSeen ..).trans heard
  · exact heard

end
end Sys2Proof.Machine
end

section
/-! Two-wire attempts of family 04: what is made of an attempt that ended (R188 to R196, R217, R218). -/
namespace Sys2Proof.Machine

/-! ### An attempt that failed (R189, R192, R193) -/

/-- The class spends a try after lost arbitration, not a retry. -/
def TwClass.arbitration (cls : TwClass) : Bool := cls = .arbLost || cls = .busError

/-- The tries that an attempt of the class may still spend. -/
def TwXfer.triesLeft (x : TwXfer) (cls : TwClass) : Nat := if cls.arbitration then x.arbLeft else x.left

def TwXfer.spendTry (x : TwXfer) (cls : TwClass) : TwXfer :=
  if cls.arbitration then { x with arbLeft := x.arbLeft - 1 } else { x with left := x.left - 1 }

/-- The transaction after an attempt of the class that received `rx`. -/
def TwXfer.failedAttempt (x : TwXfer) (cls : TwClass) (rx : List Byte) : TwXfer := { x with
  attempts := x.attempts + 1
  allNacked := x.allNacked && decide (cls = .addrNack)
  failedCount := if cls.arbitration then x.failedCount else x.failedCount + 1
  firstPec := x.firstPec || (decide (cls = .pecFail) && decide (x.failedCount = 0))
  failedData := if cls = .pecFail then x.failedData ++ [x.dataOf rx] else x.failedData }

/-- An attempt that failed is made again while tries are left, the target is not known absent, its job goes on and a retry
still makes sense; else the transaction has failed. -/
theorem twOutcome_failed (s : State) (m : Nat) (x : TwXfer) {cls : TwClass} (hok : cls ≠ .ok) (acked : List Nat) (rx : List Byte)
    (start stop : Nat) : s.twOutcome m x cls acked rx start stop =
      let r := s.closeAttempt m x cls acked rx
      let y := x.failedAttempt cls rx
      let absent := (if cls = .addrNack then [x.refused] else x.targets).any (r.tw m).absent.contains
      if (if absent then 0 else x.triesLeft cls) = 0 || r.twEnding x.use || !r.retryFits m y then
        r.twFailed m y cls (cls.arbitration && decide (x.arbLeft = 0))
      else r.onTw m fun p => { p with retries := y.spendTry cls :: p.retries } := by
  cases cls with
  | ok => exact absurd rfl hok
  | _ => rfl

/-- A VOUT_MODE read, or a transaction of a job that makes further attempts. -/
def State.repeatable (s : State) (x : TwXfer) : Prop :=
  (∃ target, x.use = .vmode target) ∨ ∃ slot cap, x.use = .job slot cap ∧ s.twEnding x.use = false

theorem repeatable_not_ending {s : State} {x : TwXfer} (h : s.repeatable x) : s.twEnding x.use = false := by
  obtain ⟨target, h⟩ | ⟨_, _, -, h⟩ := h
  · rw [h]
    rfl
  · exact h

theorem repeatable_of_sameButAttempt {r s : State} {x : TwXfer} (h : r.sameButAttempt s) (hs : s.repeatable x) : r.repeatable x :=
  hs.imp_right fun ⟨slot, cap, huse, hend⟩ => ⟨slot, cap, huse, (h.2 x.use).trans hend⟩

/-- A retry of either makes sense whenever it comes (R216, R218). -/
theorem repeatable_retryFits {s : State} {x y : TwXfer} (h : s.repeatable x) (hy : y.use = x.use) (r : State) (m : Nat) :
    r.retryFits m y = true := by
  obtain ⟨_, h⟩ | ⟨_, _, h, -⟩ := h <;> simp [State.retryFits, hy, h]

theorem any_contains_of_subset {l a b : List Nat} (hab : a ⊆ b) (h : l.any b.contains = false) : l.any a.contains = false := by
  simp only [List.any_eq_false, List.contains_iff_mem] at h ⊢
  exact fun k hk hka => h k hk (hab hka)

section
variable {s : State} {m : Nat} {x : TwXfer} {cls : TwClass} (hm : m < 64) (hok : cls ≠ .ok) (hnack : cls ≠ .addrNack)
  (hrep : s.repeatable x) (hleft : x.triesLeft cls ≠ 0) (habs : x.targets.any (s.tw m).absent.contains = false)
include hm hok hnack hrep hleft habs

/-- With tries left and no target known absent, the attempt waits before the others to be made again. -/
theorem twOutcome_retries (acked : List Nat) (rx : List Byte) (start stop : Nat) : s.twOutcome m x cls acked rx start stop =
    (s.closeAttempt m x cls acked rx).onTw m fun p => { p with retries := (x.failedAttempt cls rx).spendTry cls :: p.retries } := by
  obtain ⟨k, a, hport, ha⟩ := closeAttempt_tw s m x cls acked rx hm
  obtain ⟨-, hending⟩ := closeAttempt_sameButAttempt s m x cls acked rx
  have habsent : x.targets.any ((s.closeAttempt m x cls acked rx).tw m).absent.contains = false := by
    rw [hport]
    exact any_contains_of_subset ha habs
  have hfits : (s.closeAttempt m x cls acked rx).retryFits m (x.failedAttempt cls rx) = true := repeatable_retryFits hrep rfl _ m
  rw [twOutcome_failed s m x hok]
  refine if_neg ?_
  simp [hnack, habsent, hleft, hending, repeatable_not_ending hrep, hfits]

/-- The port once it waits to make the attempt again, Tally being as it was. -/
theorem twOutcome_retries_parts (acked : List Nat) (rx : List Byte) (start stop : Nat) :
    (s.twOutcome m x cls acked rx start stop).tally = s.tally ∧ ∃ k a, (s.twOutcome m x cls acked rx start stop).tw m =
      { s.tw m with
        xfer := none, segFree := false, entered := false, nackRun := k, absent := a
        retries := (x.failedAttempt cls rx).spendTry cls :: (s.tw m).retries } := by
  obtain ⟨k, a, hport, -⟩ := closeAttempt_tw s m x cls acked rx hm
  rw [twOutcome_retries hm hok hnack hrep hleft habs]
  refine ⟨?_, k, a, ?_⟩
  · rw [onTw_tally]
    exact sameButAttempt_tally (closeAttempt_sameButAttempt ..)
  · rw [tw_onTw_same _ hm, hport]

end

/-! ### A Zone Write that latches (R217, R218) -/

/-- Only an attempt that refused no byte is OK (R188). -/
theorem classify_ok_nack {x : TwXfer} {nack : Option Nat} {rx : List Byte} (h : x.classify nack rx = .ok) : nack = none := by
  cases nack with
  | none => rfl
  | some i =>
    simp only [TwXfer.classify] at h
    split at h <;> cases h

/-- An OK Zone Write in time leaves its STOP to its strike's zone reads. -/
theorem twOutcome_zone {s : State} {x : TwXfer} {e : CutEntry} {count stop : Nat} (huse : x.use = .zone e count)
    (hpec : x.firstPec = false) (htime : s.zoneInTime e count stop = true) (m : Nat) (acked : List Nat) (rx : List Byte) (start : Nat) :
    s.twOutcome m x .ok acked rx start stop =
    (s.closeAttempt m x .ok acked rx).onTw m fun p => { p with zoneStop := some (e.angle, count, stop) } := by
  have latches : (s.closeAttempt m x .ok acked rx).zoneInTime e count stop = true :=
    (sameButAttempt_zoneInTime (closeAttempt_sameButAttempt ..) e count stop).trans htime
  show (s.closeAttempt m x .ok acked rx).twDone m { x with attempts := x.attempts + 1 } rx start stop = _
  simp only [State.twDone, hpec, huse, latches, Bool.false_eq_true, if_false, if_true]

/-! ### The commands -/

section
variable {s : State} (t m : Nat) (hup : s.core.up = true)
include hup

theorem exec_twAttemptEnd (start stop : Nat) (nack : Option Nat) (rx : List Byte) (other : Bool) :
    exec (.twAttemptEnd t m start stop nack rx other) s =
      .next ((((s.advance t).twAttemptEnd m start stop nack rx other).settleShip 4).keeping (s.advance t)) :=
  onBeam_next t s (fun s => (s.twAttemptEnd m start stop nack rx other).settleShip 4) hup

theorem exec_twClockTimeout :
    exec (.twClockTimeout t m) s = .next ((((s.advance t).twTimeout m).settleShip 4).keeping (s.advance t)) :=
  onBeam_next t s (fun s => (s.twTimeout m).settleShip 4) hup

theorem exec_arbLost (byte bit won : Nat) :
    exec (.arbLost t m byte bit won) s = .next ((((s.advance t).arbLost m byte bit won).settleShip 4).keeping (s.advance t)) :=
  onBeam_next t s (fun s => (s.arbLost m byte bit won).settleShip 4) hup

theorem exec_twForeignStartStop :
    exec (.twForeignStartStop t m) s = .next ((((s.advance t).twForeign m).settleShip 4).keeping (s.advance t)) :=
  onBeam_next t s (fun s => (s.twForeign m).settleShip 4) hup

end

section
variable {s : State} {m : Nat} {x : TwXfer} (hx : (s.tw m).xfer = some x)
include hx

theorem twAttemptEnd_ok {rx : List Byte} (h : x.classify none rx = .ok) (start stop : Nat) :
    s.twAttemptEnd m start stop none rx false = s.twOutcome m x .ok x.targets rx start stop := by
  simp [State.twAttemptEnd, hx, h]

theorem twTimeout_eq : s.twTimeout m =
    (s.twOutcome m x .timeout [] [] s.now s.now).onTw m fun p => { p with timeoutAt := some s.now, scl := false } := by
  simp only [State.twTimeout, hx]

theorem twForeign_eq : s.twForeign m = s.twOutcome m x .busError [] [] s.now s.now := by
  simp only [State.twForeign, hx]

/-- The winner of an address byte addresses the Slovor with a write (R196). -/
def State.lostTo (s : State) (m byte won : Nat) : Bool :=
  decide (byte = 0) && decide (won % 2 = 0) && s.isTargetAddr m (won / 2)

/-- The loss is counted by the byte it came in, and recorded (R193, R194). -/
def State.recordLoss (s : State) (m : Nat) (x : TwXfer) (byte bit won : Nat) : State :=
  (s.bklCount m (if byte = 0 then 5 else 6)).onTw m fun p =>
    { p with arb := arbWord x.addr byte bit (s.lostTo m byte won), target := s.lostTo m byte won }

theorem arbLost_eq (byte bit won : Nat) : ∃ parts at', s.arbLost m byte bit won =
    (s.recordLoss m x byte bit won).twOutcome m { x with partsSent := parts } .arbLost (x.addressed byte) [] at' at' := by
  simp only [State.arbLost, hx]
  exact ⟨_, _, rfl⟩

end

theorem recordLoss_sameButAttempt (s : State) (m : Nat) (x : TwXfer) (byte bit won : Nat) :
    (s.recordLoss m x byte bit won).sameButAttempt s :=
  sameButAttempt_trans (onTw_sameButAttempt ..) (bklCount_sameButAttempt ..)

theorem recordLoss_tw (s : State) {m : Nat} (hm : m < 64) (x : TwXfer) (byte bit won : Nat) : (s.recordLoss m x byte bit won).tw m =
    { s.tw m with arb := arbWord x.addr byte bit (s.lostTo m byte won), target := s.lostTo m byte won } :=
  tw_onTw_same _ hm _

/-- Settles O23: each way an attempt ends by its outcome, a Zone Write that latches or a transaction made again. -/
theorem twAttempts : Obligations.TwAttempts := by
  refine ⟨fun s t m x hm hup hx hgoing => ⟨fun e count start stop nack rx huse hcls hpec htime => ?zone, fun hrep hleft habs => ?timeout⟩,
    fun s t m x hm hup hx hgoing hrep hleft habs => ⟨fun byte bit won => ?lost, ?foreign⟩⟩
  case zone =>
    obtain rfl := classify_ok_nack hcls
    have ends := (twAttemptEnd_ok (s := s.advance t) hx hcls start stop).trans (twOutcome_zone huse hpec htime m x.targets rx start)
    have htally := sameButAttempt_tally (closeAttempt_sameButAttempt (s.advance t) m x .ok x.targets rx)
    obtain ⟨k, a, hport, -⟩ := closeAttempt_tw (s.advance t) m x .ok x.targets rx hm
    refine ⟨_, exec_twAttemptEnd t m hup start stop none rx false, ?_⟩
    rw [ends, settled_tw (by rw [onTw_tally, htally]; exact hgoing), tw_onTw_same _ hm, hport]
    exact ⟨rfl, rfl, rfl⟩
  case timeout =>
    obtain ⟨htally, k, a, hport⟩ := twOutcome_retries_parts (s := s.advance t) (cls := .timeout) hm (by decide) (by decide) hrep hleft
      habs [] [] (max s.now t) (max s.now t)
    refine ⟨_, (x.failedAttempt .timeout []).spendTry .timeout, exec_twClockTimeout t m hup, ?_⟩
    rw [twTimeout_eq (s := s.advance t) hx, State.advance_now, settled_tw (by rw [onTw_tally, htally]; exact hgoing),
      tw_onTw_same _ hm, hport]
    exact ⟨rfl, rfl, rfl, rfl, rfl, rfl⟩
  case lost =>
    obtain ⟨parts, at', ends⟩ := arbLost_eq (s := s.advance t) hx byte bit won
    have recorded := recordLoss_tw (s.advance t) hm x byte bit won
    have hsame := recordLoss_sameButAttempt (s.advance t) m x byte bit won
    obtain ⟨htally, k, a, hport⟩ := twOutcome_retries_parts (x := { x with partsSent := parts }) (cls := .arbLost) hm (by decide) (by decide)
      (repeatable_of_sameButAttempt hsame hrep) hleft (by rw [recorded]; exact habs) (x.addressed byte) [] at' at'
    refine ⟨_, (({ x with partsSent := parts } : TwXfer).failedAttempt .arbLost []).spendTry .arbLost, exec_arbLost t m hup byte bit won, ?_⟩
    rw [ends, settled_tw (by rw [htally, sameButAttempt_tally hsame]; exact hgoing), hport, recorded]
    exact ⟨rfl, rfl, rfl, rfl, rfl⟩
  case foreign =>
    obtain ⟨htally, k, a, hport⟩ := twOutcome_retries_parts (s := s.advance t) (cls := .busError) hm (by decide) (by decide) hrep hleft
      habs [] [] (max s.now t) (max s.now t)
    refine ⟨_, (x.failedAttempt .busError []).spendTry .busError, exec_twForeignStartStop t m hup, ?_⟩
    rw [twForeign_eq (s := s.advance t) hx, State.advance_now, settled_tw (by rw [htally]; exact hgoing), hport]
    exact ⟨rfl, rfl, rfl, rfl⟩

end Sys2Proof.Machine
end

section
/-! The segment, the target side and low-power idle of family 04 (R181, R182, R189, R197, R204, R205). -/
namespace Sys2Proof.Machine

@[simp] theorem onJob_ports (s : State) (slot : Nat) (f : Job → Job) : (s.onJob slot f).ports = s.ports := rfl

/-! ### Retries once the segment is free (R182, R189) -/

/-- Retries that still make sense all stay. -/
theorem endLateRetries_fit {s : State} {m : Nat} (h : ∀ x ∈ (s.tw m).retries, s.retryFits m x = true) : s.endLateRetries m = s.onTw m id := by
  have none_late : (s.tw m).retries.filter (fun x => !s.retryFits m x) = [] := by
    simpa using h
  have all_stay : ∀ l : List TwXfer, l.filter (fun x => !([] : List TwXfer).contains x) = l :=
    fun l => List.filter_eq_self.2 fun _ _ => rfl
  simp only [State.endLateRetries, none_late, List.foldl_nil, all_stay]
  rfl

theorem startRetry_empty {s : State} {m : Nat} (hm : m < 64) (h : (s.tw m).retries = []) : s.startRetry m = s.onTw m id := by
  have empty : ((s.onTw m id).tw m).retries = [] := by rw [tw_onTw_same s hm, id_eq, h]
  simp only [State.startRetry, endLateRetries_fit (s := s) (m := m) (by simp [h]), empty]

/-- The retry of a capping write goes out whatever entry is due, and is counted (R189, R220, R290). -/
theorem startRetry_capping {s : State} {m : Nat} (hm : m < 64) {x : TwXfer} {slot : Nat} (hx : (s.tw m).retries = [x])
    (huse : x.use = .job slot true) (hmade : x.attempts ≠ 0) :
    s.startRetry m = (((s.onTw m id).bklCount m 11).onJob slot fun j => { j with onWire := true }).onTw m fun p =>
      { p with retries := p.retries.drop 1, xfer := some x, segFree := false } := by
  have waits : ((s.onTw m id).tw m).retries = [x] := by rw [tw_onTw_same s hm, id_eq, hx]
  have ready : (s.onTw m id).retryReady m = true := by simp only [State.retryReady, waits, huse]
  have fits : ∀ y ∈ (s.tw m).retries, s.retryFits m y = true := by simp [hx, State.retryFits, huse]
  simp only [State.startRetry, endLateRetries_fit fits, waits, ready, if_true, if_neg hmade, huse]

/-- Both lines of a free segment are high, and no transaction to a target address goes on (R182). -/
def TwPort.freed (p : TwPort) : TwPort :=
  { p with segFree := true, target := false, timeoutAt := none, scl := true, sda := true, entered := false }

/-- The first waiting retry may start on the port. -/
def State.startsRetry (s : State) (m : Nat) : Bool :=
  s.twServing m && (s.tw m).xfer.isNone && !s.cappingReady (64 + m) && !(s.tw m).lpi && !s.warning && !(s.tw m).watch

theorem twSegmentFree_eq (s : State) (m : Nat) : s.twSegmentFree m =
    if (s.onTw m TwPort.freed).startsRetry m then (s.onTw m TwPort.freed).startRetry m else s.onTw m TwPort.freed := rfl

/-- Where no retry waits the segment is free, and nothing starts. -/
theorem twSegmentFree_empty {s : State} {m : Nat} (hm : m < 64) (h : (s.tw m).retries = []) :
    (s.twSegmentFree m).tw m = (s.tw m).freed := by
  have freed : (s.onTw m TwPort.freed).tw m = (s.tw m).freed := tw_onTw_same s hm _
  rw [twSegmentFree_eq]
  split
  · rw [startRetry_empty hm (by rw [freed]; exact h), tw_onTw_same _ hm, freed]
    rfl
  · exact freed

/-- On a port in service, idle and awake, a waiting retry starts unless a capping write goes first (R189, R290). -/
theorem twSegmentFree_starts {s : State} {m : Nat} (hm : m < 64) (hserves : s.twServing m = true) (hidle : (s.tw m).xfer = none)
    (hcap : s.cappingReady (64 + m) = false) (hlpi : (s.tw m).lpi = false) (hwarn : s.warning = false) (hwatch : (s.tw m).watch = false) :
    s.twSegmentFree m = (s.onTw m TwPort.freed).startRetry m := by
  have serves : (s.onTw m TwPort.freed).twServing m = true := (twServing_onTw s hm rfl rfl).trans hserves
  have freed : (s.onTw m TwPort.freed).tw m = (s.tw m).freed := tw_onTw_same s hm _
  have starts : (s.onTw m TwPort.freed).startsRetry m = true := by
    simp [State.startsRetry, serves, freed, TwPort.freed, hidle, hcap, hlpi, hwarn, hwatch]
  rw [twSegmentFree_eq, if_pos starts]

/-! ### The target side and low-power idle -/

/-- A Host Notify that a serving port has taken is counted and posted; the segment is not free yet (R182, R197, R200). -/
theorem targetEnd_notify {s : State} {m : Nat} (hserves : s.twServing m = true) (hlpi : (s.tw m).lpi = false) (a l h : Byte) :
    s.targetEnd m 8 false [a, l, h] =
      ((s.bklCount m 14).onTw m fun p => { p with target := false, segFree := false }).targetNotify m 1 (a.toNat / 2) (leNat [l, h]) 0 [] := by
  simp [State.targetEnd, hserves, hlpi, State.isTargetAddr]

@[simp] theorem targetNotify_ports (s : State) (m kind addr status flags : Nat) (data : List Byte) :
    (s.targetNotify m kind addr status flags data).ports = s.ports := post_ports ..

/-! ### The commands -/

section
variable {s : State} (t m : Nat) (hup : s.core.up = true)
include hup

theorem exec_twSegmentFree : exec (.twSegmentFree t m) s = .next (((s.advance t).twSegmentFree m).keeping (s.advance t)) :=
  onBeam_next t s (State.twSegmentFree · m) hup

theorem exec_twTargetTransactionEnd (addr : Nat) (read : Bool) (data : List Byte) : exec (.twTargetTransactionEnd t m addr read data) s =
    .next (((s.advance t).targetEnd m addr read data).keeping (s.advance t)) :=
  onBeam_next t s (State.targetEnd · m addr read data) hup

theorem exec_lpiEnter : exec (.lpiEnter t m) s = .next (((s.advance t).lpiEnter m).keeping (s.advance t)) :=
  onBeam_next t s (State.lpiEnter · m) hup

theorem exec_lpiWake : exec (.lpiWake t m) s = .next (((s.advance t).lpiWake m).keeping (s.advance t)) :=
  onBeam_next t s (State.lpiWake · m) hup

theorem exec_lpiAddressMatch : exec (.lpiAddressMatch t m) s = .next (((s.advance t).lpiMatch m).keeping (s.advance t)) :=
  onBeam_next t s (State.lpiMatch · m) hup

theorem exec_lpiWakeDone : exec (.lpiWakeDone t m) s = .next (((s.advance t).lpiWakeDone m).keeping (s.advance t)) :=
  onBeam_next t s (State.lpiWakeDone · m) hup

end

/-- Settles O24: the free segment by whether a retry waits, and each command of the target side and of low-power idle by
what it leaves of the port. -/
theorem twSegment : Obligations.TwSegment := by
  refine fun s t m hm hup => ⟨fun hnone => ?free, fun x slot hx huse hmade hserves hidle hcap hlpi hwarn hwatch => ?retry,
    fun a l h hserves hlpi => ?target, fun hserves hen hidle htarget hnone hjobs hcapping hship halert hvmode hgap => ?enter,
    fun hlpi => ?wake, fun hlpi => ?addressed, fun hlpi hwaking => ?done⟩
  case free => exact ⟨_, exec_twSegmentFree t m hup, twSegmentFree_empty (s := s.advance t) hm hnone⟩
  case retry =>
    refine ⟨_, exec_twSegmentFree t m hup, ?_⟩
    have freed : ((s.advance t).onTw m TwPort.freed).tw m = (s.tw m).freed := tw_onTw_same _ hm _
    rw [twSegmentFree_starts (s := s.advance t) hm hserves hidle hcap hlpi hwarn hwatch,
      startRetry_capping hm (by rw [freed]; exact hx) huse hmade]
    refine ⟨?_, ?_, ?_⟩
    · rw [keeping_tw, tw_onTw_same _ hm]
    · rw [keeping_tw, tw_onTw_same _ hm, tw_onJob, tw_bklCount, tw_onTw_same _ hm, freed, id_eq]
      exact congrArg (List.drop 1) hx
    · rw [State.keeping_ports, bklCtr_onTw, onJob_ports, bklCount_bklCtr, bklCtr_onTw, bklCtr_onTw, State.advance_ports]
  case target =>
    refine ⟨_, exec_twTargetTransactionEnd t m hup 8 false [a, l, h], ?_⟩
    rw [targetEnd_notify (s := s.advance t) hserves hlpi, keeping_tw, tw_eq_of_ports (targetNotify_ports ..), tw_onTw_same _ hm,
      State.keeping_ports, targetNotify_ports, bklCtr_onTw]
    exact ⟨rfl, rfl, bklCount_bklCtr _ m 14⟩
  case enter =>
    refine ⟨_, exec_lpiEnter t m hup, ?_⟩
    have asleep : (s.advance t).lpiEnter m = (s.advance t).onTw m fun p => { p with lpi := true, waking := false } :=
      if_pos ⟨hm, hserves, hen, by rw [advance_tw, hidle]; rfl, by rw [advance_tw, htarget]; rfl, by rw [advance_tw, hnone]; rfl,
        List.isEmpty_iff.2 hjobs, List.isEmpty_iff.2 hcapping, List.isEmpty_iff.2 hship, by rw [halert]; rfl, by rw [hvmode]; rfl, hgap⟩
    rw [asleep, keeping_tw, tw_onTw_same _ hm, advance_tw]
  case wake =>
    refine ⟨_, exec_lpiWake t m hup, ?_⟩
    rw [State.lpiWake, keeping_tw, tw_onTw_same _ hm, advance_tw, if_pos hlpi]
  case addressed =>
    refine ⟨_, exec_lpiAddressMatch t m hup, ?_⟩
    have woken : (s.advance t).lpiMatch m = ((s.advance t).bklCount m 16).onTw m fun p => { p with waking := true } := if_pos hlpi
    rw [woken, keeping_tw, tw_onTw_same _ hm, State.keeping_ports, bklCtr_onTw]
    exact ⟨rfl, bklCount_bklCtr _ m 16⟩
  case done =>
    refine ⟨_, exec_lpiWakeDone t m hup, ?_⟩
    rw [State.lpiWakeDone, keeping_tw, tw_onTw_same _ hm, advance_tw, hlpi, hwaking]
    rfl

end Sys2Proof.Machine
end

section
/-! SUPPORT. What a two-wire transaction that has failed for good, and a fence, leave of the alert inputs and of the port
(R158, R189 to R192, R202, R209). -/
namespace Sys2Proof.Machine

/-! ### An alert input whose service is over -/

/-! A reading reaches neither the inputs nor the ports. -/

theorem alertOf_sameButReadings {r s : State} (h : r.sameButReadings s) (a : Nat) : r.alertOf a = s.alertOf a := by
  obtain ⟨_, _, _, _, _, rfl⟩ := h
  rfl

theorem tw_sameButReadings {r s : State} (h : r.sameButReadings s) (m : Nat) : r.tw m = s.tw m := by
  obtain ⟨_, _, _, _, _, rfl⟩ := h
  rfl

/-- Going on to the next port of an input leaves every other input, and one that asks no port, as they are. -/
theorem alertNextPort_alertOf {s : State} {a : Nat} (h : (s.alertOf a).ports = []) (b m : Nat) (silent : Bool) :
    (s.alertNextPort b m silent).alertOf a = s.alertOf a := by
  by_cases hab : a = b
  · subst hab
    have asks_none : (s.alertOf a).ports.head? ≠ some m := by simp [h]
    exact congrArg (State.alertOf · a) (if_pos asks_none)
  · simp only [State.alertNextPort]
    split
    · rfl
    · split
      · exact alertOf_onAlert_other s hab _
      · split
        · rw [alertOf_onAlert_other _ hab]
          split <;> rfl
        · exact alertOf_onAlert_other s hab _

theorem alertPosted_alertOf {s : State} {a : Nat} (h : (s.alertOf a).ports = []) (b m addr status flags : Nat) :
    (s.alertPosted b m addr status flags).alertOf a = s.alertOf a := by
  have posted : (s.targetNotify m 3 addr status flags []).alertOf a = s.alertOf a := alertOf_eq_of_ports (targetNotify_ports ..) a
  simp only [State.alertPosted]
  split
  · rw [alertNextPort_alertOf (by rw [posted, h]), posted]
  · exact posted

theorem twJobFail_alertOf (s : State) (m slot : Nat) (x : TwXfer) (cls : TwClass) (exhausted : Bool) (a : Nat) :
    (s.twJobFail m slot x cls exhausted).alertOf a = s.alertOf a := by
  simp only [State.twJobFail]
  split
  · rfl
  · split
    · exact alertOf_eq_of_ports (failWire_ports ..) a
    · split
      · exact alertOf_eq_of_ports (failWire_ports ..) a
      · exact alertOf_eq_of_ports (failWire_ports ..) a

theorem vmodeTouched_alertOf (s : State) (m : Nat) (x : TwXfer) (a : Nat) : (s.vmodeTouched m x).alertOf a = s.alertOf a := by
  obtain ⟨v, h⟩ := foldl_vmodeWant_vmode Prod.fst s m (x.commands.filter fun q => decide (q.2 = 0x20))
  rw [State.vmodeTouched, h]
  rfl

theorem setVmode_alertOf (s : State) (port target : Nat) (b : Option Byte) (a : Nat) : (s.setVmode port target b).alertOf a = s.alertOf a := by
  unfold State.setVmode
  extract_lets good r
  have counted : r.alertOf a = s.alertOf a := by
    unfold r
    split <;> rfl
  exact counted

/-- A transaction that has failed leaves an input that asks no port as it is. -/
theorem twFailed_alertOf {s : State} {a : Nat} (h : (s.alertOf a).ports = []) (m : Nat) (x : TwXfer) (cls : TwClass) (exhausted : Bool) :
    (s.twFailed m x cls exhausted).alertOf a = s.alertOf a := by
  unfold State.twFailed
  extract_lets counted noted
  have h1 : counted.alertOf a = s.alertOf a := by
    unfold counted
    split <;> rfl
  have h2 : noted.alertOf a = s.alertOf a := by
    unfold noted
    split
    · exact h1
    · split
      · exact (alertOf_onTw ..).trans h1
      · exact List.foldlRecOn (motive := fun r : State => r.alertOf a = s.alertOf a) _ _ h1
          fun r hr k _ => (alertOf_onTw r m _ a).trans hr
  rw [← h2] at h ⊢
  clear_value noted
  split
  · exact alertOf_sameButReadings (failEntry_sameButReadings ..) a
  · exact alertOf_sameButReadings (sameButReadings_trans (failEntry_sameButReadings ..) (bklCount_sameButReadings ..)) a
  · exact (vmodeTouched_alertOf ..).trans (twJobFail_alertOf ..)
  · exact alertNextPort_alertOf h ..
  · exact alertPosted_alertOf h ..
  · exact setVmode_alertOf ..
  · rfl

/-- Giving up retries leaves an input that asks no port as it is (R216, R218). -/
theorem endLateRetries_alertOf {s : State} {a : Nat} (h : (s.alertOf a).ports = []) (m : Nat) :
    (s.endLateRetries m).alertOf a = s.alertOf a := by
  simp only [State.endLateRetries]
  refine List.foldlRecOn (motive := fun r : State => r.alertOf a = s.alertOf a) _ _ (alertOf_onTw ..) fun r hr x _ => ?_
  exact (twFailed_alertOf (by rw [hr, h]) m x .busError false).trans hr

/-! ### A two-wire port that fences (R158, R209) -/

/-- The transactions that a fence cuts off end; the port is left with none, its lines as they read, and Tally is not touched. -/
theorem cutOffTw_parts (s : State) {m : Nat} (hm : m < 64) (status : Nat) : (s.cutOffTw m status).tally = s.tally ∧
    (s.cutOffTw m status).tw m = { s.tw m with
      xfer := none, retries := [], watch := false, segFree := false
      lpi := false, waking := false, target := false, zoneStop := none, timeoutAt := none } := by
  unfold State.cutOffTw
  extract_lets p counted one
  have hcounted : counted.tally = s.tally ∧ counted.tw m = s.tw m := by
    unfold counted
    split
    · split <;> exact ⟨rfl, rfl⟩
    · exact ⟨rfl, rfl⟩
  have hone : ∀ (r : State) (x : TwXfer), (one r x).tally = r.tally ∧ (one r x).tw m = r.tw m := by
    intro r x
    unfold one
    split
    · exact ⟨failEntry_tally .., tw_sameButReadings (failEntry_sameButReadings ..) m⟩
    · exact ⟨failEntry_tally .., tw_sameButReadings (failEntry_sameButReadings ..) m⟩
    · exact ⟨failWire_tally .., tw_eq_of_ports (failWire_ports ..) m⟩
    · exact ⟨rfl, rfl⟩
    · exact ⟨rfl, rfl⟩
  have hcut := List.foldlRecOn (motive := fun r : State => r.tally = s.tally ∧ r.tw m = s.tw m) (p.xfer.toList ++ p.retries) one hcounted
    fun r hr x _ => ⟨(hone r x).1.trans hr.1, (hone r x).2.trans hr.2⟩
  exact ⟨(onTw_tally ..).trans hcut.1, by rw [tw_onTw_same _ hm, hcut.2]⟩

theorem failPortJobs_tw (s : State) (p status m : Nat) : (s.failPortJobs p status).tw m = s.tw m := by
  simp only [State.failPortJobs]
  rw [tw_eq_of_ports (foldl_failWire_ports ..), tw_onAwl, tw_onPortQ]
  split <;> rfl

theorem finishUnfence_tw (s : State) {m : Nat} (hm : m < 64) (status : Nat) :
    (s.finishUnfence (64 + m) status).tw m = { s.tw m with unfenceJobs := [] } := by
  simp only [State.finishUnfence, Nat.add_sub_cancel_left]
  rw [tw_eq_of_ports (foldl_complete_ports ..), tw_onTw_same _ hm, if_pos (by omega), tw_onAwl]

/-- A two-wire port that fences is FENCED under its cause, its clock line as it read. -/
theorem fencePort_tw_fenced (s : State) {m : Nat} (hm : m < 64) (cause detail : Nat) :
    ((s.fencePort (64 + m) cause detail).tw m).fenced = true ∧
    ((s.fencePort (64 + m) cause detail).tw m).fenceCause = BitVec.ofNat 3 cause ∧
    ((s.fencePort (64 + m) cause detail).tw m).scl = (s.tw m).scl := by
  simp only [State.fencePort, if_neg (show ¬ 64 + m < 64 by omega), Nat.add_sub_cancel_left, Bool.false_eq_true, if_false]
  rw [tw_eq_of_ports (compilePlain_ports _), tw_eq_of_ports (post_ports ..), finishUnfence_tw _ hm, failPortJobs_tw, tw_onTw_same _ hm,
    (cutOffTw_parts s hm _).2]
  exact ⟨rfl, rfl, rfl⟩

theorem fencePort_tw_tally (s : State) {m : Nat} (hm : m < 64) (cause detail : Nat) :
    (s.fencePort (64 + m) cause detail).tally = s.tally := by
  obtain ⟨htally, -⟩ := cutOffTw_parts s hm 0x206
  simp only [State.fencePort, if_neg (show ¬ 64 + m < 64 by omega), Nat.add_sub_cancel_left, Bool.false_eq_true, if_false,
    compilePlain_tally, post_tally, finishUnfence_tally, failPortJobs_tally, onTw_tally, htally]

end Sys2Proof.Machine
end

section
/-! Alert service and bus recovery of family 04 (R182, R202, R203, R207 to R209). -/
namespace Sys2Proof.Machine

/-! ### Bus recovery -/

/-- On a port in service a bus clear that its segment calls for runs (R207, R208). -/
theorem busClearEnd_serving {s : State} {m : Nat} (hcase : s.clearCase m = true) (pulses : Nat) (released : Bool) :
    s.busClearEnd m pulses released = s.busClear m pulses released := by
  have hserves : s.twServing m = true := by
    simp only [State.clearCase, Bool.and_eq_true] at hcase
    obtain ⟨⟨hserves, -⟩, -⟩ := hcase
    exact hserves
  obtain ⟨-, hfenced, -⟩ := (twServing_iff s m).1 hserves
  simp [State.busClearEnd, hfenced, hcase]

/-- The port after a bus clear that freed the data line: the segment is to come free (R182, R208). -/
def TwPort.cleared (p : TwPort) : TwPort :=
  { p with scl := true, sda := true, segFree := false, timeoutAt := none, target := false, entered := false }

/-- A bus clear is counted, and the VOUT_MODE of the port's targets is to be read anew (R208, R220, R261). -/
def State.countClear (s : State) (m : Nat) : State :=
  ((s.tab.points.filter fun x => decide (x.2.src = 64 + m)).map (·.2.addr)).foldl (fun s a => s.vmodeWant m a) (s.bklCount m 19)

theorem countClear_vmode (s : State) (m : Nat) : ∃ v, s.countClear m = { s.bklCount m 19 with tab := { s.tab with vmode := v } } :=
  foldl_vmodeWant_vmode id (s.bklCount m 19) m _

theorem countClear_ports (s : State) (m : Nat) : (s.countClear m).ports = (s.bklCount m 19).ports := by
  obtain ⟨v, h⟩ := countClear_vmode s m
  rw [h]

theorem countClear_tw (s : State) (m k : Nat) : (s.countClear m).tw k = s.tw k := tw_eq_of_ports (countClear_ports s m) k

theorem countClear_tally (s : State) (m : Nat) : (s.countClear m).tally = s.tally := by
  obtain ⟨v, h⟩ := countClear_vmode s m
  rw [h]
  rfl

theorem countClear_twEnding (s : State) (m : Nat) (use : TwUse) : (s.countClear m).twEnding use = s.twEnding use := by
  obtain ⟨v, h⟩ := countClear_vmode s m
  exact twEnding_of_jobs (by rw [h]; rfl) use

theorem busClear_released (s : State) (m : Nat) {pulses : Nat} (h : pulses ≤ 9) :
    s.busClear m pulses true = ((s.countClear m).interruptXfer m).onTw m TwPort.cleared :=
  if_pos (by simp [h])

/-- A data line that stays low fences the port (R209). -/
theorem busClear_stuck (s : State) (m pulses : Nat) :
    ∃ a, s.busClear m pulses false = ((s.countClear m).onTw m fun p => { p with sda := false }).fencePort (64 + m) 5 a :=
  ⟨_, rfl⟩

theorem interruptXfer_idle {s : State} {m : Nat} (h : (s.tw m).xfer = none) : s.interruptXfer m = s := by
  simp only [State.interruptXfer, h]

/-- The attempt that a bus clear interrupts is counted, and the port is idle (R208). -/
def State.endXfer (s : State) (m : Nat) (x : TwXfer) : State := (s.countTwAttempt x.use).onTw m fun p => { p with xfer := none }

theorem endXfer_sameButAttempt (s : State) (m : Nat) (x : TwXfer) : (s.endXfer m x).sameButAttempt s :=
  sameButAttempt_trans (onTw_sameButAttempt ..) (countTwAttempt_sameButAttempt ..)

theorem endXfer_tw (s : State) {m : Nat} (hm : m < 64) (x : TwXfer) : (s.endXfer m x).tw m = { s.tw m with xfer := none } := by
  rw [State.endXfer, tw_onTw_same _ hm, tw_countTwAttempt]

/-- The transaction that a bus clear interrupts, to be made again. -/
def TwXfer.interrupt (x : TwXfer) : TwXfer := { x with attempts := x.attempts + 1, allNacked := false, arbLeft := x.arbLeft - 1 }

/-- With arbitration tries left, its job going on and its targets not known absent, it waits before the others (log entry 146). -/
theorem interruptXfer_retries {s : State} {m : Nat} (hm : m < 64) {x : TwXfer} (hx : (s.tw m).xfer = some x) (hleft : x.arbLeft ≠ 0)
    (hending : s.twEnding x.use = false) (habs : x.targets.any (s.tw m).absent.contains = false) :
    (s.interruptXfer m).tally = s.tally ∧
    (s.interruptXfer m).tw m = { s.tw m with xfer := none, retries := x.interrupt :: (s.tw m).retries } := by
  have hsame := endXfer_sameButAttempt s m x
  have goes_on : ¬ ((s.endXfer m x).twEnding x.use || x.targets.any ((s.endXfer m x).tw m).absent.contains) = true := by
    rw [hsame.2, hending, endXfer_tw s hm, habs]
    decide
  have retries : s.interruptXfer m = (s.endXfer m x).onTw m fun p => { p with retries := x.interrupt :: p.retries } := by
    simp only [State.interruptXfer, hx]
    exact (if_neg hleft).trans (if_neg goes_on)
  rw [retries, tw_onTw_same _ hm, endXfer_tw s hm]
  exact ⟨(onTw_tally ..).trans (sameButAttempt_tally hsame), rfl⟩

/-- A clock low 10 ms after a TIMEOUT, or with no transaction for TIMEOUT + 10 ms, fences the port (R209). -/
theorem clockStuck_fencePort {s : State} {m lowUs : Nat} (hm : m < 64) (hserves : s.twServing m = true) (hidle : (s.tw m).xfer = none)
    (hlow : (∃ x, (s.tw m).timeoutAt = some x ∧ x + 10000 * us ≤ s.now) ∨ (bitsAt (s.tw m).cfg.toNat 9 6 + 10) * 1000 ≤ lowUs) :
    s.clockStuck m lowUs = (s.onTw m fun p => { p with scl := false }).fencePort (64 + m) 6 lowUs := by
  obtain ⟨hmode, hfenced, hhalter⟩ := (twServing_iff s m).1 hserves
  unfold State.clockStuck
  extract_lets p late
  have low : late = true ∨ (bitsAt p.cfg.toNat 9 6 + 10) * 1000 ≤ lowUs := by
    refine hlow.imp_left ?_
    rintro ⟨x, hx, hdue⟩
    simp [late, p, hx, hdue]
  exact if_pos ⟨hm, hmode, by simp [p, hfenced], by simp [hhalter], by simp [p, hidle], low⟩

/-! ### The commands -/

section
variable {s : State} (t : Nat) (hup : s.core.up = true)
include hup

theorem exec_alertAssert (a : Nat) : exec (.alertAssert t a) s = .next (((s.advance t).alertAssert a).keeping (s.advance t)) :=
  onBeam_next t s (State.alertAssert · a) hup

theorem exec_alertRelease (a : Nat) : exec (.alertRelease t a) s = .next (((s.advance t).alertRelease a).keeping (s.advance t)) :=
  onBeam_next t s (State.alertRelease · a) hup

theorem exec_alertHoldoff (a : Nat) : exec (.alertHoldoff t a) s = .next (((s.advance t).alertHoldoff a).keeping (s.advance t)) :=
  onBeam_next t s (State.alertHoldoff · a) hup

theorem exec_busClear (m pulses : Nat) (released : Bool) : exec (.busClear t m pulses released) s =
    .next ((((s.advance t).busClearEnd m pulses released).settleShip 4).keeping (s.advance t)) :=
  onBeam_next t s (fun s => (s.busClearEnd m pulses released).settleShip 4) hup

theorem exec_clockStuck (m lowUs : Nat) :
    exec (.clockStuck t m lowUs) s = .next ((((s.advance t).clockStuck m lowUs).settleShip 4).keeping (s.advance t)) :=
  onBeam_next t s (fun s => (s.clockStuck m lowUs).settleShip 4) hup

end

/-! ### Alert service -/

section
variable {s : State} {a : Nat} (ha : a < 8)
include ha

/-- Service of an enabled input asks its bound ports from the first (R202). -/
theorem alertStart_alertOf (hen : s.alertEnabled a = true) : (s.alertStart a).alertOf a =
    { s.alertOf a with pending := true, ports := s.alertPorts a, reads := 0, silent := true } := by
  rw [State.alertStart, if_pos hen, alertOf_onAlert_same s ha]

theorem alertAssert_alertOf (hidle : (s.alertOf a).pending = false) (hen : s.alertEnabled a = true) : (s.alertAssert a).alertOf a =
    { s.alertOf a with level := true, pending := true, ports := s.alertPorts a, reads := 0, silent := true } := by
  have asserted := alertOf_onAlert_same s ha fun x => { x with level := true }
  have starts : s.alertAssert a = (s.onAlert a fun x => { x with level := true }).alertStart a :=
    if_neg (by rw [asserted]; simp [hidle])
  rw [starts, alertStart_alertOf ha ((alertEnabled_onAlert ..).trans hen), asserted, alertPorts_onAlert]

/-- Service ends as the input releases, whatever retries are given up with it (R202). -/
theorem alertRelease_alertOf : (s.alertRelease a).alertOf a =
    { s.alertOf a with level := false, pending := false, ports := [], reads := 0, silent := true } := by
  have released := alertOf_onAlert_same s ha fun x => { x.done with level := false }
  simp only [State.alertRelease]
  split
  · rw [endLateRetries_alertOf (by rw [released]; rfl), released]
    rfl
  · exact released

theorem alertHoldoff_alertOf (hlevel : (s.alertOf a).level = true) (hpending : (s.alertOf a).pending = true)
    (hports : (s.alertOf a).ports = []) (hen : s.alertEnabled a = true) : (s.alertHoldoff a).alertOf a =
    { s.alertOf a with pending := true, ports := s.alertPorts a, reads := 0, silent := true } := by
  have starts : s.alertHoldoff a = s.alertStart a := if_pos (by simp [hlevel, hpending, hports])
  rw [starts, alertStart_alertOf ha hen]

end

/-- Settles O25: alert service by the input's level, a bus clear by whether it frees the data line, a stuck clock by the
fence it ends in. -/
theorem alertsAndBusRecovery : Obligations.AlertsAndBusRecovery := by
  refine ⟨fun s t a ha hup => ⟨fun hidle hen => ?assert, ?release, fun hlevel hpending hports hen => ?holdoff⟩,
    fun s t m hm hup hserves hgoing => ⟨fun pulses hpulses hcase hidle => ?freed, fun pulses x hpulses hcase hx hleft hending habs => ?retried,
      fun pulses hcase => ?fenced, fun lowUs hidle hlow => ?stuck⟩⟩
  case assert => exact ⟨_, exec_alertAssert t hup a, alertAssert_alertOf (s := s.advance t) ha hidle hen⟩
  case release => exact ⟨_, exec_alertRelease t hup a, alertRelease_alertOf (s := s.advance t) ha⟩
  case holdoff => exact ⟨_, exec_alertHoldoff t hup a, alertHoldoff_alertOf (s := s.advance t) ha hlevel hpending hports hen⟩
  case freed =>
    have idle : (((s.advance t).countClear m).tw m).xfer = none := by
      rw [countClear_tw]
      exact hidle
    have clears : (s.advance t).busClearEnd m pulses true = ((s.advance t).countClear m).onTw m TwPort.cleared := by
      rw [busClearEnd_serving hcase, busClear_released _ m hpulses, interruptXfer_idle idle]
    have going : ((s.advance t).busClearEnd m pulses true).tally.going = none := by
      rw [clears, onTw_tally, countClear_tally]
      exact hgoing
    refine ⟨_, exec_busClear t hup m pulses true, ?_, ?_⟩
    · rw [settled_tw going, clears, tw_onTw_same _ hm, countClear_tw]
      rfl
    · rw [State.keeping_ports, settleShip_bklCtr going, clears, bklCtr_onTw, countClear_ports, bklCount_bklCtr, State.advance_ports]
  case retried =>
    have interrupts := interruptXfer_retries (s := (s.advance t).countClear m) hm (by rw [countClear_tw]; exact hx) hleft
      (by rw [countClear_twEnding]; exact hending) (by rw [countClear_tw]; exact habs)
    obtain ⟨htally, hport⟩ := interrupts
    have going : ((((s.advance t).countClear m).interruptXfer m).onTw m TwPort.cleared).tally.going = none := by
      rw [onTw_tally, htally, countClear_tally]
      exact hgoing
    refine ⟨_, x.interrupt, exec_busClear t hup m pulses true, ?_⟩
    rw [busClearEnd_serving hcase, busClear_released _ m hpulses, settled_tw going, tw_onTw_same _ hm, hport, countClear_tw]
    exact ⟨rfl, rfl, rfl, rfl, rfl, rfl⟩
  case fenced =>
    obtain ⟨detail, fences⟩ := busClear_stuck (s.advance t) m pulses
    have going : ((s.advance t).busClearEnd m pulses false).tally.going = none := by
      rw [busClearEnd_serving hcase, fences, fencePort_tw_tally _ hm, onTw_tally, countClear_tally]
      exact hgoing
    refine ⟨_, exec_busClear t hup m pulses false, ?_⟩
    rw [settled_tw going, busClearEnd_serving hcase, fences]
    obtain ⟨hfenced, hcause, -⟩ := fencePort_tw_fenced (((s.advance t).countClear m).onTw m fun p => { p with sda := false }) hm 5 detail
    exact ⟨hfenced, hcause⟩
  case stuck =>
    have fences := clockStuck_fencePort (s := s.advance t) hm hserves hidle hlow
    have going : ((s.advance t).clockStuck m lowUs).tally.going = none := by
      rw [fences, fencePort_tw_tally _ hm, onTw_tally]
      exact hgoing
    obtain ⟨hfenced, hcause, hscl⟩ := fencePort_tw_fenced ((s.advance t).onTw m fun p => { p with scl := false }) hm 6 lowUs
    refine ⟨_, exec_clockStuck t hup m lowUs, ?_⟩
    rw [settled_tw going, fences]
    exact ⟨hfenced, hcause, hscl.trans (by rw [tw_onTw_same _ hm])⟩

end Sys2Proof.Machine
end

section
/-! SUPPORT. What a completion leaves of the Stitch units and of host memory (R246, R371, R379): the run that ends is
counted, and each ABORT that named it only ends. -/
namespace Sys2Proof.Machine

@[simp] theorem onQueue_mem (s : State) (q : Nat) (f : EvQueue → EvQueue) : (s.onQueue q f).link.mem = s.link.mem := by
  unfold State.onQueue
  split <;> rfl

@[simp] theorem signalPme_mem (s : State) : s.signalPme.link.mem = s.link.mem := by
  unfold State.signalPme
  split
  · rfl
  · split
    · rfl
    · split <;> rfl

/-- The record of a completion is written later; posting it writes nothing. -/
@[simp] theorem postCompletion_mem (s : State) (w0 : Word) (slot : Option Nat) (status detail : Nat) (payload : List Byte) :
    (s.postCompletion w0 slot status detail payload).link.mem = s.link.mem := by
  simp [State.postCompletion]

@[simp] theorem postCompletion_stitch (s : State) (w0 : Word) (slot : Option Nat) (status detail : Nat) (payload : List Byte) :
    (s.postCompletion w0 slot status detail payload).stitch = s.stitch := by
  obtain ⟨l, h⟩ := postCompletion_link s w0 slot status detail payload
  rw [h]

theorem countRun_stitchRun (s : State) : s.countRun 0x1A = s.onStitch fun u => { u with runs := satInc u.runs } := if_pos rfl

theorem countRun_other (s : State) {opcode : Nat} (h : opcode ≠ 0x1A) : s.countRun opcode = s := if_neg h

theorem job?_dropJob_same (s : State) (slot : Nat) : (s.dropJob slot).job? slot = none := by
  simp [State.job?, State.dropJob, State.onLink]

section
variable (s : State) (slot status detail : Nat) (payload : List Byte)

theorem finishOne_mem : (s.finishOne slot status detail payload).link.mem = s.link.mem := by
  have hcount (op : Nat) : (s.countRun op).link.mem = s.link.mem := by rw [countRun_link]
  unfold State.finishOne
  split
  · rfl
  · split
    · rfl
    · dsimp only
      split
      · exact hcount _
      · split
        · exact hcount _
        · exact (postCompletion_mem ..).trans (hcount _)

@[simp] theorem complete_mem : (s.complete slot status payload detail).link.mem = s.link.mem := by
  unfold State.complete
  split
  · rfl
  · exact List.foldlRecOn (motive := fun r : State => r.link.mem = s.link.mem) _ _ (finishOne_mem ..)
      fun r hr a _ => (finishOne_mem r ..).trans hr

/-- A job that ends changes the Stitch units by its count alone. -/
theorem finishOne_stitch {j : Job} (hj : s.job? slot = some j) (hpost : j.posted = false) :
    (s.finishOne slot status detail payload).stitch = (s.countRun j.opcode).stitch := by
  simp only [State.finishOne, hj, hpost, Bool.false_eq_true, if_false]
  split
  · rfl
  · split
    · rfl
    · exact postCompletion_stitch ..

theorem finishOne_stitch_other (h : ∀ k, s.job? slot = some k → k.opcode ≠ 0x1A) :
    (s.finishOne slot status detail payload).stitch = s.stitch := by
  cases hk : s.job? slot with
  | none => simp only [State.finishOne, hk]
  | some k =>
    cases hpost : k.posted with
    | true => simp only [State.finishOne, hk, hpost, if_true]
    | false => rw [finishOne_stitch s slot status detail payload hk hpost, countRun_other s (h k hk)]

/-- A job that stands after the end of one stood before it, with its opcode. -/
theorem finishOne_opcode {a : Nat} {k : Job} (h : (s.finishOne slot status detail payload).job? a = some k) :
    ∃ k₀, s.job? a = some k₀ ∧ k₀.opcode = k.opcode := by
  have hcount (op : Nat) : (s.countRun op).job? a = s.job? a := job?_of_jobs (by rw [countRun_link]) a
  have hdrop (op : Nat) (h : ((s.countRun op).dropJob slot).job? a = some k) : ∃ k₀, s.job? a = some k₀ ∧ k₀.opcode = k.opcode := by
    by_cases ha : a = slot
    · rw [ha, job?_dropJob_same] at h
      cases h
    · exact ⟨k, by rwa [job?_dropJob_other _ ha, hcount] at h, rfl⟩
  unfold State.finishOne at h
  split at h
  · exact ⟨k, h, rfl⟩
  next j hj =>
    split at h
    · exact ⟨k, h, rfl⟩
    · dsimp only at h
      split at h
      · exact hdrop _ h
      · split at h
        · exact hdrop _ h
        · rw [job?_of_jobs (postCompletion_jobs ..), job?_onJob (s.countRun j.opcode) a slot
            (f := fun j => { j with posted := true, status := status }) fun _ => rfl, hcount, Option.map_eq_some_iff] at h
          obtain ⟨k₀, hk₀, rfl⟩ := h
          exact ⟨k₀, hk₀, by split <;> rfl⟩

@[simp] theorem complete_stitchUnit (u : Nat) : (s.complete slot status payload detail).stitchUnit u = s.stitchUnit u := by
  obtain ⟨l, c, n, h⟩ := complete_parts s slot status payload detail
  rw [h, State.stitchUnit, State.stitchUnit]

@[simp] theorem complete_waiting : (s.complete slot status payload detail).stitch.waiting = s.stitch.waiting := by
  obtain ⟨l, c, n, h⟩ := complete_parts s slot status payload detail
  rw [h]

end

@[simp] theorem writeHost_jobs (s : State) (addr : Nat) (bs : List Byte) : (s.writeHost addr bs).link.jobs = s.link.jobs := by
  rcases writeHost_link s addr bs with h | h <;> rw [h]

@[simp] theorem writeHost_stitch (s : State) (addr : Nat) (bs : List Byte) : (s.writeHost addr bs).stitch = s.stitch := rfl

/-- While the link may make requests, bytes go straight to host memory (R345). -/
theorem writeHost_mem {s : State} (h : s.linkActive = true) (addr : Nat) (bs : List Byte) :
    (s.writeHost addr bs).link.mem = putBytes s.link.mem addr bs := by
  simp [State.writeHost, h]

/-- No job that waits for the end of `j` is itself a STITCH_RUN; R371 lets only ABORTs wait so. -/
def State.abortersNoRun (s : State) (j : Job) : Prop := ∀ a ∈ j.aborters, ∀ k, s.job? a = some k → k.opcode ≠ 0x1A

theorem finishOne_abortersNoRun {s : State} {j : Job} (h : s.abortersNoRun j) (slot status detail : Nat) (payload : List Byte) :
    (s.finishOne slot status detail payload).abortersNoRun j := by
  intro a ha k hk
  obtain ⟨k₀, hk₀, hop⟩ := finishOne_opcode s slot status detail payload hk
  exact hop ▸ h a ha k₀ hk₀

theorem begin_abortersNoRun {s : State} {j : Job} (h : s.abortersNoRun j) (slot : Nat) : (s.begin slot).abortersNoRun j := by
  intro a ha k hk
  rw [State.begin, job?_onJob s a slot (f := fun j => { j with started := true }) fun _ => rfl, Option.map_eq_some_iff] at hk
  obtain ⟨k₀, hk₀, rfl⟩ := hk
  have hop : (if k₀.slot = slot then { k₀ with started := true } else k₀).opcode = k₀.opcode := by split <;> rfl
  exact hop ▸ h a ha k₀ hk₀

theorem startable_opcode {s : State} {slot op : Nat} {j : Job} (h : s.startable slot op = some j) : j.opcode = op := by
  obtain ⟨hj, -, -⟩ := startable_job? h
  simp only [State.startable, hj] at h
  split at h
  next hgo =>
    cases h
    simp only [Bool.and_eq_true, decide_eq_true_eq] at hgo
    obtain ⟨⟨⟨⟨hop, -⟩, -⟩, -⟩, -⟩ := hgo
    exact hop
  · cases h

/-- A run that completes is counted once, however it ends (R246). -/
theorem complete_runs {s : State} {slot : Nat} {j : Job} (hj : s.job? slot = some j) (hop : j.opcode = 0x1A) (hpost : j.posted = false)
    (hnone : s.abortersNoRun j) (status : Nat) (payload : List Byte) (detail : Nat) :
    (s.complete slot status payload detail).stitch.runs = satInc s.stitch.runs := by
  have counted : (s.finishOne slot status detail payload).stitch.runs = satInc s.stitch.runs := by
    rw [finishOne_stitch s slot status detail payload hj hpost, hop, countRun_stitchRun, State.onStitch_stitch]
  simp only [State.complete, hj]
  refine (List.foldlRecOn (motive := fun r : State => r.stitch.runs = satInc s.stitch.runs ∧ r.abortersNoRun j) _ _
    ⟨counted, finishOne_abortersNoRun hnone _ _ _ _⟩ fun r hr a ha => ?_).1
  obtain ⟨hruns, hnone⟩ := hr
  exact ⟨by rw [finishOne_stitch_other r _ _ _ _ (hnone a ha), hruns], finishOne_abortersNoRun hnone _ _ _ _⟩

end Sys2Proof.Machine
end

section
/-! The pooled Stitch units (05): what STITCH_RUN and STITCH_RUN_COMPLETE leave while only ABORTs wait for a run, and a
state where a run waits for another, which O34 does not shut out. -/
namespace Sys2Proof.Machine

/-! ### A request starts -/

section
variable {s : State} {slot : Nat} {j : Job} (hj : s.startable slot 0x1A = some j) (hbefore : s.stitchBefore j = [])
include hj hbefore

/-- With none fetched before it still to start, the job alone takes a unit (R244). -/
theorem stitchRun_begin : s.stitchRun slot = (s.begin slot).stitchTake slot := by
  simp only [State.stitchRun, hj, hbefore]
  rfl

/-- A faulty request ends with its fault (R242). -/
theorem stitchRun_faulty {st : Nat} (hfault : s.stitchFault j = some st) : s.stitchRun slot = (s.begin slot).complete slot st := by
  have hfault' : (s.begin slot).stitchFault { j with started := true } = some st := hfault
  simp only [stitchRun_begin hj hbefore, State.stitchTake, begin_job? hj, hfault']

/-- A sound request takes the lowest free unit (R244). -/
theorem stitchRun_sound {u : Nat} (hfault : s.stitchFault j = none) (hfree : s.freeUnit = some u) :
    (s.stitchRun slot).stitchUnit u = some (slot, s.profile (bitsAt (j.word 1) 0 4)) := by
  have hfault' : (s.begin slot).stitchFault { j with started := true } = none := hfault
  have hfree' : (s.begin slot).freeUnit = some u := hfree
  simp only [stitchRun_begin hj hbefore, State.stitchTake, begin_job? hj, hfault', hfree']
  rw [State.stitchUnit, State.onStitch_stitch, tget_tset_same]
  rfl

end

/-! ### A unit ends its run -/

/-- Unit `u` is free again. -/
def State.freed (s : State) (u : Nat) : State := s.onStitch fun x => { x with units := tset none x.units u none }

theorem freed_stitchUnit (s : State) (u : Nat) : (s.freed u).stitchUnit u = none := tget_tset_same none _ u none

/-- With no run waiting, no unit is taken again. -/
theorem stitchNext_idle {s : State} (h : s.stitch.waiting = []) : s.stitchNext = s := by
  rw [State.stitchNext, h, State.stitchFill]

/-- The value of a run over some bytes: the fold bytes stand before them (R226, R240). -/
def Job.stitchValue (j : Job) (p : Profile) (bs : List Byte) : Nat :=
  crcBytes p.crc ((if bitAt (j.word 1) 6 then [] else foldBytes (bitsAt p.cfg.toNat 8 3) (j.word 5)) ++ bs)

section
variable (s : State) (u : Nat) (j : Job) (p : Profile) (d : List Byte)

/-- A CALC ends with JOB_DONE (R241). -/
theorem stitchResult_calc (hop : j.stitchOp = 0) : ∃ pl, s.stitchResult u j p d = s.complete j.slot 0 pl := by
  simp only [State.stitchResult, hop]
  exact ⟨_, rfl⟩

/-- A CHECK whose value the check field holds ends with JOB_DONE (R241, R243). -/
theorem stitchResult_check_match (hop : j.stitchOp = 1) (h : p.readField (d.drop (d.length - p.checkLen)) =
    j.stitchValue p (d.take (d.length - p.checkLen))) : ∃ pl, s.stitchResult u j p d = s.complete j.slot 0 pl := by
  unfold Job.stitchValue at h
  simp only [State.stitchResult, hop, if_true, if_pos h]
  exact ⟨_, rfl⟩

/-- A CHECK whose value is another is counted and ends with a mismatch (R241, R243, R246). -/
theorem stitchResult_check_mismatch (hop : j.stitchOp = 1) (h : p.readField (d.drop (d.length - p.checkLen)) ≠
    j.stitchValue p (d.take (d.length - p.checkLen))) : ∃ pl, s.stitchResult u j p d =
      (s.onStitch fun x => { x with mismatch := satInc x.mismatch }).complete j.slot 0x401 pl := by
  unfold Job.stitchValue at h
  simp only [State.stitchResult, hop, if_true, if_neg h]
  exact ⟨_, rfl⟩

/-- A WRITE puts the check field at its destination and ends with JOB_DONE (R241, R243). -/
theorem stitchResult_write (hop : j.stitchOp = 2) : ∃ pl, s.stitchResult u j p d =
    (s.writeHost (j.word 6 + j.word 7 * 2 ^ 32) (p.field (j.stitchValue p d))).complete j.slot 0 pl := by
  have hcheck : ¬ j.stitchOp = 1 := by simp [hop]
  simp only [State.stitchResult, if_neg hcheck, if_pos hop, List.take_length]
  exact ⟨_, rfl⟩

/-- Whatever a run's result, the runs that wait for a unit stay as they are. -/
theorem stitchResult_waiting : (s.stitchResult u j p d).stitch.waiting = s.stitch.waiting := by
  simp only [State.stitchResult]
  generalize crcBytes p.crc _ = v
  split
  · split
    · exact complete_waiting ..
    · exact complete_waiting ..
  · refine (complete_waiting ..).trans ?_
    split <;> rfl

end

section
variable {s : State} {slot u : Nat} {j : Job} {p : Profile} (hunit : s.stitchUnit u = some (slot, p))
  (hj : s.job? slot = some j) (hwait : s.stitch.waiting = [])
include hunit hj hwait

/-- An aborted run ends with ABORTED and its unit is free (R245). -/
theorem stitchComplete_aborted (hab : j.aborted = true) (ok : Bool) (data : List Byte) :
    s.stitchComplete u ok data = (s.freed u).complete slot 8 := by
  have hj' : (s.freed u).job? slot = some j := hj
  have hgo : ¬ ((s.job? slot).any fun j => !j.aborted && !j.fromBar2 && !s.readOpen j) = true := by simp [hj, hab]
  have hidle : ((s.freed u).complete slot 8).stitch.waiting = [] := (complete_waiting ..).trans hwait
  rw [State.freed] at hj' hidle ⊢
  simp only [State.stitchComplete, hunit, if_neg hgo, hj', hab, if_true, stitchNext_idle hidle]

/-- A run whose source came back from host memory ends with its result and its unit is free (R241, R243). -/
theorem stitchComplete_read (hab : j.aborted = false) (hbar : j.fromBar2 = false) (hopen : s.readOpen j = true) (data : List Byte) :
    s.stitchComplete u true data = (s.freed u).stitchResult u j p (padTo (j.word 4) data) := by
  have hj' : (s.freed u).job? slot = some j := hj
  have hgo : ¬ ((s.job? slot).any fun j => !j.aborted && !j.fromBar2 && !s.readOpen j) = true := by simp [hj, hopen]
  have hidle : ((s.freed u).stitchResult u j p (padTo (j.word 4) data)).stitch.waiting = [] := (stitchResult_waiting ..).trans hwait
  rw [State.freed] at hj' hidle ⊢
  simp only [State.stitchComplete, hunit, if_neg hgo, hj', hab, hbar, Bool.false_eq_true, Bool.not_true, if_false, false_and,
    stitchNext_idle hidle]

end

/-- The job of a freed unit that completes has ended, whatever its run wrote or counted before. -/
theorem complete_of_freed {s : State} {slot u : Nat} {j : Job} (hslot : slot < 512) (hj : s.job? slot = some j)
    (hpost : j.posted = false) (hdrain : j.draining = false) (r : State) (hjobs : r.link.jobs = s.link.jobs)
    (hunits : r.stitch.units = (s.freed u).stitch.units) (status : Nat) (payload : List Byte) :
    (r.complete j.slot status payload).hasEnded slot status ∧ (r.complete j.slot status payload).stitchUnit u = none := by
  constructor
  · rw [job?_slot hj]
    exact complete_hasEnded hslot ((job?_of_jobs hjobs slot).trans hj) hpost hdrain status payload
  · rw [complete_stitchUnit, State.stitchUnit, hunits]
    exact freed_stitchUnit s u

/-! ### The commands -/

section
variable {s : State} (t : Nat) (hup : s.core.up = true)
include hup

theorem exec_stitchRun (slot : Nat) : exec (.stitchRun t slot) s = .next (((s.advance t).stitchRun slot).keeping (s.advance t)) :=
  onBeam_next t s (State.stitchRun · slot) hup

theorem exec_stitchRunComplete (unit : Nat) (ok : Bool) (data : List Byte) :
    exec (.stitchRunComplete t unit ok data) s = .next (((s.advance t).stitchComplete unit ok data).keeping (s.advance t)) :=
  onBeam_next t s (State.stitchComplete · unit ok data) hup

end

/-- What O34 says of a request `j` in `slot` and of unit `u`. -/
def StitchRunsOf (s : State) (t slot u : Nat) (j : Job) : Prop :=
  (s.startable slot 0x1A = some j → s.stitchBefore j = [] → s.stitchFault j = none → s.freeUnit = some u →
    ∃ s' p, exec (.stitchRun t slot) s = .next s' ∧ s'.stitchUnit u = some (slot, p)) ∧
  (∀ st, s.startable slot 0x1A = some j → s.stitchBefore j = [] → s.stitchFault j = some st →
    ∃ s', exec (.stitchRun t slot) s = .next s' ∧ s'.hasEnded slot st ∧ s'.stitch.runs = satInc s.stitch.runs) ∧
  (∀ p data, s.stitchUnit u = some (slot, p) → s.job? slot = some j → j.opcode = 0x1A → j.posted = false → j.draining = false →
    s.stitch.waiting = [] →
    (∀ ok, j.aborted = true → ∃ s', exec (.stitchRunComplete t u ok data) s = .next s' ∧ s'.hasEnded slot 8 ∧
      s'.stitchUnit u = none ∧ s'.stitch.runs = satInc s.stitch.runs) ∧
    (j.aborted = false → j.fromBar2 = false → s.readOpen j = true →
      let d := padTo (j.word 4) data
      let n := d.length - p.checkLen
      (j.stitchOp = 0 → ∃ s', exec (.stitchRunComplete t u true data) s = .next s' ∧ s'.hasEnded slot 0 ∧ s'.stitchUnit u = none ∧
        s'.stitch.runs = satInc s.stitch.runs ∧ s'.link.mem = s.link.mem) ∧
      (j.stitchOp = 1 → ∃ s', exec (.stitchRunComplete t u true data) s = .next s' ∧ s'.stitchUnit u = none ∧
        s'.hasEnded slot (if p.readField (d.drop n) = j.stitchValue p (d.take n) then 0 else 0x401)) ∧
      (j.stitchOp = 2 → s.linkActive = true → ∃ s', exec (.stitchRunComplete t u true data) s = .next s' ∧ s'.stitchUnit u = none ∧
        s'.hasEnded slot 0 ∧
        s'.link.mem = putBytes s.link.mem (j.word 6 + j.word 7 * 2 ^ 32) (p.field (j.stitchValue p d)))))

theorem stitchRuns_iff : Obligations.StitchRuns ↔
    ∀ (s : State) (t slot u : Nat) (j : Job), slot < 512 → s.core.up = true → StitchRunsOf s t slot u j := Iff.rfl

/-- What O34 says holds of every request for which no other run waits. -/
theorem stitchRunsOf_abortersNoRun {s : State} (t : Nat) {slot : Nat} (u : Nat) {j : Job} (hslot : slot < 512) (hup : s.core.up = true)
    (hnone : s.abortersNoRun j) : StitchRunsOf s t slot u j := by
  refine ⟨fun hj hbefore hfault hfree => ?sound, fun st hj hbefore hfault => ?faulty,
    fun p data hunit hj hop hpost hdrain hwait => ⟨fun ok hab => ?aborted, fun hab hbar hopen => ?read⟩⟩
  case sound => exact ⟨_, _, exec_stitchRun t hup slot, stitchRun_sound (s := s.advance t) hj hbefore hfault hfree⟩
  case faulty =>
    obtain ⟨-, hpost, -⟩ := startable_job? hj
    have hop : j.opcode = 0x1A := startable_opcode hj
    refine ⟨_, exec_stitchRun t hup slot, ?_⟩
    rw [stitchRun_faulty (s := s.advance t) hj hbefore hfault]
    exact ⟨begin_complete_hasEnded (s := s.advance t) hj rfl hslot st,
      complete_runs (s := (s.advance t).begin slot) (begin_job? (s := s.advance t) hj) hop hpost
        (begin_abortersNoRun (s := s.advance t) hnone slot) ..⟩
  case aborted =>
    refine ⟨_, exec_stitchRunComplete t hup u ok data, ?_⟩
    rw [stitchComplete_aborted (s := s.advance t) hunit hj hwait hab]
    exact ⟨complete_hasEnded (s := (s.advance t).freed u) hslot hj hpost hdrain 8,
      (complete_stitchUnit ..).trans (freed_stitchUnit ..), complete_runs (s := (s.advance t).freed u) hj hop hpost hnone ..⟩
  case read =>
    intro d n
    have done := exec_stitchRunComplete t hup u true data
    rw [stitchComplete_read (s := s.advance t) hunit hj hwait hab hbar hopen] at done
    have ends := complete_of_freed (s := s.advance t) (u := u) hslot hj hpost hdrain
    refine ⟨fun hcalc => ⟨_, done, ?calcEnds⟩, fun hcheck => ⟨_, done, ?checkEnds⟩, fun hwrite hactive => ⟨_, done, ?writeEnds⟩⟩
    case calcEnds =>
      obtain ⟨pl, h⟩ := stitchResult_calc ((s.advance t).freed u) u j p d hcalc
      obtain ⟨hended, hfree⟩ := ends ((s.advance t).freed u) rfl rfl 0 pl
      have hruns := complete_runs (s := (s.advance t).freed u) hj hop hpost hnone 0 pl 0
      rw [← job?_slot hj] at hruns
      rw [h]
      exact ⟨hended, hfree, hruns, complete_mem ..⟩
    case checkEnds =>
      split
      next hfield =>
        obtain ⟨pl, h⟩ := stitchResult_check_match ((s.advance t).freed u) u j p d hcheck hfield
        rw [h]
        exact (ends ((s.advance t).freed u) rfl rfl 0 pl).symm
      next hfield =>
        obtain ⟨pl, h⟩ := stitchResult_check_mismatch ((s.advance t).freed u) u j p d hcheck hfield
        rw [h]
        exact (ends (((s.advance t).freed u).onStitch _) rfl rfl 0x401 pl).symm
    case writeEnds =>
      obtain ⟨pl, h⟩ := stitchResult_write ((s.advance t).freed u) u j p d hwrite
      obtain ⟨hended, hfree⟩ := ends (((s.advance t).freed u).writeHost (j.word 6 + j.word 7 * 2 ^ 32) (p.field (j.stitchValue p d)))
        (writeHost_jobs ..) (by rw [writeHost_stitch]) 0 pl
      rw [h]
      exact ⟨hfree, hended, (complete_mem ..).trans (writeHost_mem (s := (s.advance t).freed u) hactive ..)⟩

/-- An aborted run in slot 5, on unit 4, and a run in slot 6 that waits for its end, as only an ABORT does in service. -/
def runAwaitedByRun : State := { State.reset with
  core := { State.reset.core with up := true }
  link := { State.reset.link with jobs := [{ slot := 5, w0 := 0x1A, started := true, aborted := true, aborters := [6] }, { slot := 6, w0 := 0x1A }] }
  stitch := { units := [(4, some (5, {}))] } }

/-- Refutes O34: a completion ends every job that waits for it and counts each of them that is a STITCH_RUN (R246), and
O34 does not say that those that wait are ABORTs (R371). Here the end of slot 5 ends the run in slot 6 too, and RUNS goes
from 0 to 2. `stitchRunsOf_abortersNoRun` is O34 without such a state. -/
theorem not_stitchRuns : ¬ Obligations.StitchRuns := by
  intro h
  obtain ⟨-, -, hruns⟩ := stitchRuns_iff.1 h runAwaitedByRun 0 5 4 _ (by decide) rfl
  obtain ⟨haborted, -⟩ := hruns {} [] rfl rfl rfl rfl rfl rfl
  obtain ⟨s', hexec, -, -, hcount⟩ := haborted true rfl
  cases hexec
  exact absurd hcount (by decide +kernel)

end Sys2Proof.Machine
end

section
/-! SUPPORT. Operations on the trace ring (R332, R334): what a trigger and a re-arm make of the ring, and that a re-arm
leaves the link and the running copies as they stand. -/
namespace Sys2Proof.Machine

@[simp] theorem onTrace_tack (s : State) (f : Trace → Trace) : (s.onTrace f).tack = { s.tack with trace := f s.tack.trace } := rfl
@[simp] theorem onTrace_link (s : State) (f : Trace → Trace) : (s.onTrace f).link = s.link := rfl

@[simp] theorem complete_tack (s : State) (slot status : Nat) (payload : List Byte) (detail : Nat) :
    (s.complete slot status payload detail).tack = s.tack := by
  obtain ⟨l, c, n, h⟩ := complete_parts s slot status payload detail
  rw [h]

/-! ### Re-arming (R334) -/

/-- Collecting the copy of a brown-out writes MRAM alone (R559). -/
theorem collectCopy_mram (s : State) : ∃ m, s.collectCopy = { s with mram := m } := by
  unfold State.collectCopy
  split
  · exact ⟨_, rfl⟩
  · exact ⟨s.mram, rfl⟩

@[simp] theorem collectCopy_tack (s : State) : s.collectCopy.tack = s.tack := by
  obtain ⟨m, h⟩ := collectCopy_mram s
  rw [h]

@[simp] theorem collectCopy_link (s : State) : s.collectCopy.link = s.link := by
  obtain ⟨m, h⟩ := collectCopy_mram s
  rw [h]

/-- A frozen ring records again as it is re-armed. -/
theorem rearmRing_frozen {s : State} (h : s.tack.trace.state = 2) :
    s.rearmRing.tack.trace = { s.tack.trace with state := 0, rearm := false } := by
  rw [State.rearmRing, if_pos h, collectCopy_tack, onTrace_tack]

@[simp] theorem rearmRing_copySlots (s : State) : s.rearmRing.tack.trace.copySlots = s.tack.trace.copySlots := by
  unfold State.rearmRing
  split <;> simp

@[simp] theorem rearmRing_link (s : State) : s.rearmRing.link = s.link := by
  unfold State.rearmRing
  split <;> simp

@[simp] theorem settleRearm_copySlots (s : State) : s.settleRearm.tack.trace.copySlots = s.tack.trace.copySlots := by
  unfold State.settleRearm
  split <;> simp

@[simp] theorem settleRearm_link (s : State) : s.settleRearm.link = s.link := by
  unfold State.settleRearm
  split <;> simp

/-- While a copy runs, a re-arm is held for its end. -/
theorem csRearm_copying {s : State} (h : s.tack.trace.copying = true) : s.csRearm = s.onTrace fun k => { k with rearm := true } := if_pos h

/-- While no copy runs, a re-arm takes effect at once. -/
theorem csRearm_idle {s : State} (h : s.tack.trace.copying = false) : s.csRearm = s.rearmRing :=
  if_neg (by rw [h]; exact Bool.false_ne_true)

/-! ### Triggers (R332) -/

/-- A trigger of a ring that does not record is only counted. -/
theorem traceTrigger_ignored {s : State} (h : s.tack.trace.state ≠ 0) (cause rule course : Nat) :
    s.traceTrigger cause rule course = s.onTrace fun k => { k with ignored := satInc k.ignored } := if_pos h

/-- A recording ring with entries still to write after the trigger counts them. -/
theorem traceTrigger_counts {s : State} (h : s.tack.trace.state = 0) (hpost : bitsAt s.tack.trace.ctrl.toNat 0 16 ≠ 0)
    (cause rule course : Nat) : s.traceTrigger cause rule course = s.onTrace fun k =>
      { k with state := 1, cause := BitVec.ofNat 3 cause, lastCause := k.cause,
               postLeft := BitVec.ofNat 16 (bitsAt k.ctrl.toNat 0 16), trig := k.wptr, trigSet := false, trigRule := rule,
               trigCourse := course } := by
  have hrec : ¬ s.tack.trace.state ≠ 0 := not_not_intro h
  simp only [State.traceTrigger, if_neg hrec, if_neg hpost]
  rfl

/-! ### Bytes of a copy (R335, R345, R349) -/

/-- While the link may make requests, a DMA already begun goes on. -/
theorem dmaOpen_of_linkActive {s : State} (h : s.linkActive = true) : s.dmaOpen = true := by
  simp only [State.linkActive, Bool.and_eq_true] at h
  obtain ⟨⟨hrun, hbme⟩, hd3⟩ := h
  simp [State.dmaOpen, hrun, hbme, hd3]

theorem writeBegun_mem {s : State} (h : s.linkActive = true) (addr : Nat) (bs : List Byte) :
    (s.writeBegun addr bs).link.mem = putBytes s.link.mem addr bs := by
  rw [State.writeBegun, if_pos (dmaOpen_of_linkActive h), State.onLink_link]

@[simp] theorem writeBegun_tack (s : State) (addr : Nat) (bs : List Byte) : (s.writeBegun addr bs).tack = s.tack := by
  rcases writeBegun_link s addr bs with h | h <;> rw [h]

@[simp] theorem writeHost_tack (s : State) (addr : Nat) (bs : List Byte) : (s.writeHost addr bs).tack = s.tack := rfl

end Sys2Proof.Machine
end

section
/-! The trace ring's commands (07): it is re-armed, frozen by a job and copied by jobs (R330 to R336). -/
namespace Sys2Proof.Machine

/-! ### A freeze and a copy start -/

section
variable {s : State} {slot : Nat} {j : Job}

/-- A freeze of a frozen ring ends at once; its trigger is counted as ignored. -/
theorem traceFreezeJob_frozen (hj : s.startable slot 0x18 = some j) (hstate : s.tack.trace.state = 2) :
    s.traceFreezeJob slot = ((s.begin slot).onTrace fun k => { k with ignored := satInc k.ignored }).complete slot 0 := by
  have hfrozen : (s.begin slot).tack.trace.state = 2 := hstate
  have hnot : (s.begin slot).tack.trace.state ≠ 0 := by rw [hfrozen]; decide
  simp only [State.traceFreezeJob, hj]
  rw [← State.begin, if_pos hfrozen, traceTrigger_ignored hnot]

/-- A freeze of a recording ring triggers it as the host's cause, and its job waits for the ring to freeze. -/
theorem traceFreezeJob_records (hj : s.startable slot 0x18 = some j) (hstate : s.tack.trace.state = 0)
    (hpost : bitsAt s.tack.trace.ctrl.toNat 0 16 ≠ 0) : (s.traceFreezeJob slot).tack.trace.state = 1 ∧
      (s.traceFreezeJob slot).tack.trace.cause = 3 ∧
      (s.traceFreezeJob slot).tack.trace.freezeJobs = s.tack.trace.freezeJobs ++ [slot] := by
  have hrec : (s.begin slot).tack.trace.state = 0 := hstate
  have hnot : ¬ (s.begin slot).tack.trace.state = 2 := by rw [hrec]; decide
  simp only [State.traceFreezeJob, hj]
  rw [← State.begin, if_neg hnot, traceTrigger_counts (by exact hrec) (by exact hpost)]
  exact ⟨rfl, rfl, rfl⟩

/-- A copy of a ring that is not frozen ends with TRACE_LIVE. -/
theorem traceCopyJob_live (hj : s.startable slot 0x19 = some j) (hstate : s.tack.trace.state ≠ 2) :
    s.traceCopyJob slot = (s.begin slot).complete slot 0x400 := by
  simp only [State.traceCopyJob, hj]
  rw [if_pos hstate, State.begin]

/-- A copy of a frozen ring runs behind those that run already. -/
theorem traceCopyJob_frozen (hj : s.startable slot 0x19 = some j) (hstate : s.tack.trace.state = 2) :
    s.traceCopyJob slot = (s.begin slot).onTrace fun k => { k with copySlots := k.copySlots ++ [slot] } := by
  simp only [State.traceCopyJob, hj]
  rw [if_neg (not_not_intro hstate), State.begin]

/-! ### A copy ends -/

/-- The bytes that a TRACE_COPY takes: the ring in ring order, up to its MAXLEN (R335). -/
def Trace.copyBytes (k : Trace) (j : Job) : List Byte := (k.entries.flatMap k.bytesOf).take (j.word 4)

/-- The first copy running, not aborted, ends: its bytes are written to its destination, its job completes, and a
re-arm held for the last copy takes effect. -/
theorem traceCopyDone_whole {rest : List Nat} (hslots : s.tack.trace.copySlots = slot :: rest) (hj : s.job? slot = some j)
    (hab : j.aborted = false) (hactive : s.linkActive = true) : ∃ (r : State) (pl : List Byte),
      s.traceCopyDone = (r.complete slot 0 pl).settleRearm ∧ r.tack.trace.copySlots = rest ∧
      r.link.mem = putBytes s.link.mem (j.word 2 + j.word 3 * 2 ^ 32) (s.tack.trace.copyBytes j) := by
  have hj' : (s.onTrace fun k => { k with copySlots := rest }).job? slot = some j := hj
  have hactive' : (s.onTrace fun k => { k with copySlots := rest }).linkActive = true := hactive
  simp only [State.traceCopyDone, hslots, hj', hab, Bool.false_eq_true, if_false, List.take_length]
  refine ⟨_, _, rfl, ?_⟩
  split
  · exact ⟨by rw [writeBegun_tack, onTrace_tack], writeBegun_mem hactive' ..⟩
  · exact ⟨by rw [writeHost_tack, onTrace_tack], writeHost_mem hactive' ..⟩

end

/-! ### The commands -/

section
variable {s : State} (t : Nat) (hup : s.core.up = true)
include hup

theorem exec_csTrRearm : exec (.csTrRearm t) s = .next ((s.advance t).csRearm.keeping (s.advance t)) :=
  onBeam_next t s State.csRearm hup

theorem exec_traceFreeze (slot : Nat) : exec (.traceFreeze t slot) s = .next (((s.advance t).traceFreezeJob slot).keeping (s.advance t)) :=
  onBeam_next t s (State.traceFreezeJob · slot) hup

theorem exec_traceCopy (slot : Nat) : exec (.traceCopy t slot) s = .next (((s.advance t).traceCopyJob slot).keeping (s.advance t)) :=
  onBeam_next t s (State.traceCopyJob · slot) hup

theorem exec_traceCopyDone : exec (.traceCopyDone t) s = .next ((s.advance t).traceCopyDone.keeping (s.advance t)) :=
  onBeam_next t s State.traceCopyDone hup

end

/-- Settles O27: a re-arm by whether a copy runs, a freeze and a copy by the ring's state as they start, and the end of
the first copy running (log 62) by the write of its bytes, which neither its completion nor a re-arm after it touches. -/
theorem traceRing : Obligations.TraceRing := by
  refine ⟨fun s t hup => ⟨fun hcopying => ?held, fun hidle hstate => ?rearmed⟩,
    fun s t slot j hslot hup => ⟨fun hj hstate => ?freezeFrozen, fun hj hstate hpost => ?freezeRecording,
      fun hj hstate => ?copyLive, fun hj hstate => ?copyRuns, fun rest hslots hj hab hactive => ?copyEnds⟩⟩
  case held =>
    rw [exec_csTrRearm t hup, csRearm_copying (s := s.advance t) hcopying]
    rfl
  case rearmed =>
    refine ⟨_, exec_csTrRearm t hup, ?_⟩
    rw [State.keeping_tack, csRearm_idle (s := s.advance t) hidle, rearmRing_frozen (s := s.advance t) hstate]
  case freezeFrozen =>
    refine ⟨_, exec_traceFreeze t hup slot, ?_⟩
    rw [traceFreezeJob_frozen (s := s.advance t) hj hstate]
    exact begin_complete_hasEnded (r := ((s.advance t).begin slot).onTrace _) hj rfl hslot 0
  case freezeRecording =>
    exact ⟨_, exec_traceFreeze t hup slot, traceFreezeJob_records (s := s.advance t) hj hstate hpost⟩
  case copyLive =>
    refine ⟨_, exec_traceCopy t hup slot, ?_⟩
    rw [traceCopyJob_live (s := s.advance t) hj hstate]
    exact begin_complete_hasEnded (s := s.advance t) hj rfl hslot 0x400
  case copyRuns =>
    refine ⟨_, exec_traceCopy t hup slot, ?_⟩
    rw [traceCopyJob_frozen (s := s.advance t) hj hstate]
    exact ⟨by simp [Trace.copying], rfl⟩
  case copyEnds =>
    obtain ⟨r, pl, h, hrest, hmem⟩ := traceCopyDone_whole (s := s.advance t) hslots hj hab hactive
    refine ⟨_, exec_traceCopyDone t hup, ?_, ?_⟩
    · rw [State.keeping_tack, h, settleRearm_copySlots, complete_tack, hrest]
    · rw [State.keeping_link, h, settleRearm_link, complete_mem, hmem]
      rfl

end Sys2Proof.Machine
end

section
/-! SUPPORT. Mailbox channels of the rail (R396 to R406, R533): one channel after an update, what posting, releasing and
acknowledging a word make of it, and that they change only the rail. -/
namespace Sys2Proof.Machine

/-! ### One channel of the state -/

@[simp] theorem keeping_chan (r s : State) (c : Nat) : (r.keeping s).chan c = r.chan c := rfl
@[simp] theorem advance_chan (s : State) (t c : Nat) : (s.advance t).chan c = s.chan c := rfl
@[simp] theorem onCore_chan (s : State) (f : CoreDie → CoreDie) (c : Nat) : (s.onCore f).chan c = s.chan c := rfl

theorem chan_eq_of_ch {r s : State} (h : r.rail.ch = s.rail.ch) (c : Nat) : r.chan c = s.chan c := by rw [State.chan, h, State.chan]

theorem chan_onChan_same (s : State) {c : Nat} (h : c < 16) (f : Channel → Channel) : (s.onChan c f).chan c = f (s.chan c) := by
  simp [State.onChan, State.chan, h]

theorem chan_onChan_other (s : State) {c d : Nat} (h : d ≠ c) (f : Channel → Channel) : (s.onChan c f).chan d = s.chan d := by
  unfold State.onChan
  split
  · exact tget_tmod_other _ _ _ _ _ h
  · rfl

theorem chan_foldl_onChan_other {cs : List Nat} {c : Nat} (hc : c ∉ cs) (f : Channel → Channel) (s : State) :
    (cs.foldl (fun s c => s.onChan c f) s).chan c = s.chan c := by
  induction cs generalizing s with
  | nil => rfl
  | cons d ds ih =>
    rw [List.foldl_cons, ih (List.not_mem_of_not_mem_cons hc), chan_onChan_other _ (List.ne_of_not_mem_cons hc)]

/-- An update of one channel after another makes of each what it makes of it alone. -/
theorem chan_foldl_onChan_same {cs : List Nat} (hn : cs.Nodup) {c : Nat} (hc : c ∈ cs) (hlt : c < 16) (f : Channel → Channel) (s : State) :
    (cs.foldl (fun s c => s.onChan c f) s).chan c = f (s.chan c) := by
  induction cs generalizing s with
  | nil => exact absurd hc List.not_mem_nil
  | cons d ds ih =>
    obtain ⟨hd, hds⟩ := List.nodup_cons.1 hn
    rw [List.foldl_cons]
    by_cases hcd : c = d
    · subst hcd
      rw [chan_foldl_onChan_other hd, chan_onChan_same s hlt]
    · rw [ih hds (List.mem_of_ne_of_mem hcd hc), chan_onChan_other _ hcd]

/-! ### Of the rail an update of channels changes the channels, a bell the bell word -/

theorem onChan_rail (s : State) (c : Nat) (f : Channel → Channel) : ∃ m, s.onChan c f = s.onRail fun r => { r with ch := m } := by
  unfold State.onChan
  split
  · exact ⟨_, rfl⟩
  · exact ⟨s.rail.ch, rfl⟩

theorem ringBell_rail (s : State) (b : Nat) : ∃ w, s.ringBell b = s.onRail fun r => { r with bell := w } := by
  unfold State.ringBell
  split
  · exact ⟨_, rfl⟩
  · exact ⟨s.rail.bell, rfl⟩

@[simp] theorem chan_ringBell (s : State) (b c : Nat) : (s.ringBell b).chan c = s.chan c := by
  obtain ⟨w, h⟩ := ringBell_rail s b
  rw [h]
  rfl

theorem onChan_ringBell_rail (s : State) (c b : Nat) (f : Channel → Channel) :
    ∃ m w, (s.onChan c f).ringBell b = s.onRail fun r => { r with ch := m, bell := w } := by
  obtain ⟨m, hm⟩ := onChan_rail s c f
  obtain ⟨w, hw⟩ := ringBell_rail (s.onChan c f) b
  exact ⟨m, w, by rw [hw, hm]; rfl⟩

/-! ### A word is posted and released (R397, R398) -/

section
variable (s : State) {c : Nat} (hc : c < 16)
include hc

theorem releaseIn_chan (h : (s.chan c).inb.full = true) : (s.releaseIn c).chan c =
    { s.chan c with inb := { (s.chan c).inb with full := false, orphan := false, taken := false }, crossed := false } := by
  rw [State.releaseIn, if_pos h, chan_ringBell, chan_onChan_same s hc]

theorem releaseOut_chan (h : (s.chan c).outb.full = true) : (s.releaseOut c).chan c =
    { s.chan c with outb := { (s.chan c).outb with full := false, orphan := false }, crossed := false } := by
  rw [State.releaseOut, chan_onChan_same s hc, if_pos h]

theorem firmwarePost_chan (h : (s.chan c).outb.full = false) (v : Word) : (s.firmwarePost c v).chan c =
    { s.chan c with outb := { word := v, full := true, epoch := s.fwEpochOf c, postedAt := s.now }, fwAck := none } := by
  rw [State.firmwarePost, if_pos ⟨hc, by rw [h]; rfl⟩, chan_ringBell, chan_onChan_same s hc]

end

theorem firmwarePost_chan_other (s : State) {c d : Nat} (h : d ≠ c) (v : Word) : (s.firmwarePost c v).chan d = s.chan d := by
  unfold State.firmwarePost
  split
  · rw [chan_ringBell, chan_onChan_other s h]
  · rfl

theorem firmwarePost_rail (s : State) (c : Nat) (v : Word) :
    ∃ m w, s.firmwarePost c v = s.onRail fun r => { r with ch := m, bell := w } := by
  unfold State.firmwarePost
  split
  · exact onChan_ringBell_rail ..
  · exact ⟨s.rail.ch, s.rail.bell, rfl⟩

/-! ### The start-up report (R533) -/

/-- The words of the report do not speak of the rail, nor of how far the report has come. -/
theorem reportWord_eq (s : State) (x : Rail) (a : Option Nat) (b : Bool) (k : Nat) :
    State.reportWord { s with rail := x, core := { s.core with report := a, reportOut := b } } k = s.reportWord k := rfl

/-- The word that is due is posted once HR_OUT is empty. -/
theorem postReport_due {s : State} {k : Nat} (hr : s.core.report = some k) (hk : k < 8) (hg : bitAt s.core.ready.toNat 2 = true)
    (hout : (s.chan 0).outb.full = false) :
    s.postReport = (s.firmwarePost 0 (s.reportWord k)).onCore fun q => { q with reportOut := true } := by
  simp [State.postReport, hr, hk, hg, hout]

/-- Without Foreman G no word of the report is posted. -/
theorem postReport_notReady {s : State} (h : bitAt s.core.ready.toNat 2 = false) : s.postReport = s := by
  unfold State.postReport
  split
  · exact if_neg fun hpost => by simp [h] at hpost
  · rfl

/-- A report all of whose words have been posted posts none. -/
theorem postReport_over {s : State} (h : s.core.report = some 8) : s.postReport = s := by
  simp [State.postReport, h]

/-- A ready Foreman G posts the report again from its first word, once HR_OUT is empty (R534). -/
theorem restartReport_posts {s : State} (hg : bitAt s.core.ready.toNat 2 = true) (hout : (s.chan 0).outb.full = false) :
    s.restartReport = ((s.onCore fun q => { q with report := some 0, reportOut := false }).firmwarePost 0 (s.reportWord 0)).onCore
      fun q => { q with reportOut := true } := by
  rw [State.restartReport, if_pos hg, ← reportWord_eq s s.rail (some 0) false 0]
  exact postReport_due (s := s.onCore fun q => { q with report := some 0, reportOut := false }) rfl (by decide) hg hout

end Sys2Proof.Machine
end

section
/-! The host's side of the mailbox channels (09): registers of channels 0 to 7, and the host's new party. -/
namespace Sys2Proof.Machine

/-! ### The operation an address of the HR_ page selects (R393) -/

/-- An aligned 32-bit host write of the HR_ page is taken in every role (R6, R343). -/
theorem hostWrite_hr (s : State) {o : Nat} (ho : o < 4096) (ha : o % 4 = 0) (v : Word) : s.hostWrite (0x2000 + o) 4 v = s.writeHr o v := by
  have hpage : (0x2000 + o) / 4096 = 2 := by omega
  have hoff : (0x2000 + o) % 4096 = o := by omega
  have halign : (0x2000 + o) % 4 = 0 := by omega
  simp [State.hostWrite, State.hostMay, halign, isGatePage, hpage, State.writeReg, hoff]

theorem writeHr_channel (s : State) {c k : Nat} (hc : c < 8) (hk : k < 8) (v : Word) :
    s.writeHr (0x100 + 4 * (8 * c + k)) v = s.writeChannel c k v := by
  have hinst := inst_mem (base := 0x100) (stride := 4) (n := 64) (k := 8 * c + k) (by decide) (by omega)
  unfold State.writeHr
  dsimp only
  split
  any_goals omega
  rw [hinst]
  simp only [show (8 * c + k) / 8 = c by omega, show (8 * c + k) % 8 = k by omega]

theorem readReg_hrOut (s : State) {c : Nat} (hc : c < 8) : s.readReg (0x2000 + (0x100 + 4 * (8 * c + 1))) = s.hrOutValue c := by
  have hpage : (0x2000 + (0x100 + 4 * (8 * c + 1))) / 4096 = 2 := by omega
  have hoff : (0x2000 + (0x100 + 4 * (8 * c + 1))) % 4096 = 0x100 + 4 * (8 * c + 1) := by omega
  have hinst := inst_mem (base := 0x100) (stride := 4) (n := 64) (k := 8 * c + 1) (by decide) (by omega)
  simp only [State.readReg, hpage, hoff, State.readHr]
  split
  any_goals omega
  rw [hinst]
  simp only [show (8 * c + 1) / 8 = c by omega, show (8 * c + 1) % 8 = 1 by omega, State.readChannel]

theorem readEffect_hrOut (s : State) {c : Nat} (hc : c < 8) : s.readEffect (0x2000 + (0x104 + 32 * c)) = s.hrOutRead c := by
  have hpage : (0x2000 + (0x104 + 32 * c)) / 4096 = 2 := by omega
  have hoff : (0x2000 + (0x104 + 32 * c)) % 4096 = 0x104 + 32 * c := by omega
  have hcnt : ¬ (True ∧ 0x104 + 32 * c = 0x14) := by omega
  simp only [State.readEffect, hpage, hoff, State.clearHr, if_neg hcnt, inst_mem (base := 0x104) (stride := 32) (by decide) hc,
    Nat.zero_add]

/-! ### The commands -/

theorem chanBase_low {c : Nat} (hc : c < 8) : chanBase c = 0x2000 + (0x100 + 4 * (8 * c + 0)) := by
  rw [chanBase, if_pos hc]
  omega

section
variable {s : State} (t : Nat) {c : Nat} (hup : s.core.up = true)

section
include hup

/-- A host write of register `k` of a channel. -/
theorem onBeam_writeChannel (hc : c < 8) {k : Nat} (hk : k < 8) (v : Word) : (onBeam t s fun s => s.hostWrite (chanBase c + 4 * k) 4 v) =
    .next (((s.advance t).writeChannel c k v).keeping (s.advance t)) := by
  have haddr : chanBase c + 4 * k = 0x2000 + (0x100 + 4 * (8 * c + k)) := by rw [chanBase_low hc]; omega
  rw [onBeam_next t s _ hup, haddr, hostWrite_hr _ (by omega) (by omega), writeHr_channel _ hc hk]

theorem exec_hrInWrite (hc : c < 8) (v : Word) :
    exec (.hrInWrite t c v) s = .next (((s.advance t).hrInWrite c v).keeping (s.advance t)) :=
  onBeam_writeChannel t hup hc (k := 0) (by decide) v

theorem exec_hrAckOutWrite (hc : c < 8) (code : BitVec 16) :
    exec (.hrAckOutWrite t c code) s = .next (((s.advance t).hostAck c code).keeping (s.advance t)) := by
  have hcode : (code.setWidth 32).setWidth 16 = code := by ext; simp
  refine (onBeam_writeChannel t hup hc (k := 3) (by decide) (code.setWidth 32)).trans ?_
  simp only [State.writeChannel, hcode]

theorem exec_hrModeWrite (hc : c < 8) (v : Word) :
    exec (.hrModeWrite t c v) s = .next (((s.advance t).hrModeWrite c v).keeping (s.advance t)) :=
  onBeam_writeChannel t hup hc (k := 4) (by decide) v

theorem exec_hostBump : exec (.hostBump t) s = .next ((s.advance t).hostBump.keeping (s.advance t)) :=
  onBeam_next t s State.hostBump hup

end

theorem hrOutRead_lastRead (s : State) (c : Nat) : (s.hrOutRead c).lastRead = s.hrOutValue c := by
  simp only [State.hrOutRead]
  split
  · obtain ⟨m, h⟩ := onChan_rail { s with lastRead := s.hrOutValue c } c
      fun x => if x.outb.full then { x with outb := { x.outb with full := false, orphan := false }, crossed := false } else x
    rw [State.releaseOut, h]
    rfl
  · rfl

include hup in
theorem exec_hrOutRead (hc : c < 8) : exec (.hrOutRead t c) s = .next (((s.advance t).hrOutRead c).keeping (s.advance t)) := by
  have haddr : chanBase c + 4 = 0x2000 + (0x100 + 4 * (8 * c + 1)) := by rw [chanBase_low hc]; omega
  have heffect : 0x2000 + (0x100 + 4 * (8 * c + 1)) = 0x2000 + (0x104 + 32 * c) := by omega
  simp only [exec, execHrOutRead]
  rw [onBeam_next t s _ hup, haddr, hostRead_aligned _ (by omega), readReg_hrOut _ hc, heffect, readEffect_hrOut _ hc,
    ← hrOutRead_lastRead]

end

/-! ### A word from the host, and a word to it (R397, R398) -/

theorem chanOpen_low (s : State) {c : Nat} (hc : c < 8) : s.chanOpen c = true := by simp [State.chanOpen, hc]

section
variable (s : State) {c : Nat} (hc : c < 8)
include hc

theorem hrInWrite_free (h : (s.chan c).inb.full = false) (v : Word) : (s.hrInWrite c v).chan c =
    { s.chan c with inb := { word := v, full := true, epoch := s.rail.hostEpoch, postedAt := s.now }, ackValid := false } := by
  simp [State.hrInWrite, chanOpen_low s hc, h, chan_onChan_same s (show c < 16 by omega), State.hostEpochOf, hc]

theorem hrInWrite_full (h : (s.chan c).inb.full = true) (v : Word) : (s.hrInWrite c v).chan c = { s.chan c with inReject := true } ∧
    (s.hrInWrite c v).rail.cnt0 = satInc s.rail.cnt0 := by
  obtain ⟨m, hm⟩ := onChan_rail s c fun x => { x with inReject := true }
  have heq : s.hrInWrite c v = (s.onChan c fun x => { x with inReject := true }).onRail fun r => { r with cnt0 := satInc r.cnt0 } := by
    simp [State.hrInWrite, chanOpen_low s hc, h]
  rw [heq]
  refine ⟨(chan_eq_of_ch (s := s.onChan c _) rfl c).trans (chan_onChan_same s (by omega) _), ?_⟩
  rw [hm]
  rfl

theorem hrOutValue_low : s.hrOutValue c = if (s.chan c).outb.full then (s.chan c).outb.word else 0 := by
  simp [State.hrOutValue, chanOpen_low s hc]

omit hc in
/-- The read of a FORMAL word that is no orphan, and of an empty HR_OUT, releases nothing. -/
theorem hrOutRead_rail (h : (s.chan c).outb.full = false ∨ (s.chan c).formal = true ∧ (s.chan c).outb.orphan = false) :
    (s.hrOutRead c).rail = s.rail := by
  have hkeeps : (s.chanOpen c && (s.chan c).outb.full && (!(s.chan c).formal || (s.chan c).outb.orphan)) = false := by
    rcases h with h | ⟨hf, ho⟩
    · simp [h]
    · simp [hf, ho]
  have hopen : (State.chanOpen { s with lastRead := s.hrOutValue c } c) = s.chanOpen c := rfl
  simp only [State.hrOutRead, hopen, hkeeps, Bool.false_eq_true, if_false]

/-- The read of a PLAIN word releases it. -/
theorem hrOutRead_plain (hfull : (s.chan c).outb.full = true) (hplain : (s.chan c).formal = false) :
    ((s.hrOutRead c).chan c).outb.full = false := by
  have hopen : (State.chanOpen { s with lastRead := s.hrOutValue c } c) = true := chanOpen_low _ hc
  simp only [State.hrOutRead, hopen, hfull, hplain, Bool.not_false, Bool.true_or, Bool.and_self, if_true]
  rw [releaseOut_chan { s with lastRead := s.hrOutValue c } (by omega) hfull]

/-- MODE changes only while both boxes are empty (R401). -/
theorem hrModeWrite_chan {v : Word} (hw1c : bitAt v.toNat 2 = false) (hmode : bitAt v.toNat 0 ≠ (s.chan c).formal) :
    (s.hrModeWrite c v).chan c = if (s.chan c).inb.full || (s.chan c).outb.full then { s.chan c with modeRefused := true }
      else { s.chan c with formal := bitAt v.toNat 0 } := by
  simp [State.hrModeWrite, chanOpen_low s hc, chan_onChan_same s (show c < 16 by omega), hw1c, hmode]

end

/-! ### An acknowledge of an outbound word (R399, R533) -/

/-- HR_OUT holds a FORMAL word that is no orphan: an acknowledge of it is taken. -/
def Channel.awaitsAck (x : Channel) : Bool := x.formal && x.outb.full && !x.outb.orphan

theorem awaitsAck_iff (x : Channel) : x.awaitsAck = true ↔ x.formal = true ∧ x.outb.full = true ∧ x.outb.orphan = false := by
  simp [Channel.awaitsAck, and_assoc]

theorem hrAckOutWrite_rail (s : State) (c : Nat) (code : BitVec 16) : ∃ x, s.hrAckOutWrite c code = { s with rail := x } := by
  simp only [State.hrAckOutWrite, State.releaseOut]
  split
  · exact ⟨s.rail, rfl⟩
  · split
    · obtain ⟨m, h⟩ := onChan_rail s c
        fun x => if x.outb.full then { x with outb := { x.outb with full := false, orphan := false }, crossed := false } else x
      rw [h]
      obtain ⟨m', h'⟩ := onChan_rail (s.onRail fun r => { r with ch := m }) c fun x => { x with fwAck := some code }
      exact ⟨_, h'⟩
    · obtain ⟨m, h⟩ := onChan_rail s c fun x => { x with ackReject := true }
      exact ⟨_, by rw [h]; rfl⟩

section
variable (s : State) {c : Nat} (hc : c < 8)
include hc

theorem hrAckOutWrite_taken (h : (s.chan c).awaitsAck = true) (code : BitVec 16) : (s.hrAckOutWrite c code).chan c = { s.chan c with
    outb := { (s.chan c).outb with full := false, orphan := false }, crossed := false, fwAck := some code } := by
  have hfull := ((awaitsAck_iff _).1 h).2.1
  rw [Channel.awaitsAck] at h
  simp only [State.hrAckOutWrite, chanOpen_low s hc, h, Bool.not_true, Bool.false_eq_true, if_false, if_true]
  rw [chan_onChan_same _ (by omega), releaseOut_chan s (by omega) hfull]

/-- An acknowledge that is not taken is noted in the channel and counted, and the report does not go on. -/
theorem hostAck_rejected (h : (s.chan c).awaitsAck = false) (code : BitVec 16) :
    (s.hostAck c code).chan c = { s.chan c with ackReject := true } ∧ (s.hostAck c code).rail.cnt1 = satInc s.rail.cnt1 := by
  rw [Channel.awaitsAck] at h
  obtain ⟨m, hm⟩ := onChan_rail s c fun x => { x with ackReject := true }
  have heq : s.hostAck c code = (s.onChan c fun x => { x with ackReject := true }).onRail fun r => { r with cnt1 := satInc r.cnt1 } := by
    simp only [State.hostAck, State.hrAckOutWrite, chanOpen_low s hc, Bool.true_and, h, Bool.not_true, Bool.false_and, Bool.false_eq_true,
      if_false]
  rw [heq]
  refine ⟨(chan_eq_of_ch (s := s.onChan c _) rfl c).trans (chan_onChan_same s (by omega) _), ?_⟩
  rw [hm]
  rfl

omit hc in
/-- Where no report is due, an acknowledge that is taken leaves the channel as HR_ACK_OUT alone does. -/
theorem hostAck_noReport (h : c ≠ 0 ∨ bitAt s.core.ready.toNat 2 = false ∨ s.core.report = none) (code : BitVec 16) :
    (s.hostAck c code).chan c = (s.hrAckOutWrite c code).chan c := by
  obtain ⟨x, hx⟩ := hrAckOutWrite_rail s c code
  simp only [State.hostAck, hx]
  split
  case isFalse => rfl
  case isTrue hreport =>
    have hc0 : c = 0 := by simpa using (Bool.and_eq_true_iff.1 hreport).2
    rcases h with h | h | h
    · exact absurd hc0 h
    · split
      · split
        · split <;> rw [postReport_notReady (by exact h)] <;> rfl
        · rw [postReport_notReady (by exact h)]
          rfl
      · rfl
    · simp only [State.onCore_core, h]
      rfl

end

/-- The state after DONE for the word of the report that stands in HR_OUT, but for the word that may follow. -/
def State.reportDone (s : State) (k : Nat) : State :=
  (s.hrAckOutWrite 0 0).onCore fun q => { q with reportOut := false, report := some (min 8 (k + 1)) }

section
variable (s : State) {k : Nat} (hack : (s.chan 0).awaitsAck = true) (hmine : s.core.reportOut = true) (hr : s.core.report = some k)

include hack in
theorem reportDone_chan : ((s.reportDone k).chan 0).outb.full = false := by
  rw [State.reportDone, onCore_chan, hrAckOutWrite_taken s (by decide) hack]

theorem reportDone_parts (k : Nat) : ∃ x, s.reportDone k =
    { s with rail := x, core := { s.core with report := some (min 8 (k + 1)), reportOut := false } } := by
  obtain ⟨x, hx⟩ := hrAckOutWrite_rail s 0 0
  exact ⟨x, by rw [State.reportDone, hx]; rfl⟩

include hack hmine hr

theorem hostAck_report : s.hostAck 0 0 =
    (if k = 7 then (s.reportDone k).onMram fun m => { m with unreported := 0 } else s.reportDone k).postReport := by
  obtain ⟨x, hx⟩ := hrAckOutWrite_rail s 0 0
  rw [Channel.awaitsAck] at hack
  simp only [State.hostAck, State.reportDone, chanOpen_low s (show 0 < 8 by decide), hx, hack, State.onCore_core, hr, hmine,
    Bool.true_and, decide_true, Bool.and_self, if_true]
  rfl

/-- DONE for a word that is not the last one brings the next (R533). -/
theorem hostAck_next (hg : bitAt s.core.ready.toNat 2 = true) (hk : k < 7) : ((s.hostAck 0 0).chan 0).outb.full = true ∧
    ((s.hostAck 0 0).chan 0).outb.word = s.reportWord (k + 1) ∧ (s.hostAck 0 0).core.report = some (k + 1) := by
  obtain ⟨x, hx⟩ := reportDone_parts s k
  have hdue : (s.reportDone k).core.report = some (k + 1) := by
    rw [hx]
    exact congrArg some (by omega)
  have hword : (s.reportDone k).reportWord (k + 1) = s.reportWord (k + 1) := by rw [hx, reportWord_eq]
  have hready : bitAt (s.reportDone k).core.ready.toNat 2 = true := by rw [hx]; exact hg
  rw [hostAck_report s hack hmine hr, if_neg (by omega), postReport_due hdue (by omega) hready (reportDone_chan s hack), hword]
  rw [onCore_chan, firmwarePost_chan _ (by decide) (reportDone_chan s hack)]
  exact ⟨rfl, rfl, by rw [State.onCore_core, firmwarePost_core, hdue]⟩

/-- DONE for the last word ends the report and clears the count of fault records to report (R533). -/
theorem hostAck_last (hk : k = 7) : ((s.hostAck 0 0).chan 0).outb.full = false ∧ (s.hostAck 0 0).core.report = some 8 ∧
    (s.hostAck 0 0).mram.unreported = 0 := by
  obtain ⟨x, hx⟩ := reportDone_parts s k
  have hover : ((s.reportDone k).onMram fun m => { m with unreported := 0 }).core.report = some 8 := by
    rw [hx, hk]
    rfl
  rw [hostAck_report s hack hmine hr, if_pos hk, postReport_over hover]
  exact ⟨reportDone_chan s (k := k) hack, hover, rfl⟩

end

/-! ### A new party of the host (R404) -/

/-- A channel whose host party is reset. -/
def Channel.hostReset (x : Channel) : Channel :=
  { x with fwAborted := x.fwAborted || x.outb.full
           outb := { x.outb with full := false, orphan := false }
           crossed := if x.outb.full then false else x.crossed
           inb := { x.inb with orphan := x.inb.full }, formal := true }

theorem hostPartyReset_chan (s : State) {cs : List Nat} (hn : cs.Nodup) {c : Nat} (hc : c ∈ cs) (hlt : c < 16) :
    (s.hostPartyReset cs).chan c = (s.chan c).hostReset := chan_foldl_onChan_same hn hc hlt Channel.hostReset s

theorem hostPartyReset_rail (s : State) (cs : List Nat) : ∃ m, s.hostPartyReset cs = s.onRail fun r => { r with ch := m } := by
  refine List.foldlRecOn (motive := fun r => ∃ m, r = s.onRail fun r => { r with ch := m }) cs _ ⟨s.rail.ch, rfl⟩ ?_
  rintro _ ⟨m, rfl⟩ c _
  obtain ⟨m', h⟩ := onChan_rail (s.onRail fun r => { r with ch := m }) c Channel.hostReset
  exact ⟨m', h⟩

/-- A new host epoch, and channels 0 to 7 reset, before the report starts again. -/
def State.hostBumped (s : State) : State := (s.onRail fun r => { r with hostEpoch := r.hostEpoch + 1 }).hostPartyReset lowChannels

theorem hostBumped_chan (s : State) {c : Nat} (hc : c < 8) : s.hostBumped.chan c = (s.chan c).hostReset :=
  hostPartyReset_chan _ List.nodup_range (List.mem_range.2 hc) (by omega)

theorem hostBumped_parts (s : State) : ∃ m, s.hostBumped = s.onRail fun r => { r with hostEpoch := r.hostEpoch + 1, ch := m } := by
  obtain ⟨m, h⟩ := hostPartyReset_rail (s.onRail fun r => { r with hostEpoch := r.hostEpoch + 1 }) lowChannels
  exact ⟨m, h⟩

theorem hostBump_notReady {s : State} (h : bitAt s.core.ready.toNat 2 = false) : s.hostBump = s.hostBumped := by
  obtain ⟨m, hm⟩ := hostBumped_parts s
  have hready : ¬ bitAt s.hostBumped.core.ready.toNat 2 = true := by rw [hm]; simp [h]
  rw [State.hostBump, ← State.hostBumped, State.restartReport, if_neg hready]

/-- A Foreman G that is ready posts the report again from its first word (R534). -/
theorem hostBump_ready {s : State} (h : bitAt s.core.ready.toNat 2 = true) : s.hostBump =
    ((s.hostBumped.onCore fun q => { q with report := some 0, reportOut := false }).firmwarePost 0 (s.reportWord 0)).onCore
      fun q => { q with reportOut := true } := by
  obtain ⟨m, hm⟩ := hostBumped_parts s
  have hready : bitAt s.hostBumped.core.ready.toNat 2 = true := by rw [hm]; exact h
  have hempty : (s.hostBumped.chan 0).outb.full = false := by rw [hostBumped_chan s (by decide)]; rfl
  have hword : s.hostBumped.reportWord 0 = s.reportWord 0 := by
    rw [hm]
    exact reportWord_eq s _ s.core.report s.core.reportOut 0
  rw [State.hostBump, ← State.hostBumped, restartReport_posts hready hempty, hword]

theorem hostBump_hostEpoch (s : State) : s.hostBump.rail.hostEpoch = s.rail.hostEpoch + 1 := by
  obtain ⟨m, hm⟩ := hostBumped_parts s
  cases hg : bitAt s.core.ready.toNat 2 with
  | false =>
    rw [hostBump_notReady hg, hm]
    rfl
  | true =>
    obtain ⟨m', w, hp⟩ := firmwarePost_rail (s.hostBumped.onCore fun q => { q with report := some 0, reportOut := false }) 0 (s.reportWord 0)
    rw [hostBump_ready hg, hp, hm]
    rfl

/-- Every channel but one that carries the report again is reset, and no more. -/
theorem hostBump_chan (s : State) {c : Nat} (hc : c < 8) (h : ¬ (c = 0 ∧ bitAt s.core.ready.toNat 2 = true)) :
    s.hostBump.chan c = (s.chan c).hostReset := by
  cases hg : bitAt s.core.ready.toNat 2 with
  | false => rw [hostBump_notReady hg, hostBumped_chan s hc]
  | true => rw [hostBump_ready hg, onCore_chan, firmwarePost_chan_other _ (fun hc0 => h ⟨hc0, hg⟩), onCore_chan, hostBumped_chan s hc]

/-- Channel 0 carries the first word of the report. -/
theorem hostBump_chan0 {s : State} (h : bitAt s.core.ready.toNat 2 = true) : ∃ e at', s.hostBump.chan 0 = { (s.chan 0).hostReset with
    outb := { word := s.reportWord 0, full := true, epoch := e, postedAt := at' }, fwAck := none } := by
  have hchan := hostBumped_chan s (c := 0) (by decide)
  have hpost := firmwarePost_chan (s.hostBumped.onCore fun q => { q with report := some 0, reportOut := false }) (c := 0) (by decide)
    (by rw [onCore_chan, hchan]; rfl) (s.reportWord 0)
  rw [onCore_chan, hchan] at hpost
  exact ⟨_, _, by rw [hostBump_ready h, onCore_chan, hpost]⟩

/-- Settles O39: the writes and the read by what stands in the channel, an acknowledge by whether it is taken and whether
the report goes on after it, and the host's new party by whether Foreman G posts the report again. -/
theorem hostMailbox : Obligations.HostMailbox := by
  refine ⟨fun s t c v hc hup => ⟨fun hfree => ?post, fun hfull => ?reject, fun hfull => ?read, fun hempty => ?readEmpty⟩,
    fun s t c hc hup => ⟨fun code hf hfull ho hreport => ?ack, fun k hf hfull ho hg hmine hr => ⟨fun hk => ?next, fun hk => ?last⟩,
      fun code hrej => ?ackReject, fun v hw1c hmode => ?mode⟩,
    fun s t c hc hup => ?bump⟩
  case post => exact ⟨_, exec_hrInWrite t hup hc v, hrInWrite_free (s.advance t) hc hfree v⟩
  case reject => exact ⟨_, exec_hrInWrite t hup hc v, hrInWrite_full (s.advance t) hc hfull v⟩
  case read =>
    refine ⟨_, exec_hrOutRead t hup hc, ?_, fun hf ho => hrOutRead_rail (s.advance t) (.inr ⟨hf, ho⟩),
      hrOutRead_plain (s.advance t) hc hfull⟩
    rw [State.keeping_lastRead, hrOutRead_lastRead, hrOutValue_low _ hc]
    exact if_pos hfull
  case readEmpty =>
    refine ⟨_, exec_hrOutRead t hup hc, ?_, hrOutRead_rail (s.advance t) (.inl hempty)⟩
    rw [State.keeping_lastRead, hrOutRead_lastRead, hrOutValue_low _ hc, advance_chan, hempty]
    exact if_neg Bool.false_ne_true
  case ack =>
    refine ⟨_, exec_hrAckOutWrite t hup hc code, ?_⟩
    rw [keeping_chan, hostAck_noReport (s.advance t) hreport, hrAckOutWrite_taken (s.advance t) hc ((awaitsAck_iff _).2 ⟨hf, hfull, ho⟩)]
    exact ⟨rfl, rfl⟩
  case next =>
    exact ⟨_, exec_hrAckOutWrite t hup (by decide) 0,
      hostAck_next (s.advance t) ((awaitsAck_iff _).2 ⟨hf, hfull, ho⟩) hmine hr hg hk⟩
  case last =>
    exact ⟨_, exec_hrAckOutWrite t hup (by decide) 0, hostAck_last (s.advance t) ((awaitsAck_iff _).2 ⟨hf, hfull, ho⟩) hmine hr hk⟩
  case ackReject =>
    refine ⟨_, exec_hrAckOutWrite t hup hc code, hostAck_rejected (s.advance t) hc ?_ code⟩
    rcases hrej with h | h | h <;> simp [Channel.awaitsAck, h]
  case mode => exact ⟨_, exec_hrModeWrite t hup hc v, hrModeWrite_chan (s.advance t) hc hw1c hmode⟩
  case bump =>
    refine ⟨_, exec_hostBump t hup, hostBump_hostEpoch (s.advance t), ?_⟩
    rw [keeping_chan]
    by_cases hcarries : c = 0 ∧ bitAt s.core.ready.toNat 2 = true
    · obtain ⟨rfl, hg⟩ := hcarries
      obtain ⟨e, at', h⟩ := hostBump_chan0 (s := s.advance t) hg
      have hreport : ((s.advance t).hostBump.keeping (s.advance t)).core.report = some 0 := by
        rw [State.keeping_core, hostBump_ready (s := s.advance t) hg, State.onCore_core, firmwarePost_core]
        rfl
      rw [if_pos ⟨rfl, hg⟩, h]
      exact ⟨rfl, ⟨rfl, rfl, rfl, hreport⟩, rfl, rfl⟩
    · rw [if_neg hcarries, hostBump_chan (s.advance t) hc hcarries]
      exact ⟨rfl, rfl, rfl, rfl⟩

end Sys2Proof.Machine
end

section
/-! The firmware's side of the mailbox channels (09, 10): channels 1 to 7 of the rail, and the channels of the cascade. -/
namespace Sys2Proof.Machine

/-! ### The operation a channel's number selects (R417) -/

section
variable {s : State} (t : Nat) {c : Nat}

theorem takeInbound_rail (hc : 1 ≤ c) (hc8 : c < 8) : s.takeInbound c = s.firmwareRead c := by
  rw [State.takeInbound, if_pos (by omega), if_neg (fun h => by omega)]

theorem answerInbound_rail (hc : 1 ≤ c) (hc8 : c < 8) (code : BitVec 16) : s.answerInbound c code = s.firmwareAck c 2 := by
  rw [State.answerInbound, if_pos (by omega), State.firmwareAnswer, if_neg (by omega), if_neg (by omega)]

theorem postOutbound_rail (hc : 1 ≤ c) (hc8 : c < 8) (v : Word) : s.postOutbound c v = s.firmwarePost c v := by
  rw [State.postOutbound, if_pos (by omega), State.firmwareOut, if_neg (fun h => by omega)]

theorem crossing_rail (hc8 : c < 8) : s.crossing c = s.crossTimeout c := if_pos (by omega)

theorem takeInbound_link (k : Nat) : s.takeInbound (16 + k) = s.linkRead k := by
  rw [State.takeInbound, if_neg (by omega), Nat.add_sub_cancel_left]

theorem answerInbound_link (k : Nat) (code : BitVec 16) : s.answerInbound (16 + k) code = s.linkAck k code := by
  rw [State.answerInbound, if_neg (by omega), Nat.add_sub_cancel_left]

theorem postOutbound_link (k : Nat) (v : Word) : s.postOutbound (16 + k) v = s.linkPost k v := by
  rw [State.postOutbound, if_neg (by omega), Nat.add_sub_cancel_left]

theorem crossing_link (k : Nat) : s.crossing (16 + k) = s.linkCross k := by
  rw [State.crossing, if_neg (by omega), Nat.add_sub_cancel_left]

/-! ### The commands -/

variable (hup : s.core.up = true)
include hup

theorem exec_firmwareInRead : exec (.firmwareInRead t c) s = .next (((s.advance t).takeInbound c).keeping (s.advance t)) :=
  onBeam_next t s (State.takeInbound · c) hup

theorem exec_firmwareAckIn (code : BitVec 16) :
    exec (.firmwareAckIn t c code) s = .next (((s.advance t).answerInbound c code).keeping (s.advance t)) :=
  onBeam_next t s (State.answerInbound · c code) hup

theorem exec_firmwarePostOut (v : Word) :
    exec (.firmwarePostOut t c v) s = .next (((s.advance t).postOutbound c v).keeping (s.advance t)) :=
  onBeam_next t s (State.postOutbound · c v) hup

theorem exec_crossTimeout : exec (.crossTimeout t c) s = .next (((s.advance t).crossing c).keeping (s.advance t)) :=
  onBeam_next t s (State.crossing · c) hup

end

/-! ### A channel of the rail (R397, R398, R400, R412) -/

@[simp] theorem post_rail (s : State) (code src : Nat) (payload : List Byte) (status : Nat) :
    (s.post code src payload status).rail = s.rail := by
  obtain ⟨l, h⟩ := post_link s code src payload status
  rw [h]

section
variable (s : State) {c : Nat} (hc : c < 16) (hfull : (s.chan c).inb.full = true)
include hc hfull

/-- The read of a FORMAL word takes it and leaves it standing. -/
theorem firmwareRead_formal (hf : (s.chan c).formal = true) (ho : (s.chan c).inb.orphan = false) :
    (s.firmwareRead c).chan c = { s.chan c with inb := { (s.chan c).inb with taken := true } } := by
  simp [State.firmwareRead, hfull, hf, ho, chan_onChan_same s hc]

/-- The read of a PLAIN word releases it. -/
theorem firmwareRead_plain (hf : (s.chan c).formal = false) : ((s.firmwareRead c).chan c).inb.full = false := by
  have hread : s.firmwareRead c = s.releaseIn c := by simp [State.firmwareRead, hfull, hf]
  rw [hread, releaseIn_chan s hc hfull]

/-- The acknowledge of a FORMAL word releases it and stands with its code and epoch. -/
theorem firmwareAck_formal (hf : (s.chan c).formal = true) (ho : (s.chan c).inb.orphan = false) (code : BitVec 16) :
    (s.firmwareAck c code).chan c = { s.chan c with
      inb := { (s.chan c).inb with full := false, orphan := false, taken := false }, crossed := false
      ackCode := code, ackEpoch := s.fwEpochOf c, ackValid := true } := by
  have hack : s.firmwareAck c code =
      (s.releaseIn c).onChan c fun x => { x with ackCode := code, ackEpoch := s.fwEpochOf c, ackValid := true } := by
    simp [State.firmwareAck, hfull, hf, ho]
  rw [hack, chan_onChan_same _ hc, releaseIn_chan s hc hfull]

/-- Two FORMAL words that have waited past the limit cross once, which is counted and posted. -/
theorem crossTimeout_crosses (hf : (s.chan c).formal = true) (hout : (s.chan c).outb.full = true) (hino : (s.chan c).inb.orphan = false)
    (houto : (s.chan c).outb.orphan = false) (hx : (s.chan c).crossed = false)
    (hlate : max (s.chan c).inb.postedAt (s.chan c).outb.postedAt + 256 * s.rail.crossTimeout.toNat ≤ s.now) :
    (s.crossTimeout c).chan c = { s.chan c with crossed := true } ∧ (s.crossTimeout c).rail.cnt2 = satInc s.rail.cnt2 := by
  have hrail : (s.crossTimeout c).rail =
      ((s.onChan c fun x => { x with crossed := true }).onRail fun r => { r with cnt2 := satInc r.cnt2 }).rail := by
    have hgo : c < 16 ∧ (s.chan c).formal ∧ (s.chan c).inb.full ∧ (s.chan c).outb.full ∧ !(s.chan c).inb.orphan ∧ !(s.chan c).outb.orphan ∧
        !(s.chan c).crossed ∧ max (s.chan c).inb.postedAt (s.chan c).outb.postedAt + 256 * s.rail.crossTimeout.toNat ≤ s.now :=
      ⟨hc, hf, hfull, hout, by simp [hino], by simp [houto], by simp [hx], hlate⟩
    simp only [State.crossTimeout, if_pos hgo, post_rail]
  refine ⟨?_, ?_⟩
  · have hch : (s.crossTimeout c).rail.ch = (s.onChan c fun x => { x with crossed := true }).rail.ch := by rw [hrail]; rfl
    rw [chan_eq_of_ch hch, chan_onChan_same s hc]
  · obtain ⟨m, hm⟩ := onChan_rail s c fun x => { x with crossed := true }
    rw [hrail, hm]
    rfl

end

/-! ### A channel of the cascade (R417, R441) -/

@[simp] theorem keeping_box (r s : State) (k : Nat) : (r.keeping s).box k = r.box k := rfl
@[simp] theorem advance_box (s : State) (t k : Nat) : (s.advance t).box k = s.box k := rfl
@[simp] theorem send_box (s : State) (x : Chunk) (k : Nat) : (s.send x).box k = s.box k := rfl

section
variable (s : State) {k : Nat} (hk : k < 128)
include hk

theorem box_onBox_same (f : LinkBox → LinkBox) : (s.onBox k f).box k = f (s.box k) := by
  simp [State.onBox, State.box, hk]

omit hk in
theorem onBox_aeloon (f : LinkBox → LinkBox) : ∃ m, s.onBox k f = { s with aeloon := { s.aeloon with boxes := m } } := by
  unfold State.onBox
  split
  · exact ⟨_, rfl⟩
  · exact ⟨s.aeloon.boxes, rfl⟩

omit hk in
@[simp] theorem onBox_mboxChunk (f : LinkBox → LinkBox) (op num word : Nat) :
    (s.onBox k f).mboxChunk k op num word = s.mboxChunk k op num word := by
  obtain ⟨m, hm⟩ := onBox_aeloon s (k := k) f
  rw [hm]
  rfl

/-- A chunk that is sent after an update of a box goes to the end of the queue. -/
theorem onBox_send (f : LinkBox → LinkBox) (x : Chunk) :
    ((s.onBox k f).send x).box k = f (s.box k) ∧ ((s.onBox k f).send x).aeloon.queue = s.aeloon.queue ++ [x] := by
  refine ⟨by rw [send_box, box_onBox_same s hk], ?_⟩
  obtain ⟨m, hm⟩ := onBox_aeloon s (k := k) f
  rw [hm]
  rfl

variable {w : Word} (hw : (s.box k).inWord = some w)

include hw in
theorem linkRead_formal (hf : (s.box k).formal = true) (ho : (s.box k).inOrphan = false) :
    (s.linkRead k).box k = { s.box k with inTaken := true } := by
  simp [State.linkRead, box_onBox_same s hk, hw, hf, ho]

include hw in
theorem linkRead_releases (h : (s.box k).formal = false ∨ (s.box k).inOrphan = true) :
    (s.linkRead k).box k = { s.box k with inWord := none, inOrphan := false, inTaken := false } := by
  rcases h with h | h <;> simp [State.linkRead, box_onBox_same s hk, hw, h]

include hw in
/-- The acknowledge of a FORMAL word releases it and goes to the peer under the word's number (log 96). -/
theorem linkAck_formal (hf : (s.box k).formal = true) (ho : (s.box k).inOrphan = false) (code : BitVec 16) :
    (s.linkAck k code).box k = { s.box k with inWord := none, inOrphan := false, inTaken := false, crossed := false } ∧
    (s.linkAck k code).aeloon.queue = s.aeloon.queue ++ [s.mboxChunk k 1 ((s.box k).lastPost.getD 0) code.toNat] := by
  have hack : s.linkAck k code = (s.onBox k fun b => { b with inWord := none, inOrphan := false, inTaken := false, crossed := false }).send
      (s.mboxChunk k 1 ((s.box k).lastPost.getD 0) code.toNat) := by
    simp [State.linkAck, hw, hf, ho]
  rw [hack]
  exact onBox_send s hk _ _

/-- A word of a joined node goes out under the next number, and stands until it is acknowledged. -/
theorem linkPost_free (hl : s.linked k = true) (hout : (s.box k).outWord = none) (v : Word) :
    (s.linkPost k v).box k = { s.box k with
      outWord := some v, outOrphan := false, outAt := s.now, outNum := (s.box k).outNum + 1, ackCode := none, aborted := false } ∧
    (s.linkPost k v).aeloon.queue = s.aeloon.queue ++ [s.mboxChunk k 0 ((s.box k).outNum + 1).toNat v.toNat] := by
  have hpost : s.linkPost k v = (s.onBox k fun b => { b with
      outWord := some v, outOrphan := false, outAt := s.now, outNum := (s.box k).outNum + 1, ackCode := none, aborted := false }).send
      (s.mboxChunk k 0 ((s.box k).outNum + 1).toNat v.toNat) := by
    simp [State.linkPost, hl, hout]
  rw [hpost]
  exact onBox_send s hk _ _

include hw in
theorem linkCross_crosses {v : Word} (hout : (s.box k).outWord = some v) (hf : (s.box k).formal = true) (ho : (s.box k).inOrphan = false)
    (hlate : max (s.box k).inAt (s.box k).outAt + 500 * 256 ≤ s.now) : (s.linkCross k).box k = { s.box k with crossed := true } := by
  simp [State.linkCross, box_onBox_same s hk, hw, hout, hf, ho]
  omega

end

/-- Settles O40: each command by the operation its channel's number selects, on the rail and on the cascade. -/
theorem firmwareMailbox : Obligations.FirmwareMailbox := by
  refine ⟨fun s t c hc hc8 hup => ⟨fun hfull hf ho => ?take, fun hfull hf => ?release, fun code hfull hf ho => ?ack, fun v hout => ?post,
      fun hf hfull hout hino houto hx hlate => ?cross⟩,
    fun s t k hk hup => ⟨fun w hw hf ho => ?linkTake, fun w hw h => ?linkRelease, fun w code hw hf ho => ?linkAck, fun v hl hout => ?linkPost,
      fun w v hw hout hf ho hlate => ?linkCross⟩⟩
  case take =>
    refine ⟨_, exec_firmwareInRead t hup, ?_⟩
    rw [keeping_chan, takeInbound_rail hc hc8, firmwareRead_formal (s.advance t) (by omega) hfull hf ho, advance_chan]
  case release =>
    refine ⟨_, exec_firmwareInRead t hup, ?_⟩
    rw [keeping_chan, takeInbound_rail hc hc8]
    exact firmwareRead_plain (s.advance t) (by omega) hfull hf
  case ack =>
    refine ⟨_, exec_firmwareAckIn t hup code, ?_⟩
    rw [keeping_chan, answerInbound_rail hc hc8, firmwareAck_formal (s.advance t) (by omega) hfull hf ho]
    exact ⟨rfl, rfl, rfl, rfl⟩
  case post =>
    refine ⟨_, exec_firmwarePostOut t hup v, ?_⟩
    rw [keeping_chan, postOutbound_rail hc hc8, firmwarePost_chan (s.advance t) (by omega) hout]
    exact ⟨rfl, rfl, rfl⟩
  case cross =>
    refine ⟨_, exec_crossTimeout t hup, ?_⟩
    rw [keeping_chan, State.keeping_rail, crossing_rail hc8]
    exact crossTimeout_crosses (s.advance t) (by omega) hfull hf hout hino houto hx hlate
  case linkTake =>
    refine ⟨_, exec_firmwareInRead t hup, ?_⟩
    rw [keeping_box, takeInbound_link, linkRead_formal (s.advance t) hk hw hf ho, advance_box]
  case linkRelease =>
    refine ⟨_, exec_firmwareInRead t hup, ?_⟩
    rw [keeping_box, takeInbound_link, linkRead_releases (s.advance t) hk hw h, advance_box]
  case linkAck =>
    obtain ⟨hbox, hqueue⟩ := linkAck_formal (s.advance t) hk hw hf ho code
    refine ⟨_, exec_firmwareAckIn t hup code, ?_⟩
    rw [keeping_box, State.keeping_aeloon, answerInbound_link, hbox]
    exact ⟨rfl, rfl, hqueue⟩
  case linkPost =>
    obtain ⟨hbox, hqueue⟩ := linkPost_free (s.advance t) hk hl hout v
    refine ⟨_, exec_firmwarePostOut t hup v, ?_⟩
    rw [keeping_box, State.keeping_aeloon, postOutbound_link, hbox]
    exact ⟨rfl, rfl, hqueue⟩
  case linkCross =>
    refine ⟨_, exec_crossTimeout t hup, ?_⟩
    rw [keeping_box, crossing_link, linkCross_crosses (s.advance t) hk hw hout hf ho hlate, advance_box]

end Sys2Proof.Machine
end

section
/-! SUPPORT. What stands through the work of the field side and a cycle boundary (R8, R17, R537): the brown-out's own record,
the Cinch die, the Hitch rail, and of READY_CORE the bits of Foreman G, Halter mode and the warning. -/
namespace Sys2Proof.Machine

/-! ### A bit beside the one that is set -/

theorem testBit_add_two_pow_ne {y i j : Nat} (hy : y.testBit i = false) (h : j ≠ i) : (y + 2 ^ i).testBit j = y.testBit j := by
  rcases Nat.lt_or_gt_of_ne h with hlt | hgt
  · rw [Nat.add_comm, Nat.testBit_two_pow_add_gt hlt]
  · have hodd : y / 2 ^ i % 2 = 0 := by simpa [Nat.testBit_eq_decide_div_mod_eq] using hy
    have hlow : y % 2 ^ i < 2 ^ i := Nat.mod_lt _ (Nat.two_pow_pos i)
    have hpow : 2 ^ (i + 1) = 2 * 2 ^ i := by rw [Nat.pow_succ, Nat.mul_comm]
    have hsplit : y = 2 ^ (i + 1) * (y / 2 ^ i / 2) + y % 2 ^ i := by
      calc y = 2 ^ i * (y / 2 ^ i) + y % 2 ^ i := (Nat.div_add_mod ..).symm
        _ = 2 ^ i * (2 * (y / 2 ^ i / 2)) + y % 2 ^ i := by rw [show 2 * (y / 2 ^ i / 2) = y / 2 ^ i by omega]
        _ = 2 ^ (i + 1) * (y / 2 ^ i / 2) + y % 2 ^ i := by rw [hpow, Nat.mul_comm 2 (2 ^ i), Nat.mul_assoc]
    have high : ∀ r, r < 2 ^ (i + 1) → (2 ^ (i + 1) * (y / 2 ^ i / 2) + r).testBit j = (y / 2 ^ i / 2).testBit (j - (i + 1)) :=
      fun r hr => by rw [Nat.testBit_two_pow_mul_add _ hr, if_neg (by omega)]
    calc (y + 2 ^ i).testBit j = (2 ^ (i + 1) * (y / 2 ^ i / 2) + (y % 2 ^ i + 2 ^ i)).testBit j := by rw [← Nat.add_assoc, ← hsplit]
      _ = (2 ^ (i + 1) * (y / 2 ^ i / 2) + y % 2 ^ i).testBit j := by rw [high _ (by omega), high _ (by omega)]
      _ = y.testBit j := by rw [← hsplit]

/-- Setting or clearing a bit leaves every other bit as it is. -/
theorem bitAt_setBit_other (w : Nat) {i j : Nat} (b : Bool) (h : j ≠ i) : bitAt (setBit w i b) j = bitAt w j := by
  simp only [setBit, bitAt_eq_testBit]
  cases hw : w.testBit i with
  | false => cases b <;> simp [testBit_add_two_pow_ne hw h]
  | true =>
    obtain ⟨y, rfl⟩ : ∃ y, w = y + 2 ^ i := ⟨_, (Nat.sub_add_cancel (Nat.ge_two_pow_of_testBit hw)).symm⟩
    have hy : y.testBit i = false := by rw [Nat.add_comm, Nat.testBit_two_pow_add_eq] at hw; simpa using hw
    cases b <;> simp [testBit_add_two_pow_ne hy h]

/-- READY_CORE's bits after one of them is set or cleared. -/
theorem bitAt_setReady_ite (s : State) (bit : Nat) {i : Nat} (v : Bool) (hi : i < 10) :
    bitAt (s.setReady bit v).core.ready.toNat i = if bit = i then v else bitAt s.core.ready.toNat i := by
  rw [setReady_core, bitAt_ofNat _ hi]
  split
  next h => rw [h, bitAt_setBit_same]
  next h => rw [bitAt_setBit_other _ _ (Ne.symm h)]

/-! ### The parts that stand -/

/-- The parts of the state that the field side's work leaves: the brown-out's record, the Cinch die, the Hitch rail, whether
the Beam die is out of reset, and readiness of Foreman G, Halter mode and the warning. -/
structure Standing where
  power : Power
  cinch : Cinch
  rail : Rail
  up : Bool
  gReady : Bool
  halterOn : Bool
  warning : Bool

def State.standing (s : State) : Standing :=
  { power := s.power, cinch := s.cinch, rail := s.rail, up := s.core.up
    gReady := bitAt s.core.ready.toNat 2, halterOn := s.halterOn, warning := s.warning }

theorem standing_foldl {α : Type} {f : State → α → State} (hf : ∀ r a, (f r a).standing = r.standing) (s : State) (l : List α) :
    (l.foldl f s).standing = s.standing :=
  List.foldlRecOn (motive := fun r => r.standing = s.standing) l f rfl fun r hr a _ => (hf r a).trans hr

theorem standing_ite {p : Prop} [Decidable p] {q r s : State} (hq : q.standing = s.standing) (hr : r.standing = s.standing) :
    (if p then q else r).standing = s.standing := by
  split
  · exact hq
  · exact hr

theorem standing_of_link {r s : State} (h : ∃ l, r = { s with link := l }) : r.standing = s.standing := by
  obtain ⟨l, rfl⟩ := h
  rfl

theorem standing_of_scr {r s : State} (h : ∃ c, r = { s with scr := c }) : r.standing = s.standing := by
  obtain ⟨c, rfl⟩ := h
  rfl

theorem standing_of_readings {r s : State} (h : r.sameButReadings s) : r.standing = s.standing := by
  obtain ⟨_, _, _, _, _, rfl⟩ := h
  rfl

/-! ### One part of the state at a time -/

section
variable (s : State)

@[simp] theorem onWheel_standing (f : Wheel → Wheel) : (s.onWheel f).standing = s.standing := rfl
@[simp] theorem onPole_standing (f : Pole → Pole) : (s.onPole f).standing = s.standing := rfl
@[simp] theorem onTab_standing (f : Tables → Tables) : (s.onTab f).standing = s.standing := rfl
@[simp] theorem onScr_standing (f : Scriber → Scriber) : (s.onScr f).standing = s.standing := rfl
@[simp] theorem onPorts_standing (f : Ports → Ports) : (s.onPorts f).standing = s.standing := rfl
@[simp] theorem onTrace_standing (f : Trace → Trace) : (s.onTrace f).standing = s.standing := rfl
@[simp] theorem onTally_standing (f : Tally → Tally) : (s.onTally f).standing = s.standing := rfl
@[simp] theorem onAeloon_standing (f : Aeloon → Aeloon) : (s.onAeloon f).standing = s.standing := rfl
@[simp] theorem onHalter_standing (f : Halter → Halter) : (s.onHalter f).standing = s.standing := rfl
@[simp] theorem onJob_standing (slot : Nat) (f : Job → Job) : (s.onJob slot f).standing = s.standing := rfl
@[simp] theorem dropJob_standing (slot : Nat) : (s.dropJob slot).standing = s.standing := rfl
@[simp] theorem onMark_standing (i : Nat) (f : PointMark → PointMark) : (s.onMark i f).standing = s.standing := rfl
@[simp] theorem onString_standing (i : Nat) (f : BatString → BatString) : (s.onString i f).standing = s.standing := rfl
@[simp] theorem bklCount_standing (m i : Nat) : (s.bklCount m i).standing = s.standing := rfl
@[simp] theorem scrCount_standing (p i : Nat) : (s.scrCount p i).standing = s.standing := rfl

@[simp] theorem onAwl_standing (n : Nat) (f : AwlPort → AwlPort) : (s.onAwl n f).standing = s.standing := by
  unfold State.onAwl
  split <;> rfl

@[simp] theorem onTw_standing (m : Nat) (f : TwPort → TwPort) : (s.onTw m f).standing = s.standing := by
  unfold State.onTw
  split <;> rfl

@[simp] theorem onPortQ_standing (p : Nat) (f : PortQueue → PortQueue) : (s.onPortQ p f).standing = s.standing := by
  unfold State.onPortQ
  split <;> rfl

@[simp] theorem onAlert_standing (a : Nat) (f : AlertSvc → AlertSvc) : (s.onAlert a f).standing = s.standing := by
  unfold State.onAlert
  split <;> rfl

@[simp] theorem onCourse_standing (c : Nat) (f : Course → Course) : (s.onCourse c f).standing = s.standing := by
  unfold State.onCourse
  split <;> rfl

/-! ### Events, jobs, compiles and fault history -/

@[simp] theorem post_standing (code src : Nat) (payload : List Byte) (status : Nat) :
    (s.post code src payload status).standing = s.standing := standing_of_link (post_link ..)

@[simp] theorem postPhase_standing (prev : WheelState) (cause : Nat) (e : Int) : (s.postPhase prev cause e).standing = s.standing :=
  post_standing ..

@[simp] theorem finishOne_standing (slot status detail : Nat) (payload : List Byte) :
    (s.finishOne slot status detail payload).standing = s.standing := by
  unfold State.finishOne
  split
  · rfl
  next j _ =>
    split
    · rfl
    · obtain ⟨n, hn⟩ := countRun_runs s j.opcode
      rw [hn]
      dsimp only
      split
      · rfl
      · split
        · rfl
        · exact (standing_of_link (postCompletion_link (State.onJob _ slot _) ..)).trans rfl

@[simp] theorem complete_standing (slot status : Nat) (payload : List Byte) (detail : Nat) :
    (s.complete slot status payload detail).standing = s.standing := by
  unfold State.complete
  split
  · rfl
  · exact (standing_foldl (fun r a => finishOne_standing r a _ _ _) _ _).trans (finishOne_standing ..)

@[simp] theorem failWire_standing (slot status detail : Nat) : (s.failWire slot status detail).standing = s.standing := by
  rcases failWire_complete s slot status detail with h | ⟨pl, h⟩ <;> simp [h]

@[simp] theorem failEntry_standing (e : CutEntry) (count : Nat) : (s.failEntry e count).standing = s.standing :=
  standing_of_readings (failEntry_sameButReadings ..)

@[simp] theorem startCompile_standing : s.startCompile.standing = s.standing := standing_of_scr (startCompile_scr s)
@[simp] theorem requestCompile_standing (c : Change) : (s.requestCompile c).standing = s.standing := standing_of_scr (requestCompile_scr ..)
@[simp] theorem compilePlain_standing : s.compilePlain.standing = s.standing := requestCompile_standing s .plain

@[simp] theorem writeHistory_standing (kind : Nat) (payload : List Byte) : (s.writeHistory kind payload).standing = s.standing := by
  obtain ⟨m, h, -⟩ := writeHistory_mram s kind payload
  rw [h]
  rfl

@[simp] theorem vmodeWant_standing (m addr : Nat) : (s.vmodeWant m addr).standing = s.standing := by
  obtain ⟨v, h⟩ := vmodeWant_vmode s m addr
  rw [h]
  rfl

/-! ### Readiness -/

theorem setReady_standing (bit : Nat) (v : Bool) : (s.setReady bit v).standing = { s.standing with
    gReady := if bit = 2 then v else s.standing.gReady, halterOn := if bit = 8 then v else s.halterOn,
    warning := if bit = 9 then v else s.warning } := by
  have hbit := fun i hi => bitAt_setReady_ite s bit (i := i) v hi
  obtain ⟨l, h⟩ := setReady_link s bit v
  rw [h] at hbit ⊢
  simp only [State.standing, State.halterOn, State.warning, hbit 2 (by decide), hbit 8 (by decide), hbit 9 (by decide)]

theorem setReady_standing_gReady (v : Bool) : (s.setReady 2 v).standing = { s.standing with gReady := v } := setReady_standing s 2 v
theorem setReady_standing_halterOn (v : Bool) : (s.setReady 8 v).standing = { s.standing with halterOn := v } := setReady_standing s 8 v
theorem setReady_standing_warning (v : Bool) : (s.setReady 9 v).standing = { s.standing with warning := v } := setReady_standing s 9 v

/-- A readiness bit that is none of Foreman G's, Halter mode's and the warning's. -/
theorem setReady_standing_other {bit : Nat} (v : Bool) (h2 : bit ≠ 2) (h8 : bit ≠ 8) (h9 : bit ≠ 9) :
    (s.setReady bit v).standing = s.standing := by
  rw [setReady_standing, if_neg h2, if_neg h8, if_neg h9]
  rfl

/-! ### A port's work ends (R134, R144, R150, R158) -/

@[simp] theorem dropEntries_standing (p : Nat) : (s.dropEntries p).standing = s.standing := by
  simp only [State.dropEntries]
  refine (standing_foldl (fun r x => ?_) _ _).trans ((standing_foldl (fun r x => ?_) _ _).trans (onPortQ_standing ..))
  · exact failEntry_standing ..
  · exact failEntry_standing ..

@[simp] theorem holdJobs_standing (n : Nat) : (s.holdJobs n).standing = s.standing := by
  simp only [State.holdJobs]
  refine (standing_foldl (fun r slot => ?_) _ _).trans (by simp)
  split
  · split <;> simp
  · rfl

@[simp] theorem startSearch_standing (n cause : Nat) : (s.startSearch n cause).standing = s.standing := by simp [State.startSearch]

@[simp] theorem enterSearch_standing (n cause : Nat) : (s.enterSearch n cause).standing = s.standing := by
  simp only [State.enterSearch, startSearch_standing, holdJobs_standing, dropEntries_standing]
  refine standing_foldl (fun r x => ?_) _ _
  split <;> simp

@[simp] theorem searchAgain_standing : s.searchAgain.standing = s.standing := by
  refine standing_foldl (fun r n => ?_) _ _
  exact standing_ite (enterSearch_standing ..) rfl

@[simp] theorem settleChange_standing (n : Nat) : (s.settleChange n).standing = s.standing := by
  simp only [State.settleChange]
  split
  · rfl
  · split
    · simp
    · split
      · split <;> simp
      · rfl

@[simp] theorem shedPullUps_standing : s.shedPullUps.standing = s.standing := by
  refine standing_foldl (fun r n => ?_) _ _
  split <;> simp

@[simp] theorem cutOffAwl_standing (n status : Nat) : (s.cutOffAwl n status).standing = s.standing := by
  have command : ∀ r : State, (match (r.awl n).cmd with
      | some c => match c.use with
        | .read e count => r.failEntry e count
        | .job slot => (r.countAttempt c.use).failWire slot status
        | _ => r
      | none => r).standing = r.standing := by
    intro r
    split
    · split <;> simp [State.countAttempt, *]
    · rfl
  simp only [State.cutOffAwl, onAwl_standing]
  refine (standing_foldl (fun r x => ?_) _ _).trans (command s)
  split <;> simp

@[simp] theorem cutOffTw_standing (m status : Nat) : (s.cutOffTw m status).standing = s.standing := by
  simp only [State.cutOffTw, onTw_standing]
  refine (standing_foldl (fun r x => ?_) _ _).trans ?_
  · split <;> simp
  · split
    · split <;> simp
    · rfl

@[simp] theorem failPortJobs_standing (p status : Nat) : (s.failPortJobs p status).standing = s.standing := by
  simp only [State.failPortJobs]
  rw [standing_foldl fun r slot => failWire_standing r slot status 0, onAwl_standing, onPortQ_standing]
  split <;> simp

@[simp] theorem finishUnfence_standing (p status : Nat) : (s.finishUnfence p status).standing = s.standing := by
  simp only [State.finishUnfence]
  rw [standing_foldl fun r slot => complete_standing r slot status [] 0, onTw_standing, onAwl_standing]

@[simp] theorem endPortJobs_standing (p status : Nat) : (s.endPortJobs p status).standing = s.standing := by simp [State.endPortJobs]

@[simp] theorem releaseFields_standing : s.releaseFields.standing = s.standing := by
  simp only [State.releaseFields, onPorts_standing]
  refine (standing_foldl (fun r m => ?_) _ _).trans (standing_foldl (fun r n => ?_) _ _)
  · simp
  · simp

end

end Sys2Proof.Machine
end

section
/-! SUPPORT. A cycle boundary and the entry into Halter mode (R8, R18, R536, R537): both leave what the field side leaves, the
entry but for Halter mode itself. -/
namespace Sys2Proof.Machine

section
variable (s : State)

/-! ### Register writes of a push (R456) -/

@[simp] theorem writePw_standing (o : Nat) (v : Word) : (s.writePw o v).standing = s.standing := by
  unfold State.writePw
  split
  case h_1 =>
    simp only [State.writePwNominal]
    exact standing_ite rfl (standing_ite (requestCompile_standing ..) rfl)
  all_goals rfl

@[simp] theorem writePgrp_standing (i : Nat) (v : Word) : (s.writePgrp i v).standing = s.standing := by simp [State.writePgrp]

@[simp] theorem writeAwl_standing (n k : Nat) (v : Word) : (s.writeAwl n k v).standing = s.standing := by
  unfold State.writeAwl
  split
  · exact standing_ite (onAwl_standing ..) (by simp)
  · simp
  · exact standing_ite (onAwl_standing ..) (by simp)
  · rfl

@[simp] theorem writeTw_standing (m k : Nat) (v : Word) : (s.writeTw m k v).standing = s.standing := by
  unfold State.writeTw
  split
  · exact standing_ite (onTw_standing ..) (by simp)
  · exact standing_ite (onTw_standing ..) rfl
  · simp
  · rfl

@[simp] theorem writeAlertStat_standing (v : Word) : (s.writeAlertStat v).standing = s.standing :=
  standing_foldl (fun _ _ => standing_ite (onAlert_standing ..) rfl) s _

@[simp] theorem writePt_standing (o : Nat) (v : Word) : (s.writePt o v).standing = s.standing := by
  unfold State.writePt
  dsimp only
  split
  case h_14 => split <;> simp
  case h_13 => simp
  all_goals rfl

@[simp] theorem regSet_standing (off : Nat) (v : Word) : (s.regSet off v).standing = s.standing :=
  standing_ite (writePw_standing ..) (writePt_standing ..)

/-! ### The steps of a boundary -/

@[simp] theorem commitStaged_standing : s.commitStaged.standing = s.standing := by
  simp only [State.commitStaged]
  refine standing_ite rfl ?_
  simp only [onScr_standing, onAeloon_standing]
  refine standing_foldl (fun r x => ?_) _ _
  refine standing_ite rfl ?_
  simp [standing_foldl fun q y => regSet_standing q _ _]

@[simp] theorem nextCount_standing : s.nextCount.standing = s.standing := by
  simp only [State.nextCount]
  split
  · exact standing_ite rfl (by simp)
  · rfl

@[simp] theorem anchorNow_standing (m : Motion) : (s.anchorNow m).standing = s.standing := rfl
@[simp] theorem freeRate_standing : s.freeRate.standing = s.standing := rfl
@[simp] theorem beginAcq_standing : s.beginAcq.standing = s.standing := rfl

@[simp] theorem phaseReady_standing : s.phaseReady.standing = s.standing :=
  setReady_standing_other s _ (by decide) (by decide) (by decide)

@[simp] theorem setWheel_standing (st : WheelState) (cause : Nat) (e : Int) : (s.setWheel st cause e).standing = s.standing := by
  simp only [State.setWheel]
  exact standing_ite rfl (by simp)

@[simp] theorem toFree_standing : s.toFree.standing = s.standing := by simp [State.toFree]

@[simp] theorem takeNominal_standing (v : BitVec 20) : (s.takeNominal v).standing = s.standing := standing_ite rfl rfl

@[simp] theorem wheelBoundary_standing : s.wheelBoundary.standing = s.standing := by
  have held : ∀ r : State, (if r.wheel.state = .holdover then
      if r.wheel.holdLeft.toNat ≤ 1 then r.toFree.beginAcq else r.onWheel fun w => { w with holdLeft := w.holdLeft - 1 }
    else r).standing = r.standing := fun r => standing_ite (standing_ite (by simp) rfl) rfl
  have acquired : ∀ r : State, (if r.wheel.acqWait then r.beginAcq else r).standing = r.standing := fun r => standing_ite rfl rfl
  simp only [State.wheelBoundary]
  split
  · rw [takeNominal_standing, onWheel_standing, acquired, held]
  · rw [acquired, held]

@[simp] theorem zoneLate_standing (p : Nat) (e : CutEntry) : (s.zoneLate p e).standing = s.standing := standing_ite rfl rfl

@[simp] theorem swapSkip_standing (p : Nat) (x : CutEntry × Nat) : (s.swapSkip p x).standing = s.standing := by simp [State.swapSkip]

@[simp] theorem skipEntry_standing (p : Nat) (e : CutEntry) (c : Nat) : (s.skipEntry p e c).standing = s.standing := by
  simp only [State.skipEntry, failEntry_standing]
  refine (standing_ite (s := if e.policy = 1 then s else if e.kind = .zoneWrite then s.zoneLate p e else s.scrCount p 0)
    (scrCount_standing ..) rfl).trans ?_
  exact standing_ite rfl (standing_ite (zoneLate_standing ..) rfl)

@[simp] theorem endTails_standing : s.endTails.standing = s.standing := by
  refine standing_foldl (fun r x => ?_) _ _
  exact swapSkip_standing ..

@[simp] theorem endZones_standing : s.endZones.standing = s.standing := by
  refine standing_foldl (fun r y => ?_) _ _
  exact (skipEntry_standing ..).trans (onPortQ_standing ..)

@[simp] theorem purge_standing : s.purge.standing = s.standing := by simp [State.purge]

@[simp] theorem clearMarks_standing (p : Nat) : (s.clearMarks p).standing = s.standing := by
  refine standing_foldl (fun r x => ?_) _ _
  exact onMark_standing ..

@[simp] theorem awlConfig_standing (n : Nat) : (s.awlConfig n).standing = s.standing := by
  simp only [State.awlConfig]
  exact standing_ite (onAwl_standing ..) (by simp)

@[simp] theorem twConfig_standing (m : Nat) : (s.twConfig m).standing = s.standing := by
  simp only [State.twConfig]
  exact standing_ite (onTw_standing ..) (by simp)

@[simp] theorem alertBoundary_standing (was : List Nat) : (s.alertBoundary was).standing = s.standing := by
  have start : ∀ (r : State) (a : Nat), (r.alertStart a).standing = r.standing := fun r a => standing_ite (onAlert_standing ..) rfl
  refine standing_foldl (fun r a => ?_) _ _
  exact standing_ite (standing_ite (onAlert_standing ..) rfl) <| standing_ite (standing_ite (start ..) rfl) <|
    standing_ite rfl <| standing_ite (onAlert_standing ..) (onAlert_standing ..)

@[simp] theorem registersBoundary_standing : s.registersBoundary.standing = s.standing := by
  simp only [State.registersBoundary, alertBoundary_standing]
  rw [standing_foldl fun r m => twConfig_standing r m, standing_foldl fun r n => awlConfig_standing r n, onPorts_standing, onScr_standing]

@[simp] theorem vmodeWanted_standing (i : Nat) : (s.vmodeWanted i).standing = s.standing := standing_ite (vmodeWant_standing ..) rfl

@[simp] theorem applyChange_standing (c : Change) : (s.applyChange c).standing = s.standing := by
  cases c with
  | points _ ps is sl =>
    simp only [State.applyChange]
    refine (standing_foldl (fun r x => ?_) _ _).trans ((standing_foldl (fun r c => ?_) _ _).trans (onTab_standing ..))
    · simp
    · exact onCourse_standing ..
  | coefs _ cs => rfl
  | pole _ es => rfl
  | courses _ rs => exact standing_foldl (fun r x => onCourse_standing ..) _ _
  | nominal v => exact takeNominal_standing s v
  | plain => rfl

@[simp] theorem swapPort_standing (old : List (CutEntry × Nat)) (p : Nat) (l : CutList) : (s.swapPort old p l).standing = s.standing := by
  simp only [State.swapPort]
  refine standing_ite ?_ ?_
  · refine (standing_foldl (fun r x => ?_) _ _).trans (onPortQ_standing ..)
    exact failEntry_standing ..
  · refine (standing_foldl (fun r x => ?_) _ _).trans (onPortQ_standing ..)
    exact swapSkip_standing ..

@[simp] theorem swap_standing (r : Compiled) : (s.swap r).standing = s.standing := by
  simp only [State.swap]
  refine (standing_foldl (fun q x => ?_) _ _).trans (standing_foldl applyChange_standing _ _)
  exact swapPort_standing ..

@[simp] theorem queueWire_standing (slot : Nat) : (s.queueWire slot).standing = s.standing := by
  unfold State.queueWire
  split
  · rfl
  · exact onPortQ_standing ..

@[simp] theorem releaseHeld_standing (n status : Nat) : (s.releaseHeld n status).standing = s.standing := by
  simp only [State.releaseHeld]
  refine (standing_foldl (fun r slot => ?_) _ _).trans (onAwl_standing ..)
  split
  · rfl
  · exact standing_ite (queueWire_standing ..) (standing_ite (failWire_standing ..) (failWire_standing ..))

@[simp] theorem mapSwap_standing (n : Nat) (w : WaitMap) : (s.mapSwap n w).standing = s.standing := by
  have told : ∀ (r : State) (u : Option Bool) (x : Bool → List Byte), (match u with
      | some byJob => r.post 0x021 n (x byJob)
      | none => r).standing = r.standing := by
    intro r u x
    cases u <;> simp
  simp only [State.mapSwap, releaseHeld_standing]
  refine (standing_foldl (fun r slot => complete_standing ..) _ _).trans ((onAwl_standing ..).trans ?_)
  refine (standing_ite (finishUnfence_standing ..) rfl).trans ((post_standing ..).trans ((told ..).trans ((onAwl_standing ..).trans ?_)))
  refine standing_foldl (fun r i => ?_) _ _
  exact onMark_standing ..

@[simp] theorem prefixSwap_standing (n : Nat) (w : WaitMap) : (s.prefixSwap n w).standing = s.standing := by
  have told : ∀ (r : State) (u : Option Bool) (x : Bool → List Byte), (match u with
      | some byJob => r.post 0x021 n (x byJob)
      | none => r).standing = r.standing := by
    intro r u x
    cases u <;> simp
  simp only [State.prefixSwap]
  refine (standing_ite (releaseHeld_standing ..) rfl).trans ((standing_foldl (fun r slot => complete_standing ..) _ _).trans ?_)
  refine (standing_ite (finishUnfence_standing ..) rfl).trans ((post_standing ..).trans ((told ..).trans ((onAwl_standing ..).trans ?_)))
  refine standing_foldl (fun r i => ?_) _ _
  exact onMark_standing ..

@[simp] theorem mapsBoundary_standing (maps : List Nat) : (s.mapsBoundary maps).standing = s.standing := by
  have pfx : ∀ (r : State) (n : Nat) (w : Option WaitMap), (match w with
      | some w => r.prefixSwap n w
      | none => r).standing = r.standing := by
    intro r n w
    cases w <;> simp
  refine standing_foldl (fun r n => ?_) _ _
  dsimp only
  split
  · exact (standing_ite (mapSwap_standing ..) rfl).trans (pfx ..)
  · exact pfx ..

@[simp] theorem twBoundary_standing : s.twBoundary.standing = s.standing :=
  standing_foldl (fun _ _ => (finishUnfence_standing ..).trans ((post_standing ..).trans (onTw_standing ..))) _ _

@[simp] theorem finishChanges_standing (r : Compiled) : (s.finishChanges r).standing = s.standing := by
  refine standing_foldl (fun q c => ?_) _ _
  split
  · exact complete_standing ..
  · rfl

@[simp] theorem commit_standing (i cause : Nat) (deferred : Bool) : (s.commit i cause deferred).standing = s.standing := by
  unfold State.commit
  split
  · rfl
  · exact standing_ite rfl (standing_ite rfl (standing_ite rfl rfl))

@[simp] theorem applyTally_standing (c : TallyCmd) : (s.applyTally c).standing = s.standing := by
  have begun : ∀ slot i d, (State.complete ((s.onTally fun t => { t with strings := tset none t.strings i (some (s.beginString i d)) }).commit i 3)
      slot 0).standing = s.standing := fun slot i d => by simp
  unfold State.applyTally
  refine standing_ite rfl ?_
  cases c with
  | set slot i d => exact begun slot i d
  | clear slot i => exact complete_standing ..
  | ocv slot first ws => exact complete_standing ..
  | soc slot i soc unc => simp
  | learnReset slot i => simp

/-- A cycle boundary. -/
@[simp] theorem boundary_standing : s.boundary.standing = s.standing := by
  have marked : ∀ r : State, r.markCycle.standing = r.standing := fun r => standing_ite rfl rfl
  have tally : ∀ r : State, r.applyTallyAll.standing = r.standing := fun r => standing_foldl applyTally_standing _ _
  have sweep : ∀ r : State, r.sweepBoundary.standing = r.standing := fun r => standing_foldl (fun q n => onAwl_standing ..) _ _
  have vmode : ∀ r : State, r.vmodeBoundary.standing = r.standing := fun r =>
    standing_ite (standing_foldl (fun q x => vmodeWanted_standing ..) _ _) rfl
  have finished : ∀ (r : State) (x : Option Compiled), (match x with
      | some x => r.finishChanges x
      | none => r).standing = r.standing := fun r x => by cases x <;> simp
  have swapped : ∀ (r : State) (x : Option Compiled), (match x with
      | some x => r.swap x
      | none => r).standing = r.standing := fun r x => by cases x <;> simp
  simp only [State.boundary, State.trimQueues]
  rw [onPorts_standing, startCompile_standing, vmode, sweep, tally]
  refine (finished ..).trans ?_
  rw [twBoundary_standing, mapsBoundary_standing]
  refine (swapped ..).trans ?_
  rw [registersBoundary_standing, purge_standing, onPole_standing, wheelBoundary_standing, commitStaged_standing, nextCount_standing,
    marked, onWheel_standing]

end

/-! ### Halter mode is entered (R424, R536, R537) -/

/-- In Halter mode no pole entry fires in a step's span. -/
theorem fireSpan_halter {s : State} (h : s.halterOn = true) (lo hi : Nat) : s.fireSpan lo hi = s :=
  if_pos (by rw [h]; rfl)

theorem halterOn_of_standing {r s : State} (h : r.standing = s.standing) : r.halterOn = s.halterOn := congrArg Standing.halterOn h

section
variable {s : State} (h : s.halterOn = true)
include h

theorem stepBy_standing (e : Rat) : (s.stepBy e).standing = s.standing := by
  have landed : ∀ f, (s.onWheel f).halterOn = true := fun _ => h
  simp only [State.stepBy]
  rw [fireSpan_halter (landed _), fireSpan_halter (landed _), fireSpan_halter]
  · exact standing_ite (onWheel_standing ..) ((onWheel_standing ..).trans ((boundary_standing _).trans (onWheel_standing ..)))
  · exact (halterOn_of_standing ((onWheel_standing ..).trans ((boundary_standing _).trans (onWheel_standing ..)))).trans h

theorem applyCorrection_standing (e : Int) (quiet : Bool) : (s.applyCorrection e quiet).standing = s.standing := by
  have told : ∀ (r : State) (p : Prop) [Decidable p] (cause : Nat), (if p then r.postPhase r.wheelReported cause e else r).standing = r.standing :=
    fun r p _ cause => standing_ite (postPhase_standing ..) rfl
  unfold State.applyCorrection
  refine standing_ite rfl ?_
  simp only [State.jump]
  refine standing_ite ?_ ?_
  · rw [stepBy_standing, told, onWheel_standing]
    exact (halterOn_of_standing (told ..)).trans h
  · rw [anchorNow_standing, told, onWheel_standing]

theorem stopManager_standing : s.stopManager.standing = s.standing := by
  have link : ∀ f, ((s.onAeloon f).setReady 6 false).standing = s.standing := fun f =>
    setReady_standing_other (s.onAeloon f) false (by decide) (by decide) (by decide)
  simp only [State.stopManager]
  refine standing_ite rfl ?_
  split
  · rw [applyCorrection_standing, onWheel_standing]
    · exact link _
    · exact (halterOn_of_standing ((onWheel_standing ..).trans (link _))).trans h
  · exact link _

end

@[simp] theorem postHalter_standing (s : State) (code kind : Nat) (payload : List Byte) :
    (s.postHalter code kind payload).standing = s.standing := by simp [State.postHalter]

@[simp] theorem dropSnaps_standing (s : State) : s.dropSnaps.standing = s.standing := rfl

/-- The entry into Halter mode puts it in force, and leaves the Cinch die and the brown-out's record. -/
theorem enterHalter_standing (s : State) (cause : Nat) : (s.enterHalter cause).standing = { s.standing with halterOn := true } := by
  unfold State.enterHalter
  dsimp only
  split
  next h =>
    rw [onHalter_standing, ← h]
    rfl
  next h =>
    have entered : ∀ f, ((s.onHalter f).setReady 8 true).standing = { s.standing with halterOn := true } := fun f =>
      setReady_standing_halterOn (s.onHalter f) true
    split
    · exact entered _
    · rw [postHalter_standing, dropSnaps_standing, releaseFields_standing, stopManager_standing]
      · exact entered _
      · exact congrArg Standing.halterOn (entered _)

end Sys2Proof.Machine
end

section
/-! The brown-out (13): the warning, and what firmware jobs and an exit from Halter mode leave of the supply (R542, R552, R553,
R555, R584). -/
namespace Sys2Proof.Machine

/-! ### The warning (R552, R553) -/

section
variable (s : State)

@[simp] theorem freezeTrace_standing : s.freezeTrace.standing = s.standing := by
  simp only [State.freezeTrace]
  exact (standing_foldl (fun _ _ => complete_standing ..) _ _).trans ((post_standing ..).trans (onTrace_standing ..))

@[simp] theorem traceBrownout_standing : s.traceBrownout.standing = s.standing := by
  simp only [State.traceBrownout]
  exact standing_ite rfl ((freezeTrace_standing _).trans (onTrace_standing ..))

@[simp] theorem sillAbort_standing : s.sillAbort.standing = s.standing := by
  unfold State.sillAbort
  split <;> rfl

/-- Of the brown-out's record a copy that starts changes only what is said of the copy. -/
theorem startCopy_standing : ∃ p, s.startCopy.standing = { s.standing with power := p } ∧
    p.warn = s.power.warn ∧ p.holdOk = s.power.holdOk ∧ p.vinCode = s.power.vinCode := by
  simp only [State.startCopy]
  split
  · exact ⟨s.power, rfl, rfl, rfl, rfl⟩
  · exact ⟨_, rfl, rfl, rfl, rfl⟩

/-- What a Beam die out of reset does at the warning touches of the brown-out's record only what is said of the copy. -/
theorem warned_standing : ∃ p, ((s.setReady 9 true).shedPullUps.traceBrownout.startCopy.sillAbort).standing =
    { s.standing with power := p, warning := true } ∧ p.warn = s.power.warn ∧ p.holdOk = s.power.holdOk ∧ p.vinCode = s.power.vinCode := by
  have hfrozen : (s.setReady 9 true).shedPullUps.traceBrownout.standing = { s.standing with warning := true } := by
    rw [traceBrownout_standing, shedPullUps_standing, setReady_standing_warning]
  generalize (s.setReady 9 true).shedPullUps.traceBrownout = r at hfrozen ⊢
  have hpower : r.power = s.power := congrArg Standing.power hfrozen
  obtain ⟨p, hp, hcopied⟩ := startCopy_standing r
  rw [hpower] at hcopied
  exact ⟨p, by rw [sillAbort_standing, hp, hfrozen], hcopied⟩

/-- The warning stands with HOLD_OK and the VIN code as they were taken. -/
theorem brownoutWarning_standing (h : s.power.warn = false) (code : Nat) (hold : Bool) :
    ∃ p, (s.brownoutWarning code hold).standing = { s.standing with power := p, warning := true } ∧
      p.warn = true ∧ p.holdOk = hold ∧ p.vinCode = code % 4096 := by
  have hnew : ¬ s.power.warn = true := by rw [h]; exact Bool.false_ne_true
  simp only [State.brownoutWarning, if_neg hnew]
  split
  · rw [sillAbort_standing, setReady_standing_warning]
    exact ⟨_, rfl, rfl, rfl, rfl⟩
  · exact warned_standing _

end

/-! ### What firmware jobs and an exit from Halter mode leave of the supply (R542, R555, R584) -/

/-- What is recorded of the supply of power: the brown-out's record, and whether the warning is active. -/
def State.supply (s : State) : Power × Bool := (s.power, s.warning)

theorem supply_of_standing {r s : State} {c : Cinch} {b : Bool} (h : r.standing = { s.standing with cinch := c, halterOn := b }) :
    r.supply = s.supply := congrArg (fun x : Standing => (x.power, x.warning)) h

theorem supply_ite {p : Prop} [Decidable p] {q r s : State} (hq : q.supply = s.supply) (hr : r.supply = s.supply) :
    (if p then q else r).supply = s.supply := by
  split
  · exact hq
  · exact hr

section
variable (s : State)

@[simp] theorem onFw_supply (f : Firmware → Firmware) : (s.onFw f).supply = s.supply := rfl
@[simp] theorem putFw_supply (slot off : Nat) (bs : List Byte) : (s.putFw slot off bs).supply = s.supply := rfl

@[simp] theorem complete_supply (slot status : Nat) (payload : List Byte) (detail : Nat) :
    (s.complete slot status payload detail).supply = s.supply := supply_of_standing (complete_standing ..)

@[simp] theorem enterHalter_supply (cause : Nat) : (s.enterHalter cause).supply = s.supply := supply_of_standing (enterHalter_standing s cause)

@[simp] theorem climb_supply (cycle : Bool) (cause : Nat) : (s.climb cycle cause).supply = s.supply :=
  supply_ite rfl (enterHalter_supply s 3)

@[simp] theorem commitImage_supply (j : Job) : (s.commitImage j).supply = s.supply := by
  simp only [State.commitImage]
  refine supply_ite (complete_supply ..) ?_
  split
  · exact complete_supply ..
  · refine supply_ite (complete_supply ..) (supply_ite ((climb_supply ..).trans ?_) ?_)
    · exact complete_supply ..
    · exact complete_supply ..

@[simp] theorem fwBegin_supply (j : Job) : (s.fwBegin j).supply = s.supply := by
  unfold State.fwBegin
  refine supply_ite ?_ (supply_ite rfl (commitImage_supply ..))
  split
  · exact complete_supply ..
  · rfl

@[simp] theorem fwNext_supply (k : Nat) : (s.fwNext k).supply = s.supply := by
  induction k generalizing s with
  | zero => rfl
  | succ k ih =>
    unfold State.fwNext
    refine supply_ite rfl ?_
    split
    · rfl
    · dsimp only
      split
      · rw [ih, fwBegin_supply, onFw_supply]
      · rw [ih, onFw_supply]

@[simp] theorem stageWrite_supply (j : Job) : (s.stageWrite j).supply = s.supply := by
  simp only [State.stageWrite, fwNext_supply, complete_supply, onFw_supply, putFw_supply]
  exact supply_ite (putFw_supply ..) rfl

@[simp] theorem fwResume_supply : s.fwResume.supply = s.supply := by
  unfold State.fwResume
  refine supply_ite rfl ?_
  dsimp only
  split
  · exact supply_ite (stageWrite_supply ..) ((fwNext_supply ..).trans (commitImage_supply ..))
  · rfl

theorem onCinch_standing (f : Cinch → Cinch) : (s.onCinch f).standing = { s.standing with cinch := f s.cinch } := rfl

/-- A state change of the power entry changes the Cinch die and posts its event. -/
theorem toEntry_standing (e : Entry) : ∃ c, (s.toEntry e).standing = { s.standing with cinch := c } := by
  simp only [State.toEntry]
  split
  · exact ⟨s.cinch, rfl⟩
  · simp only [State.postEntry]
    rw [onCinch_standing, post_standing, onCinch_standing]
    exact ⟨_, rfl⟩

/-- Halter mode ends in force no more, with the supply as it was. -/
theorem exitHalter_standing (code kind : Nat) (payload : List Byte) :
    ((s.setReady 8 false).postHalter code kind payload).searchAgain.standing = { s.standing with halterOn := false } := by
  rw [searchAgain_standing, postHalter_standing, setReady_standing_halterOn]

end

/-- An exit that is asked for, if it takes effect, ends Halter mode and may start the power entry anew (R544, R545). -/
theorem halterExit_standing (s : State) : ∃ c b, s.halterExit.standing = { s.standing with cinch := c, halterOn := b } := by
  unfold State.halterExit
  split
  · exact ⟨s.cinch, s.halterOn, rfl⟩
  · split
    · exact ⟨s.cinch, s.halterOn, rfl⟩
    · obtain ⟨c, hc⟩ := toEntry_standing s .faultWait
      dsimp only
      split
      · exact ⟨c, false, by rw [onScr_standing, onPole_standing, onPorts_standing, exitHalter_standing, onHalter_standing, hc]⟩
      · exact ⟨s.cinch, false, by rw [onScr_standing, onPole_standing, onPorts_standing, exitHalter_standing, onHalter_standing]; rfl⟩

/-- Where nothing stands against it, an exit ends Halter mode. -/
theorem halterExit_halterOn {s : State} (hup : s.core.up = true) (hon : s.halterOn = true) (hbar : s.exitBar = true)
    (hsec : s.secureHeld = false) (hwarn : s.warning = false) : s.halterExit.halterOn = false := by
  have hgo : ¬ (!s.halterOn || !s.core.up || !s.exitBar || (s.secureHeld && !s.halter.release)) = true := by simp [hon, hup, hbar, hsec]
  have hnow : ¬ s.warning = true := by rw [hwarn]; exact Bool.false_ne_true
  suffices h : s.halterExit.standing.halterOn = false from h
  simp only [State.halterExit, if_neg hgo, if_neg hnow]
  rw [onScr_standing, onPole_standing, onPorts_standing, exitHalter_standing]

end Sys2Proof.Machine
end

section
/-! The commands of the brown-out and of the Foremen's restarts (13): the warning, its clear, the loss of the rails, the end of the
copy, and what a Foreman that restarts takes with it (R404 to R406, R411, R532, R550 to R555). -/
namespace Sys2Proof.Machine

/-! ### The warning clears (R554, R555) -/

/-- The warning is over, before the Slovor resumes. -/
def State.warningOver (s : State) : State := (s.onPower fun p => { p with warn := false }).setReady 9 false

theorem warningOver_parts (s : State) : ∃ l, s.warningOver = { s with
    power := { s.power with warn := false }, link := l, core := { s.core with ready := BitVec.ofNat 10 (setBit s.core.ready.toNat 9 false) } } :=
  setReady_link (s.onPower fun p => { p with warn := false }) 9 false

@[simp] theorem warningOver_power (s : State) : s.warningOver.power = { s.power with warn := false } := by
  obtain ⟨l, h⟩ := warningOver_parts s
  rw [h]

@[simp] theorem warningOver_up (s : State) : s.warningOver.core.up = s.core.up := by
  obtain ⟨l, h⟩ := warningOver_parts s
  rw [h]

@[simp] theorem warningOver_resetCause (s : State) : s.warningOver.core.resetCause = s.core.resetCause := by
  obtain ⟨l, h⟩ := warningOver_parts s
  rw [h]

theorem warningOver_supply (s : State) : s.warningOver.supply = ({ s.power with warn := false }, false) :=
  Prod.ext (warningOver_power s) (bitAt_setReady _ 9 false (by decide))

theorem commit_tally (s : State) (i cause : Nat) (deferred : Bool) : ∃ x, s.commit i cause deferred = { s with tally := x } := by
  unfold State.commit
  split
  · exact ⟨s.tally, rfl⟩
  · split
    · exact ⟨s.tally, rfl⟩
    · split
      · exact ⟨_, rfl⟩
      · split
        · exact ⟨_, rfl⟩
        · exact ⟨_, rfl⟩

theorem commitDue_tally (s : State) : ∃ x, s.commitDue = { s with tally := x } := by
  refine List.foldlRecOn (motive := fun r => ∃ x, r = { s with tally := x }) _ _ ⟨{ s.tally with due := [] }, rfl⟩ ?_
  rintro _ ⟨x, rfl⟩ c _
  exact commit_tally { s with tally := x } c.1 c.2.1 c.2.2

/-- While no firmware job runs, there is no write to resume. -/
theorem fwResume_idle {s : State} (h : s.fw.running = none) : ∃ x, s.fwResume = { s with fw := x } := by
  unfold State.fwResume
  split
  · exact ⟨s.fw, rfl⟩
  · exact ⟨{ s.fw with paused := false }, by simp only [State.onFw, h, Option.bind_none]⟩

/-- What resumes once the warning is over: commits that fell due, and a firmware job's write. -/
def State.resumed (s : State) : State := ((s.warningOver.onScr fun c => { c with paused := true }).commitDue).fwResume

theorem resumed_supply (s : State) : s.resumed.supply = ({ s.power with warn := false }, false) := by
  obtain ⟨x, hx⟩ := commitDue_tally (s.warningOver.onScr fun c => { c with paused := true })
  rw [State.resumed, fwResume_supply, hx]
  exact warningOver_supply s

section
variable {s : State} (hwarn : s.power.warn = true)
include hwarn

/-- The clear by where it finds the Beam die: without its rails, in reset, or running. -/
theorem warningClear_eq : s.warningClear =
    if s.power.railsOff then if s.core.resetCause = 7 then s.warningOver.onPower fun p => { p with railsOff := false } else s.warningOver
    else if !s.core.up then s.warningOver
    else if s.resumed.halter.exitWait then (s.resumed.onHalter fun h => { h with exitWait := false }).halterExit else s.resumed := by
  have hactive : ¬ (!s.power.warn) = true := by simp [hwarn]
  rw [State.warningClear, if_neg hactive, ← State.warningOver]
  simp only [warningOver_power, warningOver_up, warningOver_resetCause]
  rfl

/-- After a brown-out the Beam die is powered again; rails that another power cycle holds off stay off (R554). -/
theorem warningClear_railsOff (hoff : s.power.railsOff = true) : s.warningClear.supply =
    ({ s.power with warn := false, railsOff := decide (s.core.resetCause ≠ 7) }, false) := by
  have hover := warningOver_supply s
  rw [warningClear_eq hwarn, if_pos hoff]
  split
  next h =>
    have hpowered : (s.warningOver.onPower fun p => { p with railsOff := false }).supply =
      ({ s.warningOver.power with railsOff := false }, s.warningOver.supply.2) := rfl
    rw [hpowered, hover, warningOver_power, h]
    rfl
  next h => rw [hover, decide_eq_true h, ← hoff]

/-- While the rails stand the clear changes of the supply the warning alone. -/
theorem warningClear_railsOn (hon : s.power.railsOff = false) : s.warningClear.supply = ({ s.power with warn := false }, false) := by
  rw [warningClear_eq hwarn, hon, if_neg Bool.false_ne_true]
  split
  · exact warningOver_supply s
  · obtain ⟨c, b, h⟩ := halterExit_standing (s.resumed.onHalter fun h => { h with exitWait := false })
    rw [← resumed_supply s]
    exact supply_ite (supply_of_standing h) rfl

omit hwarn in
/-- What resumes while no firmware job runs: besides the warning's bit the exit from Halter mode finds all as it was. -/
theorem resumed_idle (hidle : s.fw.running = none) : ∃ l x y c, s.resumed = { s with
    power := { s.power with warn := false }, link := l, tally := x, fw := y, scr := c
    core := { s.core with ready := BitVec.ofNat 10 (setBit s.core.ready.toNat 9 false) } } := by
  obtain ⟨l, hover⟩ := warningOver_parts s
  obtain ⟨x, hdue⟩ := commitDue_tally (s.warningOver.onScr fun c => { c with paused := true })
  have hfw : ((s.warningOver.onScr fun c => { c with paused := true }).commitDue).fw.running = none := by
    rw [hdue, hover]
    exact hidle
  obtain ⟨y, hresume⟩ := fwResume_idle hfw
  refine ⟨l, x, y, { s.scr with paused := true }, ?_⟩
  rw [State.resumed, hresume, hdue, hover]
  rfl

/-- An exit from Halter mode that waited for the warning takes effect (R555). -/
theorem warningClear_exits (hon : s.power.railsOff = false) (hup : s.core.up = true) (hwait : s.halter.exitWait = true)
    (hhalter : s.halterOn = true) (hbar : s.exitBar = true) (hsec : s.secureHeld = false) (hidle : s.fw.running = none) :
    s.warningClear.halterOn = false := by
  have hbit : ∀ i, i ≠ 9 → i < 10 → bitAt (BitVec.ofNat 10 (setBit s.core.ready.toNat 9 false)).toNat i = bitAt s.core.ready.toNat i :=
    fun i hi h10 => by rw [bitAt_ofNat _ h10, bitAt_setBit_other _ _ hi]
  have hcleared := congrArg Prod.snd (resumed_supply s)
  obtain ⟨l, x, y, c, hres⟩ := resumed_idle hidle
  rw [warningClear_eq hwarn, if_neg (by simp [hon]), if_neg (by simp [hup]), if_pos (by rw [hres]; exact hwait)]
  rw [hres] at hcleared ⊢
  refine halterExit_halterOn hup ((hbit 8 (by decide) (by decide)).trans hhalter) ?_ ?_ hcleared
  · rw [← hbar]
    simp only [State.exitBar, State.onHalter, hbit 1 (by decide) (by decide), hbit 2 (by decide) (by decide), hbit 3 (by decide) (by decide)]
    rfl
  · have hnone : (s.halter.secure || s.exitSecure) = false := by simpa [State.secureHeld, hhalter] using hsec
    exact Bool.and_eq_false_imp.2 fun _ => hnone

end

/-! ### The rails go off (R554, R555) -/

/-- The rails go off in Halter mode, and the Cinch die stands. -/
theorem brownOut_parts (s : State) : s.brownOut.core.up = false ∧ s.brownOut.core.resetCause = 7 ∧ s.brownOut.power.railsOff = true ∧
    s.brownOut.cinch = s.cinch ∧ s.brownOut.halterOn = true := by
  have hentered := enterHalter_standing s 4
  have hbit : bitAt (s.enterHalter 4).core.ready.toNat 8 = true := congrArg Standing.halterOn hentered
  refine ⟨rfl, rfl, rfl, congrArg Standing.cinch hentered, ?_⟩
  show bitAt ((s.enterHalter 4).core.ready &&& 0x300).toNat 8 = true
  rw [bitAt_eq_testBit] at hbit ⊢
  rw [BitVec.toNat_and, Nat.testBit_and, hbit]
  rfl

theorem finishCopy_parts {s : State} (h : s.power.copying = true) : ∃ m,
    s.finishCopy = { s with power := { s.power with copying := false, copyDone := true }, free := s.free + 1, mram := m } := by
  have hruns : ¬ (!s.power.copying) = true := by simp [h]
  simp only [State.finishCopy, if_neg hruns, takeFree_eq]
  obtain ⟨m, hm, -⟩ := writeHistory_mram ((State.putFaults { s with power := { s.power with copying := false, copyDone := true }, free := s.free + 1 }
    (copyOff + 64) s.power.copyBody).putFaults copyOff (sealRecord copyOff s.power.copyHead)) 5 (leBytes 16 (Config.freeNat s.free))
  exact ⟨m, hm⟩

/-- The copy ends; no rung waits for it (R553). -/
theorem copyComplete_parts {s : State} (h : s.power.copying = true) (hrung : s.halter.waitingRung = none) : ∃ m,
    s.copyComplete = { s with power := { s.power with copying := false, copyDone := true }, free := s.free + 1, mram := m } := by
  obtain ⟨m, hm⟩ := finishCopy_parts h
  refine ⟨m, ?_⟩
  rw [State.copyComplete, if_pos h, hm, State.climbWaiting]
  simp only [hrung]

/-! ### A Foreman restarts (R404 to R406, R411, R532) -/

/-- `r` differs from `s` at most in the rail, its firmware epochs excepted, and in the link. -/
def State.sameButMail (r s : State) : Prop :=
  ∃ x l, r = { s with rail := x, link := l } ∧ x.fgEpoch = s.rail.fgEpoch ∧ x.fsEpoch = s.rail.fsEpoch

theorem sameButMail_trans {q r s : State} (h1 : q.sameButMail r) (h2 : r.sameButMail s) : q.sameButMail s := by
  obtain ⟨x, l, rfl, hg, hs⟩ := h2
  obtain ⟨y, k, rfl, hg', hs'⟩ := h1
  exact ⟨y, k, rfl, hg'.trans hg, hs'.trans hs⟩

theorem sameButMail_refl (s : State) : s.sameButMail s := ⟨s.rail, s.link, rfl, rfl, rfl⟩

theorem onChan_sameButMail (s : State) (c : Nat) (f : Channel → Channel) : (s.onChan c f).sameButMail s := by
  obtain ⟨m, h⟩ := onChan_rail s c f
  exact ⟨_, s.link, h, rfl, rfl⟩

theorem releaseIn_sameButMail (s : State) (c : Nat) : (s.releaseIn c).sameButMail s := by
  unfold State.releaseIn
  split
  · obtain ⟨m, w, h⟩ := onChan_ringBell_rail s c (16 + c)
      fun x => { x with inb := { x.inb with full := false, orphan := false, taken := false }, crossed := false }
    exact ⟨_, s.link, h, rfl, rfl⟩
  · exact sameButMail_refl s

theorem post_sameButMail (s : State) (code src : Nat) (payload : List Byte) (status : Nat) :
    (s.post code src payload status).sameButMail s := by
  obtain ⟨l, h⟩ := post_link s code src payload status
  exact ⟨s.rail, l, h, rfl, rfl⟩

/-- The words of a Foreman that restarts go, and its epoch counts (R404 to R406, R411). -/
theorem firmwareReset_sameButMail (s : State) (isG : Bool) : (s.firmwareReset isG).sameButMail
    (s.onRail fun r => if isG then { r with fgEpoch := r.fgEpoch + 1 } else { r with fsEpoch := r.fsEpoch + 1 }) := by
  simp only [State.firmwareReset]
  refine List.foldlRecOn (motive := (State.sameButMail · _)) _ _ (sameButMail_refl _) fun r hr c _ => sameButMail_trans ?_ hr
  split
  · exact sameButMail_refl r
  · refine sameButMail_trans (onChan_sameButMail ..) ?_
    split
    · refine sameButMail_trans (post_sameButMail ..) ?_
      have counted : ∀ q : State, (q.onRail fun x => { x with cnt3 := satInc x.cnt3 }).sameButMail q := fun q => ⟨_, q.link, rfl, rfl, rfl⟩
      exact sameButMail_trans (counted _) (sameButMail_trans (onChan_sameButMail ..) (releaseIn_sameButMail r c))
    · exact sameButMail_refl r

/-- A restart ends with its record in the fault history: the Foreman's epoch counts, and beside the rail, the link and MRAM
nothing changes. -/
theorem firmwareReset_record (s : State) (isG : Bool) (payload : List Byte) : ∃ x l m,
    (s.firmwareReset isG).writeHistory 7 payload = { s with rail := x, link := l, mram := m } ∧
    x.fgEpoch = (if isG then s.rail.fgEpoch + 1 else s.rail.fgEpoch) ∧ x.fsEpoch = if isG then s.rail.fsEpoch else s.rail.fsEpoch + 1 := by
  obtain ⟨x, l, hx, hg, hs⟩ := firmwareReset_sameButMail s isG
  obtain ⟨m, hm, -⟩ := writeHistory_mram (s.firmwareReset isG) 7 payload
  refine ⟨x, l, m, by rw [hm, hx]; rfl, ?_, ?_⟩
  · rw [hg]
    cases isG <;> rfl
  · rw [hs]
    cases isG <;> rfl

/-! What Foreman G's restart does to jobs and changes leaves the tables, and of the rest what field work leaves. -/

section
variable (s : State)

theorem setReady_tab (bit : Nat) (v : Bool) : (s.setReady bit v).tab = s.tab := by
  obtain ⟨l, h⟩ := setReady_link s bit v
  rw [h]

theorem complete_tab (slot status : Nat) (payload : List Byte) (detail : Nat) : (s.complete slot status payload detail).tab = s.tab := by
  obtain ⟨l, c, n, h⟩ := complete_parts s slot status payload detail
  rw [h]

theorem failWire_tab (slot status detail : Nat) : (s.failWire slot status detail).tab = s.tab := by
  rcases failWire_complete s slot status detail with h | ⟨pl, h⟩
  · rw [h]
  · rw [h, complete_tab]

theorem endAborted_tab (j : Job) : (s.endAborted j).tab = s.tab := by
  unfold State.endAborted
  split
  · exact failWire_tab ..
  · split <;> exact complete_tab ..

theorem endAborted_standing (j : Job) : (s.endAborted j).standing = s.standing :=
  standing_ite (failWire_standing ..) (standing_ite (complete_standing ..) (complete_standing ..))

theorem abortJobs_tab : s.abortJobs.tab = s.tab := by
  refine List.foldlRecOn (motive := fun r : State => r.tab = s.tab) _ _ rfl fun r hr k _ => Eq.trans ?_ hr
  split
  · rfl
  · split
    · rfl
    · exact endAborted_tab ..

theorem abortJobs_standing : s.abortJobs.standing = s.standing := by
  refine standing_foldl (fun r k => ?_) _ _
  split
  · rfl
  · exact standing_ite rfl ((endAborted_standing ..).trans rfl)

theorem settleRearm_mram : ∃ k m, s.settleRearm = { s with tack := k, mram := m } := by
  unfold State.settleRearm
  split
  · unfold State.rearmRing
    split
    · obtain ⟨m, h⟩ := collectCopy_mram (s.onTrace fun k => { k with state := 0, rearm := false })
      exact ⟨_, m, h⟩
    · exact ⟨_, s.mram, rfl⟩
  · exact ⟨s.tack, s.mram, rfl⟩

theorem scr_ite {p : Prop} [Decidable p] {q r s : State} (hq : ∃ c, q = { s with scr := c }) (hr : ∃ c, r = { s with scr := c }) :
    ∃ c, (if p then q else r) = { s with scr := c } := by
  split
  · exact hq
  · exact hr

theorem scr_onScr {r s : State} (h : ∃ c, r = { s with scr := c }) (f : Scriber → Scriber) : ∃ c, r.onScr f = { s with scr := c } := by
  obtain ⟨c, rfl⟩ := h
  exact ⟨f c, rfl⟩

theorem scr_requestCompile {r s : State} (h : ∃ c, r = { s with scr := c }) (x : Change) : ∃ c, r.requestCompile x = { s with scr := c } := by
  obtain ⟨c, rfl⟩ := h
  exact requestCompile_scr { s with scr := c } x

theorem withdraw_scr (out : Change → Bool) : ∃ c, s.withdraw out = { s with scr := c } := by
  have kept : ∀ f, ∃ c, s.onScr f = { s with scr := c } := fun f => ⟨f s.scr, rfl⟩
  simp only [State.withdraw]
  refine scr_ite (scr_requestCompile ?_ .plain) ?_ <;>
    exact scr_ite (scr_onScr (scr_ite (scr_onScr (kept _) _) (kept _)) _) (scr_ite (scr_onScr (kept _) _) (kept _))

@[simp] theorem withdraw_stitch (out : Change → Bool) : (s.withdraw out).stitch = s.stitch := by
  obtain ⟨c, h⟩ := withdraw_scr s out
  rw [h]

@[simp] theorem withdraw_tab (out : Change → Bool) : (s.withdraw out).tab = s.tab := by
  obtain ⟨c, h⟩ := withdraw_scr s out
  rw [h]

end

theorem settleRearm_standing (s : State) : s.settleRearm.standing = s.standing := by
  obtain ⟨k, m, h⟩ := settleRearm_mram s
  rw [h]
  rfl

@[simp] theorem onTrace_tab (s : State) (f : Trace → Trace) : (s.onTrace f).tab = s.tab := rfl

theorem settleRearm_tab (s : State) : s.settleRearm.tab = s.tab := by
  obtain ⟨k, m, h⟩ := settleRearm_mram s
  rw [h]

/-- An update of the Beam die's own record that touches neither READY_CORE nor its reset. -/
theorem onCore_standing (s : State) {f : CoreDie → CoreDie} (hup : ∀ c, (f c).up = c.up) (hready : ∀ c, (f c).ready = c.ready) :
    (s.onCore f).standing = s.standing := by
  simp only [State.standing, State.halterOn, State.warning, State.onCore_core, hup, hready]
  rfl

/-- The jobs in flight end, and what of them waits on the ports and at the trace ring is gone. -/
def State.jobsGone (s : State) : State :=
  let s := (s.setReady 2 false).abortJobs
  let s := s.onPorts fun p => { p with awl := tmap {} (fun a => { a with unfenceJobs := [] }) p.awl, tw := tmap {} (fun a => { a with unfenceJobs := [] }) p.tw }
  (s.onTrace fun k => { k with freezeJobs := [], copySlots := [] }).settleRearm

/-- What of jobs waits for a unit, the firmware, Tally and the cascade is gone. -/
def State.waitsGone (s : State) : State :=
  let s := s.onStitch fun u => { u with units := [], waiting := [] }
  let s := (s.onFw fun f => { f with running := none, waiting := [], paused := false, begun := f.begun && f.running.isNone }).onTally fun t => { t with cmds := [] }
  { s with aeloon := { s.aeloon with pushes := [], staged := s.aeloon.staged.map fun x => Staged.settled x } }

/-- Foreman G stops, before its words on the rail go: jobs and their changes that are not in force are lost. -/
def State.gStopped (s : State) : State :=
  let s := s.jobsGone.waitsGone.withdraw fun c => c.slot.isSome
  s.onCore fun c => { c with gAnswers := false, gStart := some s.now, reportOut := false }

theorem restartG_eq {s : State} (hup : s.core.up = true) (h : s.core.gStart.isSome = true ∨ bitAt s.core.ready.toNat 2 = true) :
    s.restartG = (s.gStopped.firmwareReset true).writeHistory 7 [0] := by
  have hgo : ¬ (!s.core.up || (s.core.gStart.isNone && !bitAt s.core.ready.toNat 2)) = true := by
    rcases h with h | h
    · simp [hup, Option.isNone_eq_false_iff.2 h]
    · simp [hup, h]
  rw [State.restartG, if_neg hgo]
  rfl

theorem waitsGone_standing (s : State) : s.waitsGone.standing = s.standing := rfl
theorem waitsGone_stitch (s : State) : s.waitsGone.stitch.waiting = [] := rfl
theorem waitsGone_tab (s : State) : s.waitsGone.tab = s.tab := rfl

theorem gStopped_standing (s : State) : s.gStopped.standing = { s.standing with gReady := false } := by
  simp only [State.gStopped, State.jobsGone]
  rw [onCore_standing]
  case hup => exact fun _ => rfl
  case hready => exact fun _ => rfl
  rw [standing_of_scr (withdraw_scr ..), waitsGone_standing, settleRearm_standing, onTrace_standing, onPorts_standing,
    abortJobs_standing, setReady_standing_gReady]

theorem gStopped_waiting (s : State) : s.gStopped.stitch.waiting = [] := by
  rw [State.gStopped, State.onCore_stitch, withdraw_stitch, waitsGone_stitch]

theorem gStopped_tab (s : State) : s.gStopped.tab = s.tab := by
  rw [State.gStopped, State.onCore_tab, withdraw_tab, waitsGone_tab, State.jobsGone, settleRearm_tab, onTrace_tab, State.onPorts_tab,
    abortJobs_tab, setReady_tab]

/-- Foreman G is not ready, its epoch counts, no job waits for a unit, and the points stand (R532). -/
theorem restartG_parts {s : State} (hup : s.core.up = true) (h : s.core.gStart.isSome = true ∨ bitAt s.core.ready.toNat 2 = true) :
    bitAt s.restartG.core.ready.toNat 2 = false ∧ s.restartG.rail.fgEpoch = s.rail.fgEpoch + 1 ∧ s.restartG.stitch.waiting = [] ∧
      s.restartG.tab.points = s.tab.points := by
  have hstands := gStopped_standing s
  have hwaiting := gStopped_waiting s
  have htab := gStopped_tab s
  rw [restartG_eq hup h]
  generalize s.gStopped = r at hstands hwaiting htab ⊢
  obtain ⟨x, l, m, hreset, hepoch, -⟩ := firmwareReset_record r true [0]
  have hrail : r.rail = s.rail := congrArg Standing.rail hstands
  rw [if_pos rfl, hrail] at hepoch
  rw [hreset]
  exact ⟨congrArg Standing.gReady hstands, hepoch, hwaiting, congrArg Tables.points htab⟩

/-- Foreman S is not ready, its epoch counts, and the points stand (R532). -/
theorem restartS_parts {s : State} (hup : s.core.up = true) : bitAt s.restartS.core.ready.toNat 1 = false ∧
    s.restartS.rail.fsEpoch = s.rail.fsEpoch + 1 ∧ s.restartS.tab.points = s.tab.points := by
  have hgo : ¬ (!s.core.up) = true := by simp [hup]
  have hready := bitAt_setReady s 1 false (by decide)
  obtain ⟨x, l, m, hreset, -, hepoch⟩ := firmwareReset_record (s.setReady 1 false) false [1]
  obtain ⟨k, hstopped⟩ := setReady_link s 1 false
  rw [State.restartS, if_neg hgo, hreset]
  refine ⟨hready, ?_, congrArg Tables.points (setReady_tab s 1 false)⟩
  rw [hepoch, hstopped]
  rfl

/-! ### The commands -/

section
variable {s : State} (t : Nat)

section
variable (hup : s.cinch.up = true)
include hup

theorem exec_brownoutWarning (code : Nat) (hold : Bool) :
    exec (.brownoutWarning t code hold) s = .next (((s.advance t).brownoutWarning code hold).keeping (s.advance t)) :=
  onCinchDie_next t s (State.brownoutWarning · code hold) hup

theorem exec_brownoutWarningClear : exec (.brownoutWarningClear t) s = .next ((s.advance t).warningClear.keeping (s.advance t)) :=
  onCinchDie_next t s State.warningClear hup

theorem exec_brownOut : exec (.brownOut t) s = .next ((s.advance t).brownOut.keeping (s.advance t)) :=
  onCinchDie_next t s State.brownOut hup

end

section
variable (hup : s.core.up = true)
include hup

theorem exec_brownoutCopyDone :
    exec (.brownoutCopyDone t) s = .next (((s.advance t).copyComplete.settleShip 4).keeping (s.advance t)) :=
  onBeam_next t s (fun s => s.copyComplete.settleShip 4) hup

theorem exec_foremanGRestart : exec (.foremanGRestart t) s = .next ((s.advance t).restartG.keeping (s.advance t)) :=
  onBeam_next t s State.restartG hup

theorem exec_foremanSRestart : exec (.foremanSRestart t) s = .next ((s.advance t).restartS.keeping (s.advance t)) :=
  onBeam_next t s State.restartS hup

end

end

/-- Settles O56: the warning by what it leaves standing, its clear by whether the rails are off, the brown-out by the entry into
Halter mode, and the restarts by the parts that a Foreman's end reaches. -/
theorem brownOut : Obligations.BrownOut := by
  refine ⟨fun s t hcinch => ⟨fun code hold hwarn => ?warning, fun hwarn => ?clear, ?rails, fun hup hcopying hrung hship => ?copy⟩,
    fun s t hup => ⟨fun h => ?restartG, ?restartS⟩⟩
  case warning =>
    obtain ⟨p, h, hwarned, hhold, hcode⟩ := brownoutWarning_standing (s.advance t) hwarn code hold
    have hpower : ((s.advance t).brownoutWarning code hold).power = p := congrArg Standing.power h
    refine ⟨_, exec_brownoutWarning t hcinch code hold, ?_⟩
    rw [State.keeping_power, hpower]
    exact ⟨hwarned, hhold, hcode, congrArg Standing.warning h⟩
  case clear =>
    refine ⟨_, exec_brownoutWarningClear t hcinch, ?_⟩
    have hexits := warningClear_exits (s := s.advance t) hwarn
    have hsupply : (s.advance t).warningClear.supply =
        ({ s.power with warn := false, railsOff := s.power.railsOff && decide (s.core.resetCause ≠ 7) }, false) := by
      cases hrails : s.power.railsOff with
      | true => exact warningClear_railsOff (s := s.advance t) hwarn hrails
      | false => rw [warningClear_railsOn (s := s.advance t) hwarn hrails, State.advance_power, Bool.false_and, ← hrails]
    have hpower := congrArg Prod.fst hsupply
    exact ⟨congrArg Power.warn hpower, congrArg Prod.snd hsupply, congrArg Power.railsOff hpower,
      fun hon hup hwait hhalter hbar hsec hidle _ => hexits hon hup hwait hhalter hbar hsec hidle⟩
  case rails => exact ⟨_, exec_brownOut t hcinch, brownOut_parts (s.advance t)⟩
  case copy =>
    obtain ⟨m, h⟩ := copyComplete_parts (s := s.advance t) hcopying hrung
    refine ⟨_, exec_brownoutCopyDone t hup, ?_⟩
    rw [settleShip_none (by rw [h]; exact hship), State.keeping_power, h]
    exact ⟨rfl, rfl⟩
  case restartG => exact ⟨_, exec_foremanGRestart t hup, restartG_parts (s := s.advance t) hup h⟩
  case restartS => exact ⟨_, exec_foremanSRestart t hup, restartS_parts (s := s.advance t) hup⟩

end Sys2Proof.Machine
end
